-- ==== Sys2Proof/Word.lean ====
section
/-! DEFINITION. Word types: bytes, 16-bit fields, tags and the small index types of the EN-28. -/

namespace Sys2Proof

/-- One byte of a frame, and an 8-bit saturating count. -/
abbrev Byte := BitVec 8

/-- A 16-bit field: counts, coordinates and the CRC. -/
abbrev Half := BitVec 16

/-- A frame number, 0..255; an odometry tag is one too (00 section 4.5). -/
abbrev Seq := BitVec 8

/-- A station position, 0..7. -/
abbrev Pos := Fin 8

/-- A physical slot of the hazard table, 0..23; also a report id. -/
abbrev Slot := Fin 24

end Sys2Proof
end

