-- ==== Sys2Proof/Syntax.lean ====
section
/-! DEFINITION. The frames of the chassis link as named fields, and the commands of the EN-28: one constructor of
`Instr` for each row of spec/opcode_table.json, in the table's order. -/

namespace Sys2Proof

/-- Role of a frame's head (R191): the third head byte's bits 5..4. -/
inductive HeadRole where
  | sense | wheel | controller | other
  deriving DecidableEq, Repr

/-- The head fields of a frame (11.1), without its kind and length, which its payload gives. -/
structure Head where
  src : Pos
  urgent : Bool
  seq : Seq
  role : HeadRole
  deriving DecidableEq, Repr

/-- Accepted floor class (R8). -/
inductive FloorClass where
  | unknown | cliff | hard | lightRug | darkRug | dark
  deriving DecidableEq, Repr

/-- Wall result (R19). -/
inductive WallResult where
  | unseen | clear | obstacle
  deriving DecidableEq, Repr

inductive Shade where
  | light | dark
  deriving DecidableEq, Repr

/-- A subset of the beams LEFT, RIGHT and HALO. -/
structure Zone where
  left : Bool
  right : Bool
  halo : Bool
  deriving DecidableEq, Repr

/-- The kind of a record or report with the field bound to it: the shade of a RUG, the zone of a DOCK. -/
inductive Hazard where
  | cliff
  | rug (shade : Shade)
  | obstacle
  | dock (zone : Zone)
  deriving DecidableEq, Repr

inductive Action where
  | add | update | withdraw
  deriving DecidableEq, Repr

inductive Answer where
  | none | cliff | darkRug
  deriving DecidableEq, Repr

inductive FaultCause where
  | none | slots | crc | link | floorEmitter
  deriving DecidableEq, Repr

inductive EmitterStatus where
  | untested | ok | failed
  deriving DecidableEq, Repr

/-- Progress codes 1..7 and 15 (R185). -/
inductive ProgressCode where
  | c1 | c2 | c3 | c4 | c5 | c6 | c7 | c15
  deriving DecidableEq, Repr

/-- Odometry payload (11.2). -/
structure OdometryData where
  left : Half
  right : Half
  interval : Byte
  errors : Byte
  deriving DecidableEq, Repr

/-- Hazard report payload (11.2). -/
structure HazardData where
  action : Action
  kind : Hazard
  id : Slot
  x : Half
  y : Half
  conf : BitVec 4
  tag : Option Seq
  deriving DecidableEq, Repr

/-- The sixteen flags of a verdict (R120), in the order of the flag table. -/
structure Flags where
  stopOwn : Bool
  stopLine : Bool
  cliffUnder : Bool
  cliffNear : Bool
  rugAhead : Bool
  bump : Bool
  drop : Bool
  floorUnseen : Bool
  wallUnseen : Bool
  odoStalled : Bool
  odoLost : Bool
  roleClash : Bool
  posClash : Bool
  missingPeer : Bool
  tableFull : Bool
  checking : Bool
  deriving DecidableEq, Repr

/-- Verdict payload (R129). -/
structure VerdictData where
  ahead : BitVec 11
  behind : BitVec 11
  flags : Flags
  floorClass : FloorClass
  wall : WallResult
  deriving DecidableEq, Repr

/-- Check request payload (R101). -/
structure CheckRequestData where
  id : BitVec 4
  x : Half
  y : Half
  tag : Option Seq
  deriving DecidableEq, Repr

/-- Check answer payload (R113). -/
structure CheckAnswerData where
  dest : Pos
  id : BitVec 4
  answer : Answer
  conf : BitVec 4
  deriving DecidableEq, Repr

/-- The twelve counts of the health report (R176), in the table's order. -/
structure Counts where
  crcError : Byte
  overrun : Byte
  malformed : Byte
  txFail : Byte
  duplicate : Byte
  staleReport : Byte
  lateAnswer : Byte
  tableDiscard : Byte
  checkForced : Byte
  beaconAbort : Byte
  blindedBursts : Byte
  refusedOrder : Byte
  deriving DecidableEq, Repr

/-- Boot status payload (R185). -/
structure BootData where
  code : ProgressCode
  cause : FaultCause
  usable : Fin 25
  floorEmitter : EmitterStatus
  wallEmitter : EmitterStatus
  deriving DecidableEq, Repr

/-- Setup part 0: floor point and mounting point. -/
structure Part0 where
  fx : Half
  fy : Half
  mx : Half
  my : Half
  deriving DecidableEq, Repr

/-- Setup part 1: wall axis and wall distance constant. -/
structure Part1 where
  ax : Half
  ay : Half
  kw : Half
  deriving DecidableEq, Repr

/-- Setup part 2: extents, half-width and base stop distance. -/
structure Part2 where
  xf : Half
  xr : Half
  hw : Half
  sBase : Half
  deriving DecidableEq, Repr

/-- Setup part 3: calibration, expected set, ladder and options. -/
structure Part3 where
  fd : Half
  fh : Half
  expected : Byte
  lf : BitVec 4
  lm : BitVec 4
  w : Byte
  texture : Byte
  options : Byte
  deriving DecidableEq, Repr

inductive PartData where
  | part0 (p : Part0)
  | part1 (p : Part1)
  | part2 (p : Part2)
  | part3 (p : Part3)
  deriving DecidableEq, Repr

/-- Setup part payload (11.2). -/
structure SetupData where
  dest : Pos
  part : PartData
  deriving DecidableEq, Repr

/-- The payload of each of the ten kinds (R192). -/
inductive Payload where
  | odometry (d : OdometryData)
  | hazard (d : HazardData)
  | verdict (d : VerdictData)
  | checkRequest (d : CheckRequestData)
  | checkAnswer (d : CheckAnswerData)
  | health (d : Counts)
  | boot (d : BootData)
  | setup (d : SetupData)
  | mode (value : Byte)
  | rejoin (dest : Pos)
  deriving DecidableEq, Repr

/-- A frame as its named fields. -/
structure Frame where
  head : Head
  payload : Payload
  deriving DecidableEq, Repr

/-- The two reflectance channels. -/
inductive Chan where
  | floor | wall
  deriving DecidableEq, Repr

inductive Wheel where
  | left | right
  deriving DecidableEq, Repr

/-- The drive current an emitter test senses (R184): in the working band, an open emitter, or a shorted one. -/
inductive Drive where
  | inBand | tooLittle | tooMuch
  deriving DecidableEq, Repr

/-- The commands. A received frame's operands are its head and its payload's fields. Where an operand is named
`waited`, it is the time that passed before the event and that State has not yet counted (assumption log 4). -/
inductive Instr where
  | hardReset
  | strapSample (pos2 pos1 pos0 role : Bool)
  | tableSlotTest (good : BitVec 24)
  | crcSelfTest (result : Half)
  | linkLoopbackTimeout
  | floorEmitterTest (drive : Drive)
  | wallEmitterTest (drive : Drive)
  | bootTimerExpiry
  | setupPart (h : Head) (d : SetupData)
  | rejoinOrder (h : Head) (dest : Pos)
  | modeOrder (h : Head) (value : Byte)
  | floorPeriodExpiry
  | wallPeriodExpiry
  | guardedBurstStart (c : Chan)
  | floorBurstEnd (ambient lit : BitVec 10)
  | wallBurstEnd (ambient lit : BitVec 10)
  | bumpChange (active : Bool)
  | dropChange (active : Bool)
  | encoderEdge (wheel : Wheel) (a b : Bool)
  | odoTimerExpiry
  | odometryFrame (h : Head) (d : OdometryData)
  | stalledTimerExpiry
  | odoRoleClashHoldExpiry
  | carryEnd
  | ageTimerExpiry
  | ageTicksApplied
  | serveOwnObservation
  | serveOwnCliff
  | serveFloorEvidence
  | serveWallClear
  | servePeerAdd
  | servePeerUpdate
  | servePeerWithdraw
  | serveCheckOutcome
  | serveLookup
  | checkTimeout
  | checkAnswer (h : Head) (d : CheckAnswerData)
  | checkRequest (h : Head) (d : CheckRequestData)
  | hazardReport (h : Head) (d : HazardData)
  | bootStatus (h : Head) (d : BootData)
  | verdict (h : Head) (d : VerdictData)
  | healthReport (h : Head) (d : Counts)
  | rxFrameRejected (bytes : List Byte)
  | rxLengthMalformed (length : BitVec 4)
  | frameAbandoned
  | frameHandlingEnd
  | txAttemptStart
  | txMismatch
  | txComplete
  | routineYieldExpiry
  | healthTimerExpiry
  | stopHoldExpiry
  | stopLineChange (asserted : Bool)
  | verdictTimerExpiry
  | beaconEdge (mark : Bool) (waited : Nat)
  | beaconSpaceTimeout
  | sightingWindowExpiry
  | peerSilent (p : Pos)
  | peerLost (p : Pos)
  | posClashHoldExpiry
  | roleClashHoldExpiry
  | missingPeerTimerExpiry
  | startBit (waited : Nat)
  | ledFlash
  deriving DecidableEq, Repr

end Sys2Proof
end

