-- ==== Sys2Proof/Machine/State.lean ====
section
/-! DEFINITION. The state of the EN-28, block by block (00 section 3.2), its values after a hard reset, and the two
reason types. A timer is the number of microseconds left, `none` when it is stopped. -/

namespace Sys2Proof.Machine

open Sys2Proof

/-- A timer: microseconds left, or stopped. -/
abbrev Timer := Option Nat

/-! ### Start-up Controller -/

/-- Node states (R180); `held` while a hard reset lasts. -/
inductive NodeState where
  | held | strap | selfTest | awaitSetup | run | fault
  deriving DecidableEq, Repr

/-- Self-test steps by progress code (R182). -/
inductive TestStep where
  | s7 | s6 | s5 | s4 | s3
  deriving DecidableEq, Repr

/-- The strapped role (R181). -/
inductive NodeRole where
  | sense | wheel
  deriving DecidableEq, Repr

/-- The LED pattern (R186). In a blink group, `count` is the group's number of flashes and `done` how many of them
have ended. -/
inductive Led where
  | released | off | steady
  | flashOn (count done : Nat)
  | flashOff (count done : Nat)
  | gap
  | faultOn | faultOff
  deriving DecidableEq, Repr

/-- The clamped values of a completed setup (R188). -/
structure SetupValues where
  fx : Int
  fy : Int
  mx : Int
  my : Int
  ax : Int
  ay : Int
  kw : Nat
  xf : Int
  xr : Int
  hw : Int
  sBase : Int
  fd : Nat
  fh : Nat
  expected : Byte
  lf : Nat
  lm : Nat
  w : Nat
  texture : Nat
  bumpFitted : Bool
  dropFitted : Bool
  reverseLeft : Bool
  reverseRight : Bool
  deriving DecidableEq, Repr

structure Startup where
  node : NodeState
  step : Option TestStep
  pos : Pos
  role : NodeRole
  usable : Nat
  floorEmitter : EmitterStatus
  wallEmitter : EmitterStatus
  cause : FaultCause
  code : Option ProgressCode
  part0 : Option Part0
  part1 : Option Part1
  part2 : Option Part2
  part3 : Option Part3
  setup : Option SetupValues
  bootTimer : Timer
  /-- Boot frame pending: no, or the enqueue order of the pending frame (R185). -/
  bootPending : Option Nat
  loopTimer : Timer
  led : Led
  ledTimer : Timer
  deriving DecidableEq, Repr

/-! ### Floor and Wall Channels, BUMP and DROP -/

/-- What both channels hold (R1 to R6). `ambient` is the time left of the ambient sample of the burst in progress, and
stopped once the lit sample runs. -/
structure Channel where
  step : Nat
  relock : Nat
  blinded : Nat
  bursting : Bool
  ambient : Timer
  due : Bool
  guard : Timer
  period : Timer
  deriving DecidableEq, Repr

structure FloorChannel where
  ch : Channel
  /-- Texture window: amplitudes, oldest first (R10). -/
  window : List Nat
  runClass : Option FloorClass
  runCount : Nat
  repeats : Nat
  accepted : FloorClass
  deriving DecidableEq, Repr

structure WallChannel where
  ch : Channel
  result : WallResult
  healthOk : Bool
  deriving DecidableEq, Repr

/-- A two-sample filter of one pin (R21, R126): accepted level, last sample, time to the next sample. -/
structure Filter where
  accepted : Bool
  last : Option Bool
  sample : Timer
  deriving DecidableEq, Repr

/-! ### Encoder Interface -/

/-- The levels (A, B) of one wheel's encoder channels. -/
structure Pair where
  a : Bool
  b : Bool
  deriving DecidableEq, Repr

structure Encoder where
  left : Half
  right : Half
  quadLeft : Option Pair
  quadRight : Option Pair
  lastLeft : Option Pair
  lastRight : Option Pair
  sample : Timer
  errors : Byte
  odoTimer : Timer
  deriving DecidableEq, Repr

/-! ### Odometry Unit -/

inductive OdoState where
  | lost | tracking | stalled
  deriving DecidableEq, Repr

/-- A history ring entry (R40): a motion with its pose delta, or a break. -/
inductive RingEntry where
  | motion (fromTag toTag : Seq) (ds dth : Int)
  | brk (fromTag toTag : Seq)
  deriving DecidableEq, Repr

structure Odometry where
  state : OdoState
  source : Option Pos
  baseline : Option (Half × Half)
  tag : Option Seq
  ring : List RingEntry
  lastDs : Int
  stalled : Timer
  clashHold : Timer
  deriving DecidableEq, Repr

/-! ### Table Manager -/

/-- Own origins (03 section 3.2). -/
inductive Origin where
  | floor | wall | bump | beacon
  deriving DecidableEq, Repr

/-- A peer origin: (source position, report id). -/
structure Key where
  src : Pos
  id : Slot
  deriving DecidableEq, Repr

/-- The check field of a CLIFF. -/
inductive CheckMark where
  | none | pending | deferred
  deriving DecidableEq, Repr

/-- A record of the hazard table (03 section 3.2). `check` is present for a CLIFF only, `clearRun` for an OBSTACLE
with own origin WALL only. -/
structure Record where
  slot : Slot
  kind : Hazard
  x : Int
  y : Int
  conf : Nat
  age : Nat
  own : Option Origin
  reported : Bool
  keys : List Key
  check : Option CheckMark
  clearRun : Option Nat
  deriving DecidableEq, Repr

inductive Outcome where
  | confirm | overrule
  deriving DecidableEq, Repr

/-- A peer report as it waits in the FIFO (R97). -/
structure PeerReport where
  action : Action
  src : Pos
  id : Slot
  kind : Hazard
  x : Int
  y : Int
  conf : Nat
  tag : Option Seq
  deriving DecidableEq, Repr

/-- An item of the request FIFO (R52). -/
inductive Item where
  /-- An own observation of kind CLIFF, RUG, OBSTACLE or DOCK. -/
  | own (kind : Hazard) (origin : Origin) (x y : Int) (tag : Option Seq)
  | floorClear (x y : Int) (tag : Option Seq)
  | wallClear (mx my ax ay : Int) (tag : Option Seq)
  | report (r : PeerReport)
  | outcome (o : Outcome) (slot : Slot)
  | lookup (requester : Pos) (id : BitVec 4) (x y : Int) (tag : Option Seq)
  deriving DecidableEq, Repr

/-- The four inputs a carry takes at its start (R76). -/
structure CarryInputs where
  tableTag : Option Seq
  odoTag : Option Seq
  ring : List RingEntry
  occupied : Nat
  deriving DecidableEq, Repr

/-- What the Table Manager is doing (R50). -/
inductive Work where
  | idle
  | serving (i : Item)
  | aging (n : Nat)
  | carrying (c : CarryInputs)
  deriving DecidableEq, Repr

structure TableManager where
  good : BitVec 24
  records : List Record
  tag : Option Seq
  fifo : List Item
  carryFlag : Bool
  pendingAge : Nat
  ageTimer : Timer
  full : Bool
  work : Work
  workTimer : Timer
  deriving DecidableEq, Repr

/-! ### Report Handler -/

inductive Phase where
  | idle | awaiting | resolved
  deriving DecidableEq, Repr

/-- One answer so far (05, state table). -/
structure AnswerSoFar where
  src : Pos
  answer : Answer
  conf : Nat
  deriving DecidableEq, Repr

structure ReportHandler where
  phase : Phase
  outstanding : Option Slot
  checkId : Option (BitVec 4)
  awaited : List Pos
  answers : List AnswerSoFar
  checkTimer : Timer
  deferred : Option Slot
  nextId : BitVec 4
  ages : Vector Nat 24
  deriving DecidableEq, Repr

/-! ### Clearance Unit -/

structure Clearance where
  ahead : Nat
  behind : Nat
  cliffNear : Bool
  rugAhead : Bool
  ownStop : Bool
  driver : Bool
  hold : Timer
  line : Filter
  last : Option VerdictData
  verdictTimer : Timer
  deriving DecidableEq, Repr

/-! ### Beacon Decoder -/

/-- Decode states with their phase (07 section 7.3). -/
inductive Decode where
  | idle
  | startMark | startSpace
  | bitMark (n : Nat) | bitSpace (n : Nat)
  deriving DecidableEq, Repr

structure Beacon where
  mark : Bool
  last : Option Bool
  sample : Timer
  decode : Decode
  width : Nat
  /-- Microseconds of the 50 us tick that is running (R138). -/
  subTick : Nat
  code : List Bool
  window : Timer
  set : Zone
  deriving DecidableEq, Repr

/-! ### Peer Monitor -/

inductive Liveness where
  | unknown | alive | silent | lost
  deriving DecidableEq, Repr

/-- A peer entry (R149). `silence` is the time in microseconds since the last accepted frame while it runs. -/
structure PeerEntry where
  state : Liveness
  role : Option HeadRole
  lastSeq : Option Seq
  silence : Option Nat
  expected : Bool
  deriving DecidableEq, Repr

inductive Mode where
  | clean | dock | park
  deriving DecidableEq, Repr

structure PeerMonitor where
  entries : Vector PeerEntry 8
  mode : Mode
  missingTimer : Timer
  missing : Bool
  posHold : Timer
  roleHold : Timer
  deriving DecidableEq, Repr

/-! ### Link Controller -/

/-- A transmit queue entry (09 section 9.4). -/
structure TxEntry where
  payload : Payload
  urgent : Bool
  seq : Option Seq
  crc : Option Half
  attempts : Nat
  order : Nat
  deriving DecidableEq, Repr

/-- The entry on the line; `retry` is false once a rejoin order has flushed the queue behind it (R178). -/
structure OnLine where
  entry : TxEntry
  retry : Bool
  deriving DecidableEq, Repr

/-- The line as this station follows it (R161): busy with a frame, in a 0-level bit outside a frame, or idle for a
number of bit times. -/
inductive LineState where
  | busy
  | low
  | idle (bits : Nat)
  deriving DecidableEq, Repr

/-- What the handling of an applied odometry frame still waits for (R174). -/
inductive CarryWait where
  | no | start | finish
  deriving DecidableEq, Repr

/-- The handling of the oldest buffered frame (R174). -/
structure Handling where
  timer : Nat
  wait : CarryWait
  deriving DecidableEq, Repr

structure Link where
  queue : List TxEntry
  nextOrder : Nat
  onLine : Option OnLine
  txTimer : Timer
  seq : Seq
  yield : Bool
  line : LineState
  /-- Access wait (R179): the bit times since the transmit queue last started anew. -/
  access : Nat
  /-- The occupied receive buffers, oldest first; the first is the frame being handled. -/
  rx : List Frame
  handling : Option Handling
  healthTimer : Timer
  counts : Counts
  deriving DecidableEq, Repr

/-! ### Pins -/

/-- What the outside does to the STOP line: nothing, pulls it low, or holds it high (R126). -/
inductive LinePull where
  | free | low | high
  deriving DecidableEq, Repr

/-- The input pins, as the outside holds them (00 section 5). -/
structure Pins where
  encLeft : Pair
  encRight : Pair
  beaconMark : Bool
  bump : Bool
  drop : Bool
  stopLine : LinePull
  deriving DecidableEq, Repr

/-! ### The whole state -/

/-- The node: its eleven blocks, its two switch filters and its input pins; `choices` counts the uses of a choice
the spec leaves free (assumption log 2); `pending` is the queue of commands, first in, first out. -/
structure State where
  pins : Pins
  startup : Startup
  floor : FloorChannel
  wall : WallChannel
  bump : Filter
  drop : Filter
  enc : Encoder
  odo : Odometry
  table : TableManager
  report : ReportHandler
  clear : Clearance
  beacon : Beacon
  peers : PeerMonitor
  link : Link
  choices : Nat
  pending : List Instr
  deriving DecidableEq, Repr

/-- No rule of the spec stops the node without an effect: FAULT (R190) is a node state with a next state, so there
is no fault for a step to raise. -/
inductive Fault where
  deriving DecidableEq, Repr

/-- The one refusal. -/
inductive Refusal where
  /-- Raised by `exec`'s arm for a command that has no meaning yet: safe, since the run stops. No arm of this model
  raises it. -/
  | notModelled (mnemonic : String)
  deriving DecidableEq, Repr

/-! ### Replacing one block -/

def State.setPins (s : State) (v : Pins) : State := { s with pins := v }
def State.setStartup (s : State) (v : Startup) : State := { s with startup := v }
def State.setFloor (s : State) (v : FloorChannel) : State := { s with floor := v }
def State.setWall (s : State) (v : WallChannel) : State := { s with wall := v }
def State.setBump (s : State) (v : Filter) : State := { s with bump := v }
def State.setDrop (s : State) (v : Filter) : State := { s with drop := v }
def State.setEnc (s : State) (v : Encoder) : State := { s with enc := v }
def State.setOdo (s : State) (v : Odometry) : State := { s with odo := v }
def State.setTable (s : State) (v : TableManager) : State := { s with table := v }
def State.setReport (s : State) (v : ReportHandler) : State := { s with report := v }
def State.setClear (s : State) (v : Clearance) : State := { s with clear := v }
def State.setBeacon (s : State) (v : Beacon) : State := { s with beacon := v }
def State.setPeers (s : State) (v : PeerMonitor) : State := { s with peers := v }
def State.setLink (s : State) (v : Link) : State := { s with link := v }
def State.setChoices (s : State) (v : Nat) : State := { s with choices := v }
def State.setPending (s : State) (v : List Instr) : State := { s with pending := v }

/-! ### Reset values -/

/-- Both channels after a hard reset (R24). -/
def Channel.reset : Channel :=
  { step := 4, relock := 0, blinded := 0, bursting := false, ambient := none, due := false, guard := none,
    period := none }

/-- A filter that does not sample, at its inactive level (R21, R135). -/
def Filter.stopped : Filter := { accepted := false, last := none, sample := none }

def FloorChannel.reset : FloorChannel :=
  { ch := Channel.reset, window := [], runClass := none, runCount := 0, repeats := 0, accepted := .unknown }

def WallChannel.reset : WallChannel := { ch := Channel.reset, result := .unseen, healthOk := true }

def Encoder.reset : Encoder :=
  { left := 0, right := 0, quadLeft := none, quadRight := none, lastLeft := none, lastRight := none,
    sample := none, errors := 0, odoTimer := none }

def Odometry.reset : Odometry :=
  { state := .lost, source := none, baseline := none, tag := none, ring := [], lastDs := 0, stalled := none,
    clashHold := none }

def TableManager.reset : TableManager :=
  { good := 0, records := [], tag := none, fifo := [], carryFlag := false, pendingAge := 0, ageTimer := none,
    full := false, work := .idle, workTimer := none }

def ReportHandler.reset : ReportHandler :=
  { phase := .idle, outstanding := none, checkId := none, awaited := [], answers := [], checkTimer := none,
    deferred := none, nextId := 0, ages := Vector.replicate 24 0 }

def Clearance.reset : Clearance :=
  { ahead := 2047, behind := 2047, cliffNear := false, rugAhead := false, ownStop := true, driver := true,
    hold := none, line := Filter.stopped, last := none, verdictTimer := none }

/-- The empty code set. -/
def Zone.empty : Zone := { left := false, right := false, halo := false }

def Beacon.reset : Beacon :=
  { mark := false, last := none, sample := none, decode := .idle, width := 0, subTick := 0, code := [],
    window := none, set := Zone.empty }

def PeerEntry.reset : PeerEntry :=
  { state := .unknown, role := none, lastSeq := none, silence := none, expected := false }

def PeerMonitor.reset : PeerMonitor :=
  { entries := Vector.replicate 8 PeerEntry.reset, mode := .clean, missingTimer := none, missing := false,
    posHold := none, roleHold := none }

def Counts.zero : Counts :=
  { crcError := 0, overrun := 0, malformed := 0, txFail := 0, duplicate := 0, staleReport := 0, lateAnswer := 0,
    tableDiscard := 0, checkForced := 0, beaconAbort := 0, blindedBursts := 0, refusedOrder := 0 }

def Link.reset : Link :=
  { queue := [], nextOrder := 0, onLine := none, txTimer := none, seq := 0, yield := false, line := .idle 0,
    access := 0, rx := [], handling := none, healthTimer := none, counts := Counts.zero }

/-- The Start-up Controller after a hard reset (R190), at its release: node state STRAP, LED off. -/
def Startup.reset : Startup :=
  { node := .strap, step := none, pos := 0, role := .sense, usable := 0, floorEmitter := .untested,
    wallEmitter := .untested, cause := .none, code := none, part0 := none, part1 := none, part2 := none,
    part3 := none, setup := none, bootTimer := none, bootPending := none, loopTimer := none, led := .off,
    ledTimer := none }

/-- DESIGN CHOICE (log 9): every input at its inactive level. -/
def Pins.reset : Pins :=
  { encLeft := ⟨false, false⟩, encRight := ⟨false, false⟩, beaconMark := false, bump := false, drop := false,
    stopLine := .free }

/-- The machine right after a hard reset, at its release. -/
def State.reset : State :=
  { pins := Pins.reset, startup := Startup.reset, floor := FloorChannel.reset, wall := WallChannel.reset,
    bump := Filter.stopped, drop := Filter.stopped, enc := Encoder.reset, odo := Odometry.reset,
    table := TableManager.reset, report := ReportHandler.reset, clear := Clearance.reset, beacon := Beacon.reset,
    peers := PeerMonitor.reset, link := Link.reset, choices := 0, pending := [] }

end Sys2Proof.Machine
end

