-- ==== Sys2Proof/Machine/Params.lean ====
section
/-! DEFINITION. The fixed periods and limits of the EN-28 (00 section 6 and the parameter tables of the chapters).
Times are in microseconds, lengths in millimetres. -/

namespace Sys2Proof.Machine

def ms (n : Nat) : Nat := 1000 * n

/-- Floor burst period by mode, and the wall burst period (R2). -/
def floorPeriod : Mode → Nat
  | .park => ms 20
  | _ => ms 2
def wallPeriod : Nat := ms 4
/-- The ambient sample of a burst (R1). -/
def ambientTime : Nat := 40
/-- Guard after the other channel's burst (R3). -/
def guardTime : Nat := 50
/-- Ambient limit (R4), and the blinded run counts of BLINDED and of the loss of the result (R13). -/
def ambientLimit : Nat := 300
def blindedAt : Nat := 4
def blindedMax : Nat := 50
/-- Sample periods of the filters (R21, R26, R126, R137). -/
def switchSample : Nat := ms 1
def encoderSample : Nat := 20
def beaconSample : Nat := 25
/-- Odometry (R30, R35, R37, R39, R42). -/
def odoPeriod : Nat := ms 10
def clashHoldTime : Nat := ms 1000
def jumpLimit : Nat := 2047
def maxSubSteps : Nat := 4
def maxTurn : Nat := 128
def maxMove : Nat := 255
def ringSize : Nat := 4
def stalledTime : Nat := ms 50
/-- Hazard table (R48, R52, R56 to R58, R62, R67, R69, R70, R73). -/
def rangeLimit : Nat := 1500
def clampLimit : Int := 2047
def fifoSize : Nat := 8
def maxKeys : Nat := 4
def mergeRadius : Hazard → Nat
  | .cliff => 30
  | .rug _ => 60
  | .obstacle => 40
  | .dock _ => 200
def clearRadius : Nat := 30
def overruleRadius : Nat := 30
def lookupRadius : Nat := 30
def maxConf : Nat := 15
def confirmedAt : Nat := 8
def protectedRange : Nat := 400
def clearRunMax : Nat := 3
def ageTick : Nat := ms 100
def maxAge : Nat := 255
def tentativeAge : Nat := 8
def confirmedAge : Nat := 120
def dockAge : Nat := 250
def aheadWindow : Nat := 8
/-- Durations of the Table Manager's work for a number of occupied slots (R50, R51, R84). -/
def serviceTime (occupied : Nat) : Nat := 2 + occupied
def carryTime (occupied : Nat) : Nat := 10 + 8 * occupied
/-- Checks and refreshes (R96, R100, R104). -/
def checkTime : Nat := ms 20
def refreshAge : Nat := 20
def overruleConf : Nat := 8
/-- Clearance Unit (R115 to R132). -/
def corridorMargin : Int := 20
def speedFactor : Int := 12
def lostMargin : Int := 360
def cliffNearLimit : Int := 100
def rugAheadReach : Int := 150
def dockRadius : Nat := 150
def clearCeiling : Nat := 2047
def stopHoldTime : Nat := ms 30
def verdictTime : Nat := ms 100
def verdictStep : Nat := 16
/-- Beacon Decoder (R138, R142, R145, R147). -/
def widthMax : Nat := 255
def widthTick : Nat := 50
def spaceTimeout : Nat := 100
def sightingTime : Nat := ms 120
def haloDistance : Int := 150
def beamDistance : Int := 600
/-- Peer Monitor (R151, R153, R154, R157). -/
def silentTime : Nat := ms 250
def lostTime : Nat := ms 1000
def missingTime : Nat := ms 2000
/-- Link Controller (R161, R163, R165, R168, R170, R174, R177). -/
def startIdle : Nat := 12
def positionStep : Nat := 4
def routineBase : Nat := 8
def yieldIdle : Nat := 76
def txQueueSize : Nat := 6
def rxBuffers : Nat := 2
def handlingTime : Nat := 8
def healthTime : Nat := ms 1000
/-- Start-up Controller (R182, R183, R185, R186). -/
def leastUsable : Nat := 16
def loopbackTime : Nat := ms 100
def bootTimeAwait : Nat := ms 500
def bootTimeFault : Nat := ms 1000
def blinkHalf : Nat := ms 150
def blinkGap : Nat := ms 1000
def faultHalf : Nat := ms 50
/-- The CRC of the nine bytes 0x31 to 0x39 (R162, R183). -/
def crcCheckValue : Half := 0x29B1#16

end Sys2Proof.Machine
end

