-- ==== Sys2Proof/Machine/Arith.lean ====
section
/-! DEFINITION. Rounding, square root, distance and the pose arithmetic (00 section 4.3 and 4.4, R38, R39, R79, R80). -/

namespace Sys2Proof.Machine

open Sys2Proof

/-- round(n / d): to nearest, ties away from zero (00 section 4.3). -/
def roundDiv (n : Int) (d : Nat) : Int :=
  if 0 ≤ n then (2 * n + d) / (2 * d) else -((2 * (-n) + d) / (2 * d))

/-- Bits of the integer square root from bit `b - 1` down, above `acc`. -/
def isqrtFrom (n : Nat) : Nat → Nat → Nat
  | 0, acc => acc
  | b + 1, acc => isqrtFrom n b (if (acc + 2 ^ b) * (acc + 2 ^ b) ≤ n then acc + 2 ^ b else acc)

/-- isqrt(n) for every 32-bit n: the largest integer whose square does not exceed n. -/
def isqrt (n : Nat) : Nat := isqrtFrom n 16 0

/-- ceil(a / b). -/
def ceilDiv (a b : Nat) : Nat := (a + b - 1) / b

/-- clamp to lo..hi. -/
def clampTo (lo hi v : Int) : Int := max lo (min hi v)

/-- Chebyshev distance of two points (00 section 4.4). -/
def cheb (x1 y1 x2 y2 : Int) : Nat := max (x1 - x2).natAbs (y1 - y2).natAbs

/-- Range of a point (00 section 4.4). -/
def rangeOf (x y : Int) : Nat := max x.natAbs y.natAbs

/-- A signed difference of two counts, wrapped into -32768..32767 (R37). -/
def countDelta (new old : Half) : Int := (new - old).toInt

/-- The distance of a frame (R38). -/
def poseDs (fd : Nat) (dl dr : Int) : Int := roundDiv ((dl + dr) * fd) 2048

/-- The turn of a frame (R38). -/
def poseDth (fh : Nat) (dl dr : Int) : Int := roundDiv ((dr - dl) * fh) 4096

/-- The sub-step count k of a pose delta (R39). -/
def subStepCount (ds dth : Int) : Nat :=
  max 1 (max (ceilDiv dth.natAbs maxTurn) (ceilDiv ds.natAbs maxMove))

/-- The part of `v` that sub-step `i` of `k` takes (R39): trunc(v / k), and one more in the sign of `v` for each of
the first |v| mod k sub-steps. -/
def subStepPart (v : Int) (k i : Nat) : Int :=
  v.tdiv k + (if i < v.natAbs % k then v.sign else 0)

/-- The sub-steps (d, φ) of a pose delta, in order (R39, R78). -/
def subSteps (ds dth : Int) : List (Int × Int) :=
  let k := subStepCount ds dth
  (List.range k).map fun i => (subStepPart ds k i, subStepPart dth k i)

/-- The sine term of a sub-step turn (R80). -/
def sineTerm (phi : Int) : Int := roundDiv (phi * 201) 8

/-- The cosine term of a sub-step turn (R80). -/
def cosineTerm (phi : Int) : Int := 16384 - roundDiv (sineTerm phi * sineTerm phi) 32768

/-- One sub-step on a point: translate, then rotate (R79). -/
def carryPoint (p : Int × Int) (step : Int × Int) : Int × Int :=
  let x := p.1 - step.1
  let s := sineTerm step.2
  let c := cosineTerm step.2
  (roundDiv (x * c + p.2 * s) 16384, roundDiv (p.2 * c - x * s) 16384)

/-- A point through a list of sub-steps, in order (R78). -/
def carryPointAll (steps : List (Int × Int)) (p : Int × Int) : Int × Int := steps.foldl carryPoint p

/-- A point at distance `d` along the wall axis from the mounting point (R18, R147). -/
def alongAxis (v : SetupValues) (d : Int) : Int × Int :=
  (v.mx + roundDiv (d * v.ax) 16384, v.my + roundDiv (d * v.ay) 16384)

def RingEntry.fromTag : RingEntry → Seq
  | .motion f _ _ _ => f
  | .brk f _ => f

def RingEntry.toTag : RingEntry → Seq
  | .motion _ t _ _ => t
  | .brk _ t => t

/-- The sub-steps of a ring entry; a break has none (R78). -/
def RingEntry.steps : RingEntry → List (Int × Int)
  | .motion _ _ ds dth => subSteps ds dth
  | .brk _ _ => []

def RingEntry.isBreak : RingEntry → Bool
  | .motion .. => false
  | .brk .. => true

/-- The entries of a ring from the one whose from_tag is `t`, if there is one (R77 row 4, R90). -/
def ringFrom (t : Seq) (ring : List RingEntry) : List RingEntry := ring.dropWhile fun e => e.fromTag ≠ t

/-- The entries from the front of a list to the first whose to_tag is `t`, that one included, when there is one. -/
def ringUpTo (t : Seq) : List RingEntry → Option (List RingEntry)
  | [] => none
  | e :: es => if e.toTag = t then some [e] else (ringUpTo t es).map (e :: ·)

/-- The path a Move takes: the entries from from_tag `t` to the newest, when there is one and none is a break (R77
row 4). -/
def movePath (t : Seq) (ring : List RingEntry) : Option (List RingEntry) :=
  let path := ringFrom t ring
  if path ≠ [] ∧ path.all (fun e => !e.isBreak) then some path else none

/-- The path of a chained point: the entries from from_tag `t` to the one whose to_tag is `tableTag`, none a break
(R90). -/
def chainPath (t tableTag : Seq) (ring : List RingEntry) : Option (List RingEntry) :=
  (ringUpTo tableTag (ringFrom t ring)).filter fun path => path.all fun e => !e.isBreak

/-- All sub-steps of a path (R78). -/
def pathSteps (path : List RingEntry) : List (Int × Int) := path.flatMap RingEntry.steps

/-- Saturating increment of an 8-bit count. -/
def satInc (c : Byte) : Byte := if c = 255#8 then c else c + 1

end Sys2Proof.Machine
end

