-- ==== Sys2Proof/Machine/Frames.lean ====
section
/-! DEFINITION. Frames as bytes: the CRC (R162), where a transmitter places each field (R191, R192) and what a
receiver reads and refuses (R193). -/

namespace Sys2Proof.Machine

open Sys2Proof

/-- One shift of the CRC register (R162). -/
def crcShift (r : Half) : Half := if r.msb then (r <<< 1) ^^^ 0x1021#16 else r <<< 1

/-- The register after one byte (R162). -/
def crcByte (r : Half) (b : Byte) : Half := Nat.repeat crcShift 8 (r ^^^ (b ++ 0#8))

/-- The CRC of a list of bytes, in the order they are sent (R162). -/
def crc16 (bytes : List Byte) : Half := bytes.foldl crcByte 0xFFFF#16

def hiByte (h : Half) : Byte := h.extractLsb' 8 8
def loByte (h : Half) : Byte := h.extractLsb' 0 8

/-- A two-byte field, high byte first (chapter 11). -/
def halfBytes (h : Half) : List Byte := [hiByte h, loByte h]
def byteHalf (hi lo : Byte) : Half := hi ++ lo

/-! ### Codes of the named values (11.1, 11.2) -/

def roleCode : HeadRole → BitVec 2
  | .sense => 0 | .wheel => 1 | .controller => 2 | .other => 3
def roleOf (b : BitVec 2) : HeadRole :=
  if b = 0 then .sense else if b = 1 then .wheel else if b = 2 then .controller else .other

def actionCode : Action → BitVec 2
  | .add => 0 | .update => 1 | .withdraw => 2
def actionOf (b : BitVec 2) : Option Action :=
  if b = 0 then some .add else if b = 1 then some .update else if b = 2 then some .withdraw else none

def zoneCode (z : Zone) : BitVec 4 := 0#1 ++ BitVec.ofBool z.halo ++ BitVec.ofBool z.right ++ BitVec.ofBool z.left
def zoneOf (b : BitVec 4) : Zone := { left := b.getLsbD 0, right := b.getLsbD 1, halo := b.getLsbD 2 }

/-- Kind and attribute of a hazard report's first byte. -/
def hazardCode : Hazard → BitVec 2 × BitVec 4
  | .cliff => (0, 0)
  | .rug .light => (1, 0)
  | .rug .dark => (1, 1)
  | .obstacle => (2, 0)
  | .dock z => (3, zoneCode z)

/-- The kind read back, refusing the attributes R193 refuses. -/
def hazardOf (kind : BitVec 2) (attr : BitVec 4) : Option Hazard :=
  if kind = 0 then (if attr = 0 then some .cliff else none)
  else if kind = 1 then (if attr = 0 then some (.rug .light) else if attr = 1 then some (.rug .dark) else none)
  else if kind = 2 then (if attr = 0 then some .obstacle else none)
  else if attr = 0 ∨ 7 < attr.toNat then none else some (.dock (zoneOf attr))

def floorCode : FloorClass → BitVec 3
  | .unknown => 0 | .cliff => 1 | .hard => 2 | .lightRug => 3 | .darkRug => 4 | .dark => 5
def floorOf (b : BitVec 3) : Option FloorClass :=
  if b = 0 then some .unknown else if b = 1 then some .cliff else if b = 2 then some .hard
  else if b = 3 then some .lightRug else if b = 4 then some .darkRug else if b = 5 then some .dark else none

def wallCode : WallResult → BitVec 2
  | .unseen => 0 | .clear => 1 | .obstacle => 2
def wallOf (b : BitVec 2) : Option WallResult :=
  if b = 0 then some .unseen else if b = 1 then some .clear else if b = 2 then some .obstacle else none

def answerCode : Answer → Byte
  | .none => 0 | .cliff => 1 | .darkRug => 2
def answerOf (b : Byte) : Option Answer :=
  if b = 0 then some .none else if b = 1 then some .cliff else if b = 2 then some .darkRug else none

def progressNat : ProgressCode → Nat
  | .c1 => 1 | .c2 => 2 | .c3 => 3 | .c4 => 4 | .c5 => 5 | .c6 => 6 | .c7 => 7 | .c15 => 15
def progressOf (b : Byte) : Option ProgressCode :=
  if b = 1 then some .c1 else if b = 2 then some .c2 else if b = 3 then some .c3 else if b = 4 then some .c4
  else if b = 5 then some .c5 else if b = 6 then some .c6 else if b = 7 then some .c7
  else if b = 15 then some .c15 else none

def causeCode : FaultCause → Byte
  | .none => 0 | .slots => 1 | .crc => 2 | .link => 3 | .floorEmitter => 4
def causeOf (b : Byte) : Option FaultCause :=
  if b = 0 then some .none else if b = 1 then some .slots else if b = 2 then some .crc
  else if b = 3 then some .link else if b = 4 then some .floorEmitter else none

def emitterCode : EmitterStatus → BitVec 2
  | .untested => 0 | .ok => 1 | .failed => 2
def emitterOf (b : BitVec 2) : Option EmitterStatus :=
  if b = 0 then some .untested else if b = 1 then some .ok else if b = 2 then some .failed else none

/-- The sixteen flags, STOP_OWN at bit 15 and CHECKING at bit 0 (11.2, Verdict). -/
def flagsWord (f : Flags) : Half :=
  BitVec.ofBool f.stopOwn ++ BitVec.ofBool f.stopLine ++ BitVec.ofBool f.cliffUnder ++ BitVec.ofBool f.cliffNear ++
  BitVec.ofBool f.rugAhead ++ BitVec.ofBool f.bump ++ BitVec.ofBool f.drop ++ BitVec.ofBool f.floorUnseen ++
  BitVec.ofBool f.wallUnseen ++ BitVec.ofBool f.odoStalled ++ BitVec.ofBool f.odoLost ++ BitVec.ofBool f.roleClash ++
  BitVec.ofBool f.posClash ++ BitVec.ofBool f.missingPeer ++ BitVec.ofBool f.tableFull ++ BitVec.ofBool f.checking
def flagsOf (w : Half) : Flags :=
  { stopOwn := w.getLsbD 15, stopLine := w.getLsbD 14, cliffUnder := w.getLsbD 13, cliffNear := w.getLsbD 12,
    rugAhead := w.getLsbD 11, bump := w.getLsbD 10, drop := w.getLsbD 9, floorUnseen := w.getLsbD 8,
    wallUnseen := w.getLsbD 7, odoStalled := w.getLsbD 6, odoLost := w.getLsbD 5, roleClash := w.getLsbD 4,
    posClash := w.getLsbD 3, missingPeer := w.getLsbD 2, tableFull := w.getLsbD 1, checking := w.getLsbD 0 }

/-- The no-tag marker and the tag byte (11.2): a marker of 1 goes with a tag byte of 0. -/
def noTagBit (t : Option Seq) : BitVec 1 := BitVec.ofBool t.isNone
def tagByte (t : Option Seq) : Byte := t.getD 0
/-- The tag read back; a marker of 1 with another tag byte is refused (R193). -/
def tagOf (marker : Bool) (b : Byte) : Option (Option Seq) :=
  if marker then (if b = 0 then some none else none) else some (some b)

/-- A position from a whole byte; above 7 is refused (R193). -/
def posOfByte (b : Byte) : Option Pos := if h : b.toNat < 8 then some ⟨b.toNat, h⟩ else none
def posByte (p : Pos) : Byte := BitVec.ofNat 8 p.val
/-- A report id from five bits; above 23 is refused (R193). -/
def slotOf (b : BitVec 5) : Option Slot := if h : b.toNat < 24 then some ⟨b.toNat, h⟩ else none

/-! ### Payload bytes (R192) -/

/-- Kind number of a payload (11.2). -/
def kindCode : Payload → BitVec 4
  | .odometry _ => 1 | .hazard _ => 2 | .verdict _ => 3 | .checkRequest _ => 4 | .checkAnswer _ => 5
  | .health _ => 6 | .boot _ => 7 | .setup _ => 8 | .mode _ => 9 | .rejoin _ => 10

def hazardBytes (d : HazardData) : List Byte :=
  let k := hazardCode d.kind
  [actionCode d.action ++ k.1 ++ k.2, noTagBit d.tag ++ 0#2 ++ BitVec.ofNat 5 d.id.val] ++
    halfBytes d.x ++ halfBytes d.y ++ [0#4 ++ d.conf, tagByte d.tag]

def verdictBytes (d : VerdictData) : List Byte :=
  halfBytes (0#5 ++ d.ahead) ++ halfBytes (0#5 ++ d.behind) ++ halfBytes (flagsWord d.flags) ++
    [0#2 ++ wallCode d.wall ++ 0#1 ++ floorCode d.floorClass]

def partBytes : PartData → List Byte
  | .part0 p => 0 :: (halfBytes p.fx ++ halfBytes p.fy ++ halfBytes p.mx ++ halfBytes p.my)
  | .part1 p => 1 :: (halfBytes p.ax ++ halfBytes p.ay ++ halfBytes p.kw)
  | .part2 p => 2 :: (halfBytes p.xf ++ halfBytes p.xr ++ halfBytes p.hw ++ halfBytes p.sBase)
  | .part3 p => 3 :: (halfBytes p.fd ++ halfBytes p.fh ++ [p.expected, p.lf ++ p.lm, p.w, p.texture, p.options])

def payloadBytes : Payload → List Byte
  | .odometry d => halfBytes d.left ++ halfBytes d.right ++ [d.interval, d.errors]
  | .hazard d => hazardBytes d
  | .verdict d => verdictBytes d
  | .checkRequest d => [noTagBit d.tag ++ 0#3 ++ d.id] ++ halfBytes d.x ++ halfBytes d.y ++ [tagByte d.tag]
  | .checkAnswer d => [posByte d.dest, 0#4 ++ d.id, answerCode d.answer, 0#4 ++ d.conf]
  | .health c => [c.crcError, c.overrun, c.malformed, c.txFail, c.duplicate, c.staleReport, c.lateAnswer,
      c.tableDiscard, c.checkForced, c.beaconAbort, c.blindedBursts, c.refusedOrder]
  | .boot d => [BitVec.ofNat 8 (progressNat d.code), causeCode d.cause, BitVec.ofNat 8 d.usable.val,
      0#4 ++ emitterCode d.wallEmitter ++ emitterCode d.floorEmitter]
  | .setup d => posByte d.dest :: partBytes d.part
  | .mode v => [v]
  | .rejoin dest => [posByte dest]

/-- The three head bytes (11.1, R191). -/
def headBytes (h : Head) (kind : BitVec 4) (length : Nat) : List Byte :=
  [kind ++ BitVec.ofNat 3 h.src.val ++ BitVec.ofBool h.urgent, h.seq, 0#2 ++ roleCode h.role ++ BitVec.ofNat 4 length]

/-- Head and payload of a frame, over which its CRC is formed (R162). -/
def frameBody (f : Frame) : List Byte :=
  headBytes f.head (kindCode f.payload) (payloadBytes f.payload).length ++ payloadBytes f.payload

/-- All bytes of a frame: head, payload and CRC, high byte first (R161, R162). -/
def frameBytes (f : Frame) : List Byte := frameBody f ++ halfBytes (crc16 (frameBody f))

/-! ### Reading a payload (R192, R193) -/

def readOdometry : List Byte → Option Payload
  | [l1, l0, r1, r0, iv, er] =>
    some (.odometry { left := byteHalf l1 l0, right := byteHalf r1 r0, interval := iv, errors := er })
  | _ => none

def readHazard : List Byte → Option Payload
  | [b0, b1, x1, x0, y1, y0, c, t] => do
    let action ← actionOf (b0.extractLsb' 6 2)
    let kind ← hazardOf (b0.extractLsb' 4 2) (b0.extractLsb' 0 4)
    let id ← slotOf (b1.extractLsb' 0 5)
    let tag ← tagOf (b1.getLsbD 7) t
    if b1.extractLsb' 5 2 = 0#2 ∧ c.extractLsb' 4 4 = 0#4 then
      some (.hazard { action := action, kind := kind, id := id, x := byteHalf x1 x0, y := byteHalf y1 y0,
                      conf := c.extractLsb' 0 4, tag := tag })
    else none
  | _ => none

def readVerdict : List Byte → Option Payload
  | [a1, a0, h1, h0, f1, f0, c] => do
    let floorClass ← floorOf (c.extractLsb' 0 3)
    let wall ← wallOf (c.extractLsb' 4 2)
    let ahead := byteHalf a1 a0
    let behind := byteHalf h1 h0
    if ahead.toNat ≤ clearCeiling ∧ behind.toNat ≤ clearCeiling ∧ c.getLsbD 3 = false ∧ c.extractLsb' 6 2 = 0#2 then
      some (.verdict { ahead := ahead.extractLsb' 0 11, behind := behind.extractLsb' 0 11,
                       flags := flagsOf (byteHalf f1 f0), floorClass := floorClass, wall := wall })
    else none
  | _ => none

def readCheckRequest : List Byte → Option Payload
  | [b0, x1, x0, y1, y0, t] => do
    let tag ← tagOf (b0.getLsbD 7) t
    if b0.extractLsb' 4 3 = 0#3 then
      some (.checkRequest { id := b0.extractLsb' 0 4, x := byteHalf x1 x0, y := byteHalf y1 y0, tag := tag })
    else none
  | _ => none

def readCheckAnswer : List Byte → Option Payload
  | [d, i, a, c] => do
    let dest ← posOfByte d
    let answer ← answerOf a
    if i.extractLsb' 4 4 = 0#4 ∧ c.extractLsb' 4 4 = 0#4 then
      some (.checkAnswer { dest := dest, id := i.extractLsb' 0 4, answer := answer, conf := c.extractLsb' 0 4 })
    else none
  | _ => none

def readHealth : List Byte → Option Payload
  | [a, b, c, d, e, f, g, h, i, j, k, l] =>
    some (.health { crcError := a, overrun := b, malformed := c, txFail := d, duplicate := e, staleReport := f,
                    lateAnswer := g, tableDiscard := h, checkForced := i, beaconAbort := j, blindedBursts := k,
                    refusedOrder := l })
  | _ => none

def readBoot : List Byte → Option Payload
  | [c, ca, u, s] => do
    let code ← progressOf c
    let cause ← causeOf ca
    let fe ← emitterOf (s.extractLsb' 0 2)
    let we ← emitterOf (s.extractLsb' 2 2)
    if h : u.toNat < 25 then
      if s.extractLsb' 4 4 = 0#4 then
        some (.boot { code := code, cause := cause, usable := ⟨u.toNat, h⟩, floorEmitter := fe, wallEmitter := we })
      else none
    else none
  | _ => none

def readPart : List Byte → Option PartData
  | [n, a1, a0, b1, b0, c1, c0, d1, d0] =>
    if n = 0 then
      some (.part0 { fx := byteHalf a1 a0, fy := byteHalf b1 b0, mx := byteHalf c1 c0, my := byteHalf d1 d0 })
    else if n = 2 then
      some (.part2 { xf := byteHalf a1 a0, xr := byteHalf b1 b0, hw := byteHalf c1 c0, sBase := byteHalf d1 d0 })
    else none
  | [n, a1, a0, b1, b0, c1, c0] =>
    if n = 1 then some (.part1 { ax := byteHalf a1 a0, ay := byteHalf b1 b0, kw := byteHalf c1 c0 }) else none
  | [n, a1, a0, b1, b0, ex, l, w, t, o] =>
    if n = 3 then
      some (.part3 { fd := byteHalf a1 a0, fh := byteHalf b1 b0, expected := ex, lf := l.extractLsb' 4 4,
                     lm := l.extractLsb' 0 4, w := w, texture := t, options := o })
    else none
  | _ => none

def readSetup : List Byte → Option Payload
  | d :: rest => do
    let dest ← posOfByte d
    let part ← readPart rest
    some (.setup { dest := dest, part := part })
  | [] => none

def readMode : List Byte → Option Payload
  | [v] => some (.mode v)
  | _ => none

def readRejoin : List Byte → Option Payload
  | [d] => (posOfByte d).map .rejoin
  | _ => none

/-- A payload of the given kind number, or `none` where R193 refuses it; the reader of each kind takes the kind's
length and no other. -/
def readPayload (kind : BitVec 4) (bytes : List Byte) : Option Payload :=
  if kind = 1 then readOdometry bytes
  else if kind = 2 then readHazard bytes
  else if kind = 3 then readVerdict bytes
  else if kind = 4 then readCheckRequest bytes
  else if kind = 5 then readCheckAnswer bytes
  else if kind = 6 then readHealth bytes
  else if kind = 7 then readBoot bytes
  else if kind = 8 then readSetup bytes
  else if kind = 9 then readMode bytes
  else if kind = 10 then readRejoin bytes
  else none

/-- Head and payload read back, or `none` where a field check of R193 refuses the frame. -/
def readBody : List Byte → Option Frame
  | h0 :: h1 :: h2 :: rest => do
    let payload ← readPayload (h0.extractLsb' 4 4) rest
    if h2.extractLsb' 6 2 = 0#2 ∧ (h2.extractLsb' 0 4).toNat = rest.length then
      some { head := { src := (h0.extractLsb' 1 3).toFin, urgent := h0.getLsbD 0, seq := h1,
                       role := roleOf (h2.extractLsb' 4 2) },
             payload := payload }
    else none
  | _ => none

/-- The three ends of a completed frame's checks (R173): a CRC error, a failed field check, or a good frame. -/
inductive RxCheck where
  | crcError
  | malformed
  | good (f : Frame)
  deriving DecidableEq, Repr

/-- The checks on a completed frame's bytes, CRC first (R173). -/
def checkFrame (bytes : List Byte) : RxCheck :=
  let n := bytes.length - 2
  if halfBytes (crc16 (bytes.take n)) ≠ bytes.drop n then .crcError
  else
    match readBody (bytes.take n) with
    | none => .malformed
    | some f => .good f

end Sys2Proof.Machine
end

