-- ==== Sys2Proof/Machine/Ops.lean ====
section
/-! DEFINITION. The operations the meanings share: node conditions, health counts, the transmit queue, boot frames,
the table's records, the request FIFO, the Table Manager's next work and the filters. -/

namespace Sys2Proof

/-! ### The twelve counts, kinds of payloads and kinds of hazards -/

inductive CountId where
  | crcError | overrun | malformed | txFail | duplicate | staleReport | lateAnswer | tableDiscard | checkForced
  | beaconAbort | blindedBursts | refusedOrder
  deriving DecidableEq, Repr

/-- One count up by 1, saturating at 255 (R176). -/
def Counts.inc (c : Counts) : CountId → Counts
  | .crcError => { c with crcError := Machine.satInc c.crcError }
  | .overrun => { c with overrun := Machine.satInc c.overrun }
  | .malformed => { c with malformed := Machine.satInc c.malformed }
  | .txFail => { c with txFail := Machine.satInc c.txFail }
  | .duplicate => { c with duplicate := Machine.satInc c.duplicate }
  | .staleReport => { c with staleReport := Machine.satInc c.staleReport }
  | .lateAnswer => { c with lateAnswer := Machine.satInc c.lateAnswer }
  | .tableDiscard => { c with tableDiscard := Machine.satInc c.tableDiscard }
  | .checkForced => { c with checkForced := Machine.satInc c.checkForced }
  | .beaconAbort => { c with beaconAbort := Machine.satInc c.beaconAbort }
  | .blindedBursts => { c with blindedBursts := Machine.satInc c.blindedBursts }
  | .refusedOrder => { c with refusedOrder := Machine.satInc c.refusedOrder }

def Payload.isBoot : Payload → Bool
  | .boot _ => true
  | _ => false

def Payload.isVerdict : Payload → Bool
  | .verdict _ => true
  | _ => false

def Payload.isOdometry : Payload → Bool
  | .odometry _ => true
  | _ => false

/-- The code 5 frame of the link loopback step (R183). -/
def Payload.isLoopback : Payload → Bool
  | .boot d => d.code = .c5
  | _ => false

/-- The kinds of which the queue holds at most one entry (R171): verdict and odometry. -/
def Payload.coalesces (p q : Payload) : Bool := (p.isVerdict && q.isVerdict) || (p.isOdometry && q.isOdometry)

def Hazard.isCliff : Hazard → Bool
  | .cliff => true
  | _ => false
def Hazard.isRug : Hazard → Bool
  | .rug _ => true
  | _ => false
def Hazard.isObstacle : Hazard → Bool
  | .obstacle => true
  | _ => false
def Hazard.isDock : Hazard → Bool
  | .dock _ => true
  | _ => false

/-- The same kind, whatever the shade or zone. -/
def Hazard.sameKind (a b : Hazard) : Bool :=
  (a.isCliff && b.isCliff) || (a.isRug && b.isRug) || (a.isObstacle && b.isObstacle) || (a.isDock && b.isDock)

/-- The same kind and, for a RUG, the same shade (R66). -/
def Hazard.sameShade (a b : Hazard) : Bool := a = b || (a.isDock && b.isDock)

end Sys2Proof

namespace Sys2Proof.Machine

open Sys2Proof

/-! ### Node conditions -/

/-- The node is in RUN. -/
def State.running (s : State) : Bool := s.startup.node = .run

/-- The node is powered and past its straps: it follows the line and sends (R179). -/
def State.onLink (s : State) : Bool := s.startup.node ≠ .held ∧ s.startup.node ≠ .strap

/-- Frames are received: from the end of the link loopback step through AWAIT-SETUP and RUN (R150, R175). -/
def State.receiving (s : State) : Bool :=
  s.startup.node = .run ∨ s.startup.node = .awaitSetup ∨
    (s.startup.node = .selfTest ∧ (s.startup.step = some .s4 ∨ s.startup.step = some .s3))

/-- Setup values that stand in where none are held. The node holds setup values whenever it is in RUN (R115). -/
def SetupValues.none : SetupValues :=
  { fx := 0, fy := 0, mx := 0, my := 0, ax := 0, ay := 0, kw := 1000, xf := 50, xr := 50, hw := 50, sBase := 10,
    fd := 64, fh := 1, expected := 0, lf := 0, lm := 0, w := 1, texture := 0, bumpFitted := false,
    dropFitted := false, reverseLeft := false, reverseRight := false }

def State.setup (s : State) : SetupValues := s.startup.setup.getD SetupValues.none

/-! ### Health counts (R176) -/

def State.count (s : State) (i : CountId) : State := s.setLink { s.link with counts := s.link.counts.inc i }

/-! ### The transmit queue (R170 to R172) -/

/-- A new entry's place (R170): an urgent one after the last urgent entry, a routine one at the end. -/
def placeNew (q : List TxEntry) (e : TxEntry) : List TxEntry :=
  if e.urgent then q.takeWhile (·.urgent) ++ e :: q.dropWhile (·.urgent) else q ++ [e]

/-- A returning entry's place (R168): the oldest of its class. -/
def placeReturning (q : List TxEntry) (e : TxEntry) : List TxEntry :=
  if e.urgent then e :: q else q.takeWhile (·.urgent) ++ e :: q.dropWhile (·.urgent)

/-- The queue's entry that a payload of a coalescing kind would replace (R171). -/
def queuedLike (q : List TxEntry) (p : Payload) : Option TxEntry := q.find? fun e => e.payload.coalesces p

/-- Raise the entry like `p` to urgent: a routine one becomes the youngest urgent entry (R171). -/
def raiseQueued (q : List TxEntry) (p : Payload) : List TxEntry :=
  match queuedLike q p with
  | some e => if e.urgent then q else placeNew (q.filter fun e => !e.payload.coalesces p) { e with urgent := true }
  | none => q

/-- Replace the content of the entry like `p` (R171): new fields, no seq, no CRC, attempt count 0, its place kept. -/
def replaceContent (q : List TxEntry) (p : Payload) : List TxEntry :=
  q.map fun e => if e.payload.coalesces p then { e with payload := p, seq := none, crc := none, attempts := 0 } else e

/-- The replacement of R171: an urgent replacement also raises a routine entry. -/
def replaceQueued (q : List TxEntry) (p : Payload) (urgent : Bool) : List TxEntry :=
  if urgent then raiseQueued (replaceContent q p) p else replaceContent q p

/-- The youngest routine entry, if the queue holds one (R172). -/
def youngestRoutine (q : List TxEntry) : Option TxEntry := (q.filter fun e => !e.urgent).getLast?

/-- The Link Controller's report that a boot status frame has ended (R185): the pending frame's report clears boot
frame pending. -/
def State.bootEnded (s : State) (e : TxEntry) : State :=
  if e.payload.isBoot && s.startup.bootPending = some e.order then
    s.setStartup { s.startup with bootPending := none }
  else s

/-- A frame lost at a full queue or after its last attempt: tx-fail rises, and a boot frame's end is reported (R168,
R172). -/
def State.loseFrame (s : State) (e : TxEntry) : State := (s.count .txFail).bootEnded e

/-- A frame that comes to a queue of 6 entries and replaces none (R172). -/
def State.placeAtFull (s : State) (e : TxEntry) : State :=
  if e.urgent then
    match youngestRoutine s.link.queue with
    | some v =>
      (s.setLink { s.link with queue := placeNew (s.link.queue.filter fun x => x ≠ v) e }).loseFrame v
    | none => s.loseFrame e
  else s.loseFrame e

/-- A frame handed on to the transmit queue (R170 to R172). -/
def State.enqueue (s : State) (p : Payload) (urgent : Bool) : State :=
  if (queuedLike s.link.queue p).isSome then
    s.setLink { s.link with queue := replaceQueued s.link.queue p urgent }
  else
    let e : TxEntry :=
      { payload := p, urgent := urgent, seq := none, crc := none, attempts := 0, order := s.link.nextOrder }
    let s := s.setLink { s.link with nextOrder := s.link.nextOrder + 1 }
    if s.link.queue.length < txQueueSize then s.setLink { s.link with queue := placeNew s.link.queue e }
    else s.placeAtFull e

/-! ### Boot status frames (R185) -/

/-- The fields of a boot status frame, taken when it is formed (R185). -/
def State.bootFrame (s : State) (code : ProgressCode) : Payload :=
  .boot { code := code
          cause := if code = .c15 then s.startup.cause else .none
          usable := Fin.ofNat 25 s.startup.usable
          floorEmitter := s.startup.floorEmitter
          wallEmitter := s.startup.wallEmitter }

/-- Form a boot status frame and hand it on as a routine entry; the progress code takes its code (R185). -/
def State.formBoot (s : State) (code : ProgressCode) : State :=
  (s.setStartup { s.startup with code := some code }).enqueue (s.bootFrame code) false

/-- Form a code 2 or code 15 frame, which is then the pending boot frame (R185). -/
def State.formPendingBoot (s : State) (code : ProgressCode) : State :=
  (s.setStartup { s.startup with bootPending := some s.link.nextOrder }).formBoot code

/-! ### Records (03 section 3.2) -/

/-- CONFIRMED: confidence 8 or more (R46). -/
def Record.confirmed (r : Record) : Bool := confirmedAt ≤ r.conf

def Record.range (r : Record) : Nat := rangeOf r.x r.y

/-- The check is PENDING or DEFERRED. -/
def Record.checking (r : Record) : Bool := r.check = some .pending || r.check = some .deferred

def Record.isOwnWall (r : Record) : Bool := r.kind.isObstacle && r.own = some .wall

/-- The kind-bound fields after a change of kind or own origin (R46): the check of a record that is now a CLIFF is
kept, or NONE if there was none; any other record has no check; the clear run of an OBSTACLE with own origin WALL is
kept, or 0 if there was none; any other record has no clear run. -/
def Record.bindKind (r : Record) : Record :=
  { r with
    check := if r.kind.isCliff then some (r.check.getD .none) else none
    clearRun := if r.isOwnWall then some (r.clearRun.getD 0) else none }

/-- The list order (R49): by range, and by slot within a range. -/
abbrev Record.before (a b : Record) : Prop := a.range < b.range ∨ (a.range = b.range ∧ a.slot ≤ b.slot)

/-- The list ordered anew (R49). -/
def sortRecords (rs : List Record) : List Record := rs.insertionSort Record.before

/-- The record in a slot. -/
def recordAt (rs : List Record) (slot : Slot) : Option Record := rs.find? fun r => r.slot = slot

/-- The records with the one in `r`'s slot replaced by `r`. -/
def updateRecord (rs : List Record) (r : Record) : List Record :=
  rs.map fun q => if q.slot = r.slot then r else q

def removeSlot (rs : List Record) (slot : Slot) : List Record := rs.filter fun r => r.slot ≠ slot

/-- The nearer of two candidates for a point: the smaller distance, and the lower slot among equals (R56). -/
def nearer (x y : Int) (a b : Record) : Record :=
  let da := cheb a.x a.y x y
  let db := cheb b.x b.y x y
  if db < da ∨ (db = da ∧ b.slot < a.slot) then b else a

/-- The nearest record within a radius of a point among those that pass a test (R56, R59, R73). -/
def nearest (rs : List Record) (pass : Record → Bool) (x y : Int) (radius : Nat) : Option Record :=
  match rs.filter fun r => pass r && decide (cheb r.x r.y x y ≤ radius) with
  | [] => none
  | r :: more => some (more.foldl (nearer x y) r)

def State.setRecords (s : State) (rs : List Record) : State := s.setTable { s.table with records := rs }

/-- A change of one record (R55). -/
def State.putRecord (s : State) (r : Record) : State := s.setRecords (updateRecord s.table.records r)

/-- Set the check field of the record in a slot. -/
def State.markCheck (s : State) (slot : Slot) (m : CheckMark) : State :=
  match recordAt s.table.records slot with
  | some r => s.putRecord { r with check := some m }
  | none => s

/-- Whether the slot holds a CLIFF with the given check. -/
def State.hasMark (s : State) (slot : Slot) (m : CheckMark) : Bool :=
  match recordAt s.table.records slot with
  | some r => r.kind.isCliff && r.check = some m
  | none => false

/-! ### Frames of the Report Handler -/

/-- A hazard report frame for a record (R93), with the class of R94; `wasCliff` says that an UPDATE's record was a
CLIFF before the item. The slot's report age becomes 0 (R96). DESIGN CHOICE (log 32): the tag is the table tag, as R93
says and R41 does not. -/
def State.sendReport (s : State) (action : Action) (r : Record) (wasCliff : Bool) : State :=
  let p : Payload := .hazard
    { action := action, kind := r.kind, id := r.slot, x := BitVec.ofInt 16 r.x, y := BitVec.ofInt 16 r.y,
      conf := BitVec.ofNat 4 r.conf, tag := s.table.tag }
  let urgent := r.kind.isCliff || (action = .update && wasCliff)
  (s.enqueue p urgent).setReport { s.report with ages := s.report.ages.set r.slot 0 }

/-- A check answer frame, urgent (R113). -/
def State.sendAnswer (s : State) (dest : Pos) (id : BitVec 4) (a : Answer) (conf : Nat) : State :=
  s.enqueue (.checkAnswer { dest := dest, id := id, answer := a, conf := BitVec.ofNat 4 conf }) true

/-! ### The request FIFO (R52, R53) -/

/-- A non-CLIFF observation (R52). -/
def Item.nonCliff : Item → Bool
  | .own k _ _ _ _ => !k.isCliff
  | .floorClear .. => true
  | .wallClear .. => true
  | _ => false

def Item.isOutcome : Item → Bool
  | .outcome .. => true
  | _ => false

/-- A discarded outcome ends the check and drops the deferred candidate (R105). -/
def ReportHandler.drop (r : ReportHandler) : ReportHandler :=
  { r with phase := .idle, outstanding := none, checkId := none, awaited := [], answers := [], checkTimer := none,
           deferred := none }

/-- The FIFO with its oldest non-CLIFF observation removed. -/
def dropNonCliff : List Item → List Item
  | [] => []
  | i :: is => if i.nonCliff then is else i :: dropNonCliff is

/-- An own CLIFF observation or a check outcome at a full FIFO (R53, R105). -/
def State.pushOverNonCliff (s : State) (i : Item) : State :=
  if s.table.fifo.any Item.nonCliff then
    (s.setTable { s.table with fifo := dropNonCliff s.table.fifo ++ [i] }).count .tableDiscard
  else if i.isOutcome then (s.setReport s.report.drop).count .tableDiscard
  else s.count .tableDiscard

/-- An item arrives at the request FIFO (R52, R53). -/
def State.pushItem (s : State) (i : Item) : State :=
  if s.table.fifo.length < fifoSize then s.setTable { s.table with fifo := s.table.fifo ++ [i] }
  else
    match i with
    | .own k _ _ _ _ => if k.isCliff then s.pushOverNonCliff i else s.count .tableDiscard
    | .outcome _ _ => s.pushOverNonCliff i
    | .lookup requester id _ _ _ => s.sendAnswer requester id .none 0
    | .floorClear .. => s.count .tableDiscard
    | .wallClear .. => s.count .tableDiscard
    | .report _ => s.count .tableDiscard

/-! ### The Table Manager's next work (R50) -/

/-- A starting carry is the one an applied odometry frame waits for (R174). -/
def Handling.carryStarts (h : Handling) : Handling :=
  if h.wait = .start then { h with wait := .finish } else h

/-- An ending carry is the one an applied odometry frame waited for (R174). -/
def Handling.carryEnds (h : Handling) : Handling :=
  if h.wait = .finish then { h with wait := .no } else h

/-- A carry starts: the flag is cleared and the four inputs are taken (R76). -/
def State.startCarry (s : State) : State :=
  let n := s.table.records.length
  (s.setTable { s.table with
      carryFlag := false
      work := .carrying { tableTag := s.table.tag, odoTag := s.odo.tag, ring := s.odo.ring, occupied := n }
      workTimer := some (carryTime n) }).setLink { s.link with handling := s.link.handling.map Handling.carryStarts }

/-- The Table Manager takes its next work by the tests of R50, in turn. -/
def State.takeWork (s : State) : State :=
  let t := s.table
  let n := t.records.length
  if t.carryFlag then s.startCarry
  else if 0 < t.pendingAge then
    s.setTable { t with pendingAge := 0, work := .aging t.pendingAge, workTimer := some (serviceTime n) }
  else
    match t.fifo with
    | i :: rest => s.setTable { t with fifo := rest, work := .serving i, workTimer := some (serviceTime n) }
    | [] => s.setTable { t with work := .idle, workTimer := none }

/-- Work that arrives while the manager is IDLE in RUN starts at once (R50). -/
def State.kick (s : State) : State := if s.running && s.table.work = .idle then s.takeWork else s

/-- An own observation enters the FIFO and, at an IDLE manager, is taken at once. -/
def State.observe (s : State) (i : Item) : State := (s.pushItem i).kick

/-! ### The accepted floor class written by the Table Manager (R16) -/

def FloorChannel.writeDarkRug (f : FloorChannel) : FloorChannel :=
  { f with accepted := .darkRug, runClass := none, runCount := 0, repeats := 0 }

/-! ### Filters (R21, R26, R126, R137) -/

/-- Whether a sample becomes the accepted level: it differs from it and equals the sample before. -/
def Filter.accepts (f : Filter) (level : Bool) : Bool := level ≠ f.accepted && f.last = some level

/-- A filter whose sampling starts with the accepted level given and no history. -/
def Filter.start (level : Bool) (period : Nat) : Filter := { accepted := level, last := none, sample := some period }

end Sys2Proof.Machine
end

