-- ==== Sys2Proof/Machine/Flags.lean ====
section
/-! DEFINITION. The Clearance Unit's computations: unseen conditions (R14), the corridor and the clear distances
(R115 to R118), the flags (R120), the own stop condition (R121 to R123), the STOP driver (R124), the verdict (R129,
R130) and the recompute (R127, R128). -/

namespace Sys2Proof.Machine

open Sys2Proof

/-! ### Conditions other blocks hand over -/

/-- BLINDED (R13): a blinded run count of 4 or more. -/
def Channel.isBlinded (c : Channel) : Bool := blindedAt ≤ c.blinded

/-- The floor unseen condition (R14). -/
def FloorChannel.isUnseen (f : FloorChannel) : Bool := f.ch.isBlinded || f.accepted = .unknown

/-- The wall unseen condition (R14). -/
def WallChannel.isUnseen (w : WallChannel) : Bool := w.ch.isBlinded || w.result = .unseen || !w.healthOk

/-- A check is outstanding (R98). -/
def ReportHandler.isChecking (r : ReportHandler) : Bool := r.phase ≠ .idle

/-- ROLE_CLASH: either holder's hold runs (R35, R154). -/
def State.roleClash (s : State) : Bool := s.odo.clashHold.isSome || s.peers.roleHold.isSome

/-- What other blocks hand to the Clearance Unit at each change (R127), the table apart. -/
structure Handed where
  floorClass : FloorClass
  floorUnseen : Bool
  wall : WallResult
  wallUnseen : Bool
  bump : Bool
  drop : Bool
  odoState : OdoState
  source : Option Pos
  lastDs : Int
  roleClash : Bool
  posClash : Bool
  missing : Bool
  tableFull : Bool
  checking : Bool
  mode : Mode
  deriving DecidableEq, Repr

def State.handed (s : State) : Handed :=
  { floorClass := s.floor.accepted, floorUnseen := s.floor.isUnseen, wall := s.wall.result,
    wallUnseen := s.wall.isUnseen, bump := s.bump.accepted, drop := s.drop.accepted, odoState := s.odo.state,
    source := s.odo.source, lastDs := s.odo.lastDs, roleClash := s.roleClash, posClash := s.peers.posHold.isSome,
    missing := s.peers.missing, tableFull := s.table.full, checking := s.report.isChecking, mode := s.peers.mode }

/-! ### The corridor and the clear distances -/

/-- A record lies in the corridor (R115). -/
def inCorridor (v : SetupValues) (r : Record) : Bool := (r.y.natAbs : Int) ≤ v.hw + corridorMargin

/-- Some CONFIRMED DOCK lies within 150 mm of a point (R117). -/
def dockNear (rs : List Record) (x y : Int) : Bool :=
  rs.any fun d => d.kind.isDock && d.confirmed && cheb d.x d.y x y ≤ dockRadius

/-- A record is eligible in a mode (R116, R117). -/
def eligible (m : Mode) (rs : List Record) (r : Record) : Bool :=
  match r.kind with
  | .cliff => true
  | .obstacle => r.confirmed && !(m = .dock && dockNear rs r.x r.y)
  | .dock _ => r.confirmed && m ≠ .dock
  | .rug _ => false

/-- The term of a record ahead, if it is ahead: max(0, x - Xf) (R118). -/
def gapAhead (v : SetupValues) (r : Record) : Option Nat :=
  if 0 < r.x then some (r.x - v.xf).toNat else none

/-- The term of a record behind, if it is behind: max(0, -x - Xr) (R118). -/
def gapBehind (v : SetupValues) (r : Record) : Option Nat :=
  if r.x < 0 then some (-r.x - v.xr).toNat else none

/-- The least of some terms, limited to 2047; 2047 when there is none (R118). -/
def leastGap (gaps : List Nat) : Nat := gaps.foldl min clearCeiling

/-- clear_ahead of a table (R118). -/
def clearAhead (v : SetupValues) (m : Mode) (rs : List Record) : Nat :=
  leastGap ((rs.filter fun r => eligible m rs r && inCorridor v r).filterMap (gapAhead v))

/-- clear_behind of a table (R118). -/
def clearBehind (v : SetupValues) (m : Mode) (rs : List Record) : Nat :=
  leastGap ((rs.filter fun r => eligible m rs r && inCorridor v r).filterMap (gapBehind v))

/-- CLIFF_NEAR (R120): some CLIFF in the corridor with a gap of 100 mm or less. -/
def cliffNear (v : SetupValues) (rs : List Record) : Bool :=
  rs.any fun r => r.kind.isCliff && inCorridor v r &&
    ((gapAhead v r).any (fun g => (g : Int) ≤ cliffNearLimit) || (gapBehind v r).any (fun g => (g : Int) ≤ cliffNearLimit))

/-- RUG_AHEAD (R120): some RUG in the corridor with 0 < x ≤ Xf + 150. -/
def rugAhead (v : SetupValues) (rs : List Record) : Bool :=
  rs.any fun r => r.kind.isRug && inCorridor v r && decide (0 < r.x ∧ r.x ≤ v.xf + rugAheadReach)

/-! ### Flags and verdict -/

/-- The sixteen flags as they stand (R120). -/
def State.flags (s : State) : Flags :=
  { stopOwn := s.clear.driver
    stopLine := s.clear.line.accepted
    cliffUnder := s.floor.accepted = .cliff
    cliffNear := s.clear.cliffNear
    rugAhead := s.clear.rugAhead
    bump := s.bump.accepted
    drop := s.drop.accepted
    floorUnseen := s.floor.isUnseen
    wallUnseen := s.wall.isUnseen
    odoStalled := s.odo.state = .stalled
    odoLost := s.odo.state = .lost
    roleClash := s.roleClash
    posClash := s.peers.posHold.isSome
    missingPeer := s.peers.missing
    tableFull := s.table.full
    checking := s.report.isChecking }

/-- The verdict as it stands (R129). -/
def State.verdictNow (s : State) : VerdictData :=
  { ahead := BitVec.ofNat 11 s.clear.ahead, behind := BitVec.ofNat 11 s.clear.behind, flags := s.flags,
    floorClass := s.floor.accepted, wall := s.wall.result }

/-- Two distances differ by 16 mm or more (R130). -/
def movedBy16 (a b : BitVec 11) : Bool := verdictStep ≤ max (a.toNat - b.toNat) (b.toNat - a.toNat)

/-- A routine row of R130 holds against the last verdict `l`. -/
def verdictDue (v l : VerdictData) (timerExpired : Bool) : Bool :=
  movedBy16 v.ahead l.ahead || movedBy16 v.behind l.behind || v.flags ≠ l.flags || v.floorClass ≠ l.floorClass ||
    timerExpired

/-- The verdict timer has expired since the last verdict: it stands at 0, whether its expiry or another event is taken
first (R132). -/
def Clearance.timerExpired (c : Clearance) : Bool := c.verdictTimer = none || c.verdictTimer = some 0

/-- The verdict frame that is due, with its class, by the rows of R130. -/
def State.verdictToSend (s : State) : Option Bool :=
  match s.clear.last with
  | none => some false
  | some l =>
    if s.clear.driver ≠ l.flags.stopOwn then some true
    else if verdictDue s.verdictNow l s.clear.timerExpired then some false
    else none

/-- Judge whether a verdict frame is due and hand it on (R129, R130). -/
def State.judgeVerdict (s : State) : State :=
  match s.verdictToSend with
  | none => s
  | some urgent =>
    (s.setClear { s.clear with last := some s.verdictNow, verdictTimer := some verdictTime }).enqueue
      (.verdict s.verdictNow) urgent

/-! ### The own stop condition -/

/-- The bumper term is excused (R122). -/
def State.bumpExcused (s : State) : Bool :=
  s.peers.mode = .dock &&
    s.table.records.any fun d =>
      match d.kind with
      | .dock z => z.halo && d.confirmed && cheb d.x d.y s.setup.mx s.setup.my ≤ dockRadius
      | _ => false

/-- The stop distance S_base + 12·|Δs| (R121). -/
def State.stopDistance (s : State) : Int := s.setup.sBase + speedFactor * s.odo.lastDs.natAbs

/-- The three terms of R121 that read the clear distances. -/
def State.distanceTerm (s : State) (ahead behind : Nat) : Bool :=
  match s.odo.state with
  | .lost => (ahead : Int) < s.setup.sBase + lostMargin || (behind : Int) < s.setup.sBase + lostMargin
  | _ =>
    (0 < s.odo.lastDs && (ahead : Int) < s.stopDistance) || (s.odo.lastDs < 0 && (behind : Int) < s.stopDistance)

/-- The own stop condition for the given clear distances (R121). -/
def State.stopCondition (s : State) (ahead behind : Nat) : Bool :=
  !s.running || s.floor.accepted = .cliff || s.drop.accepted || (s.bump.accepted && !s.bumpExcused) ||
    s.distanceTerm ahead behind

/-- The driver and the hold timer follow the condition (R124). -/
def Clearance.drive (c : Clearance) (met : Bool) : Clearance :=
  if met then
    if c.ownStop then c else { c with ownStop := true, driver := true, hold := some stopHoldTime }
  else { c with ownStop := false, driver := c.driver && c.hold.isSome }

/-! ### The recompute -/

/-- Steps one to four of R128: the distances, the two computed flags, the condition and the driver. -/
def State.reclear (s : State) : State :=
  let v := s.setup
  let ahead := clearAhead v s.peers.mode s.table.records
  let behind := clearBehind v s.peers.mode s.table.records
  let c := { s.clear with
    ahead := ahead, behind := behind
    cliffNear := Machine.cliffNear v s.table.records, rugAhead := Machine.rugAhead v s.table.records }
  s.setClear (c.drive (s.stopCondition ahead behind))

/-- A recompute (R128); outside RUN none is made. -/
def State.recompute (s : State) : State := if s.running then s.reclear.judgeVerdict else s

/-- One event: the Clearance Unit recomputes on the state as it then stands when something handed to it changed since
`before`, or when `always` says that the event hands it more (R127). The order of the events within one command is
DEDUCED (log 5). -/
def State.notify (after before : State) (always : Bool) : State :=
  if always || after.handed ≠ before.handed then after.recompute else after

/-- A change of one block, and the recompute on what it hands to the Clearance Unit (R127). -/
def State.handing (s : State) (change : State → State) : State := (change s).notify s false

end Sys2Proof.Machine
end

