-- ==== Sys2Proof/Machine/Operands.lean ====
section
/-! DEFINITION. Operands: what a command's operands stand for. Burst samples and the gain ladder (R1, R5, R7), the
bands of an amplitude, setup parts clamped into setup values (R188), option bits, and the fields of received frames
as items of the request FIFO (R97, R112). -/

namespace Sys2Proof.Machine

open Sys2Proof

/-! ### Bursts -/

/-- The amplitude of a burst: lit - ambient, floored at 0 (R1). -/
def amplitude (ambient lit : BitVec 10) : Nat := lit.toNat - ambient.toNat

/-- A burst is blinded (R4). -/
def isBlindedBurst (ambient : BitVec 10) : Bool := ambientLimit < ambient.toNat

/-- The gain G of a ladder step (R5). -/
def gain : Nat → Nat
  | 0 => 16 | 1 => 23 | 2 => 32 | 3 => 45 | 4 => 64 | 5 => 91 | 6 => 128 | 7 => 181 | 8 => 256 | 9 => 362
  | 10 => 512 | 11 => 724 | 12 => 1024 | 13 => 1448 | 14 => 2048 | _ => 2896

/-- The reflectance index R (R7). -/
def reflectance (a step : Nat) : Nat := a * 256 / gain step

/-- The amplitude bands of R5. -/
inductive Band where
  | high | locked | weak | none
  deriving DecidableEq, Repr

def bandOf (a : Nat) : Band :=
  if 900 < a then .high else if 200 ≤ a then .locked else if 8 ≤ a then .weak else .none

/-- The ladder's move after a non-blinded burst: the next step and relock wait count (R5). -/
def ladderMove (step relock lm w a : Nat) : Nat × Nat :=
  match bandOf a with
  | .high => (step - 2, 0)
  | .locked => (step, 0)
  | .weak => if w ≤ relock + 1 then (min (step + 1) lm, 0) else (step, relock + 1)
  | .none => (lm, 0)

/-- Candidates of a floor burst (R9). -/
inductive Candidate where
  | noEcho | weakDark | floor | dark | unsettled
  deriving DecidableEq, Repr

/-- The candidate of a non-blinded floor burst (R9). -/
def candidateOf (a step lm : Nat) : Candidate :=
  match bandOf a with
  | .none => if step = lm then .noEcho else .unsettled
  | .weak => if step = lm then .weakDark else .unsettled
  | .locked => if 48 ≤ reflectance a step then .floor else .dark
  | .high => if step = 0 then .floor else .unsettled

/-- The texture sum over consecutive amplitudes (R10). -/
def textureSum : List Nat → Nat
  | a :: b :: rest => max (a - b) (b - a) + textureSum (b :: rest)
  | _ => 0

/-- A full window is textured when its sum reaches 8 × texture byte (R10). -/
def isTextured (window : List Nat) (textureByte : Nat) : Bool :=
  window.length = 8 && 8 * textureByte ≤ textureSum window

/-- A locked burst's amplitude enters the window, the oldest of 8 leaving first (R10). -/
def windowAppend (window : List Nat) (a : Nat) : List Nat :=
  (if window.length < 8 then window else window.drop 1) ++ [a]

/-- The floor class of a classifying burst (R11); none for an unsettled one. -/
def classOf (c : Candidate) (textured : Bool) : Option FloorClass :=
  match c with
  | .noEcho => some .cliff
  | .dark => some (if textured then .darkRug else .dark)
  | .weakDark => some (if textured then .darkRug else .dark)
  | .floor => some (if textured then .lightRug else .hard)
  | .unsettled => none

/-- Samples of a wall burst (R19): detecting at a distance, clear, or unsettled. -/
inductive WallSample where
  | detecting (d : Nat)
  | clear
  | unsettled
  deriving DecidableEq, Repr

/-- The wall distance of a locked burst (R18). -/
def wallDistance (kw a step : Nat) : Nat := max 20 (kw / isqrt (reflectance a step))

/-- The sample a non-blinded wall burst gives at its step (R18, R19). -/
def wallSampleOf (kw a step lm : Nat) : WallSample :=
  match bandOf a with
  | .locked =>
    let d := wallDistance kw a step
    if d ≤ 600 then .detecting d else .clear
  | .high => if step = 0 then .detecting 20 else .unsettled
  | .none => if step = lm then .clear else .unsettled
  | .weak => .unsettled

/-! ### Setup (R188) -/

/-- The clamped setup values of the four held parts (R188). -/
def clampSetup (p0 : Part0) (p1 : Part1) (p2 : Part2) (p3 : Part3) : SetupValues :=
  let lm := p3.lm.toNat
  { fx := clampTo (-1000) 1000 p0.fx.toInt
    fy := clampTo (-1000) 1000 p0.fy.toInt
    mx := clampTo (-1000) 1000 p0.mx.toInt
    my := clampTo (-1000) 1000 p0.my.toInt
    ax := clampTo (-16384) 16384 p1.ax.toInt
    ay := clampTo (-16384) 16384 p1.ay.toInt
    kw := max 1000 (min 60000 p1.kw.toNat)
    xf := clampTo 50 400 p2.xf.toInt
    xr := clampTo 50 400 p2.xr.toInt
    hw := clampTo 50 250 p2.hw.toInt
    sBase := clampTo 10 300 p2.sBase.toInt
    fd := max 64 (min 4095 p3.fd.toNat)
    fh := max 1 (min 65535 p3.fh.toNat)
    expected := p3.expected
    lf := min p3.lf.toNat lm
    lm := lm
    w := max 1 (min 8 p3.w.toNat)
    texture := p3.texture.toNat
    bumpFitted := p3.options.getLsbD 0
    dropFitted := p3.options.getLsbD 1
    reverseLeft := p3.options.getLsbD 2
    reverseRight := p3.options.getLsbD 3 }

/-- The value of a mode order (11.2); any other value is held (R158). -/
def modeOf (value : Byte) : Option Mode :=
  if value = 0 then some .clean else if value = 1 then some .dock else if value = 2 then some .park else none

/-! ### Received fields as FIFO items -/

/-- A hazard report as a peer-report item (R97). -/
def reportItem (h : Head) (d : HazardData) : Item :=
  .report { action := d.action, src := h.src, id := d.id, kind := d.kind, x := d.x.toInt, y := d.y.toInt,
            conf := d.conf.toNat, tag := d.tag }

/-- A check request as a lookup item (R112). -/
def lookupItem (h : Head) (d : CheckRequestData) : Item := .lookup h.src d.id d.x.toInt d.y.toInt d.tag

/-- The self-test result an emitter's drive current gives (R184). -/
def driveStatus : Drive → EmitterStatus
  | .inBand => .ok
  | .tooLittle => .failed
  | .tooMuch => .failed

end Sys2Proof.Machine
end

