-- ==== Sys2Proof/Machine/BeaconDecoder.lean ====
section
/-! DEFINITION. The Beacon Decoder (chapter 7). -/

namespace Sys2Proof.Machine

open Sys2Proof

/-- A width lies in the start mark window, the space window, or the window of a data bit (R138). -/
def inStartWindow (w : Nat) : Bool := 48 ≤ w && w ≤ 72
def inSpaceWindow (w : Nat) : Bool := 6 ≤ w && w ≤ 18
def dataBit (w : Nat) : Option Bool :=
  if 12 ≤ w ∧ w ≤ 28 then some false else if 32 ≤ w ∧ w ≤ 48 then some true else none

/-- The value of eight bits, the first received the most significant (R140). -/
def byteValue (bits : List Bool) : Nat := bits.foldl (fun n b => 2 * n + b.toNat) 0

/-- The codes of the three emitters (R144). -/
inductive Code where
  | left | right | halo
  deriving DecidableEq, Repr

def codeOf (value : Nat) : Option Code :=
  if value = 0x51 then some .left else if value = 0x52 then some .right else if value = 0x54 then some .halo else none

def Zone.add (z : Zone) : Code → Zone
  | .left => { z with left := true }
  | .right => { z with right := true }
  | .halo => { z with halo := true }

/-- What an edge makes of the decoder (R139 to R144). -/
inductive EdgeResult where
  /-- The next decode state and code register. -/
  | go (d : Decode) (code : List Bool)
  /-- An abort to IDLE (R143). -/
  | abort
  /-- A complete byte: the eight bits of the register (R140). -/
  | byte (code : List Bool)
  deriving DecidableEq, Repr

/-- An accepted edge that ends a mark or space of the given width (R139 to R141). `intoMark` is the edge's level. -/
def decodeEdge (d : Decode) (code : List Bool) (intoMark : Bool) (width : Nat) : EdgeResult :=
  match d with
  | .idle => if intoMark then .go .startMark [] else .go .idle code
  | .startMark =>
    if intoMark then .go .startMark code
    else if inStartWindow width then .go .startSpace code
    else .abort
  | .startSpace =>
    if !intoMark then .go .startSpace code
    else if inSpaceWindow width then .go (.bitMark 0) code
    else .abort
  | .bitMark n =>
    if intoMark then .go (.bitMark n) code
    else
      match dataBit width with
      | some b => if n < 7 then .go (.bitSpace n) (code ++ [b]) else .byte (code ++ [b])
      | none => .abort
  | .bitSpace n =>
    if !intoMark then .go (.bitSpace n) code
    else if inSpaceWindow width then .go (.bitMark (n + 1)) code
    else .abort

/-- The decoder after an abort (R143): IDLE with the register empty; an abort at an edge into MARK hands the edge to
IDLE, which passes to START. -/
def Beacon.aborted (b : Beacon) (intoMark : Bool) : Beacon :=
  { b with decode := if intoMark then .startMark else .idle, code := [] }

/-- An accepted code opens the sighting window or joins it (R145). -/
def Beacon.accept (b : Beacon) (c : Code) : Beacon :=
  if b.window.isSome then { b with set := Zone.add b.set c }
  else { b with window := some sightingTime, set := Zone.add Zone.empty c }

/-- A complete byte is judged (R144), the decoder being in IDLE with the register kept until the next START: a code goes to the sighting window, any other byte counts as an abort. -/
def State.beaconByte (s : State) (code : List Bool) : State :=
  let b := { s.beacon with decode := .idle, code := code }
  match codeOf (byteValue code) with
  | some c => s.setBeacon (b.accept c)
  | none => (s.setBeacon b).count .beaconAbort

/-- The width count at an edge: what the decoder has counted and what passed uncounted, saturating (R138). -/
def Beacon.widthAt (b : Beacon) (waited : Nat) : Nat := min widthMax (b.width + waited)

/-- An accepted edge (R137 to R144); the width count is set to 0. -/
def State.acceptBeacon (s : State) (intoMark : Bool) (waited : Nat) : State :=
  let r := decodeEdge s.beacon.decode s.beacon.code intoMark (s.beacon.widthAt waited)
  let s := s.setBeacon { s.beacon with mark := intoMark, last := some intoMark, width := 0, subTick := 0 }
  match r with
  | .go d code => s.setBeacon { s.beacon with decode := d, code := code }
  | .abort => (s.setBeacon (s.beacon.aborted intoMark)).count .beaconAbort
  | .byte code => s.beaconByte code

/-- BEACON_EDGE (R137, R139): the pin takes the level; in RUN the filter accepts an edge. -/
def State.beaconEdge (s : State) (mark : Bool) (waited : Nat) : State :=
  let s := s.setPins { s.pins with beaconMark := mark }
  if s.running && mark ≠ s.beacon.mark then s.acceptBeacon mark waited else s

/-- The decoder is in a space phase of START or BITS(n) (R142). -/
def Beacon.inSpacePhase (b : Beacon) : Bool :=
  match b.decode with
  | .startSpace => true
  | .bitSpace _ => true
  | _ => false

/-- BEACON_SPACE_TIMEOUT (R142): the width count reaches 100 in a space phase, and the decoder aborts. -/
def State.beaconSpaceTimeout (s : State) : State :=
  if s.running && s.beacon.inSpacePhase then
    (s.setBeacon { (s.beacon.aborted false) with width := max s.beacon.width spaceTimeout }).count .beaconAbort
  else s

/-- The placement of a dock observation (R147): 150 mm along the axis with HALO, 600 mm without. -/
def dockPoint (v : SetupValues) (z : Zone) : Int × Int := alongAxis v (if z.halo then haloDistance else beamDistance)

/-- The dock observation of a closing window (R147). -/
def dockItem (v : SetupValues) (z : Zone) (tag : Option Seq) : Item :=
  .own (.dock z) .beacon (dockPoint v z).1 (dockPoint v z).2 tag

/-- SIGHTING_WINDOW_EXPIRY (R145, R147): the window closes and its code set forms one dock observation. -/
def State.sightingWindowExpiry (s : State) : State :=
  if s.running && s.beacon.window.isSome then
    (s.setBeacon { s.beacon with window := none, set := Zone.empty }).observe
      (dockItem s.setup s.beacon.set s.odo.tag)
  else s

/-- The decoder at a rejoin order and at FAULT entry (R148): the accepted level is kept. -/
def Beacon.idle (b : Beacon) : Beacon := { Beacon.reset with mark := b.mark }

/-- The decoder at RUN entry (R137, R148): the level is taken from the pin. -/
def Beacon.enterRun (p : Pins) : Beacon := { Beacon.reset with mark := p.beaconMark, sample := some beaconSample }

/-! ### Meanings -/

/-- BEACON_EDGE (R139). -/
def execBeaconEdge (mark : Bool) (waited : Nat) (s : State) : Host.Outcome State Fault Refusal :=
  .next (s.beaconEdge mark waited)

/-- BEACON_SPACE_TIMEOUT (R142). -/
def execBeaconSpaceTimeout (s : State) : Host.Outcome State Fault Refusal :=
  .next s.beaconSpaceTimeout

/-- SIGHTING_WINDOW_EXPIRY (R145). -/
def execSightingWindowExpiry (s : State) : Host.Outcome State Fault Refusal :=
  .next s.sightingWindowExpiry

end Sys2Proof.Machine
end

