-- ==== Sys2Proof/Machine/Checks.lean ====
section
/-! DEFINITION. The Report Handler's check (chapter 5): decision, start, answers, resolution, cancellation and
promotion. -/

namespace Sys2Proof.Machine

open Sys2Proof

/-- The awaited set (R100, R156): positions whose entry is ALIVE with role SENSE or WHEEL, other than the own. -/
def State.awaitedSet (s : State) : List Pos :=
  (List.finRange 8).filter fun i =>
    i ≠ s.startup.pos && s.peers.entries[i].state = .alive &&
      (s.peers.entries[i].role = some .sense || s.peers.entries[i].role = some .wheel)

/-- The outcome of the answers so far (R104). -/
def outcomeOf (answers : List AnswerSoFar) : Outcome :=
  if answers.any fun a => a.answer = .cliff then .confirm
  else if answers.any fun a => a.answer = .darkRug && overruleConf ≤ a.conf then .overrule
  else .confirm

/-- The phase RESOLVED (R104): the timer stops. -/
def State.markResolved (s : State) : State := s.setReport { s.report with phase := .resolved, checkTimer := none }

/-- A check resolves (R104), and the outcome enters the FIFO as an item (R105). CHECKING is raised by a check that
resolves as it starts, and lowered by an outcome that is discarded; the Clearance Unit recomputes on either. -/
def State.resolveCheck (s : State) : State :=
  match s.report.outstanding with
  | some slot =>
    (s.handing State.markResolved).handing fun t => t.pushItem (.outcome (outcomeOf s.report.answers) slot)
  | none => s

/-- A check takes its record and the next check id (R99, R106). Its phase leaves IDLE when it starts (R100). -/
def ReportHandler.takeCheck (r : ReportHandler) (slot : Slot) : ReportHandler :=
  { r with outstanding := some slot, checkId := some r.nextId, nextId := r.nextId + 1, awaited := [], answers := [] }

/-- A check awaits its answers (R100): CHECKING is raised, and the Clearance Unit recomputes. -/
def State.awaitAnswers (s : State) : State :=
  s.handing fun t => t.setReport { t.report with phase := .awaiting, checkTimer := some checkTime }

/-- A started check at the completion of its request (R100, R101): the request is handed on and the timer started,
or, with no peer to await, the check resolves at once. DESIGN CHOICE (log 32): the request's tag is the table tag,
as R101 says and R41 does not. -/
def State.startCheck (s : State) : State :=
  match s.report.outstanding.bind (recordAt s.table.records), s.report.checkId with
  | some r, some id =>
    let awaited := s.awaitedSet
    let s := s.setReport { s.report with awaited := awaited, answers := [] }
    if awaited = [] then s.resolveCheck
    else
      (s.enqueue
        (.checkRequest { id := id, x := BitVec.ofInt 16 r.x, y := BitVec.ofInt 16 r.y, tag := s.table.tag })
        true).awaitAnswers
  | _, _ => s

/-- Decisions on a created own CLIFF (R99). -/
inductive Decision where
  | start | defer | force
  deriving DecidableEq, Repr

/-- The decision by the Report Handler's state (R99). -/
def ReportHandler.decide (r : ReportHandler) : Decision :=
  if r.phase = .idle then .start else if r.deferred = none then .defer else .force

/-- The decision on the CLIFF just created in `slot`, and the check mark it gives (R59, R99). -/
def State.decideCheck (s : State) (slot : Slot) : State :=
  match s.report.decide with
  | .start => (s.setReport (s.report.takeCheck slot)).markCheck slot .pending
  | .defer => (s.setReport { s.report with deferred := some slot }).markCheck slot .deferred
  | .force =>
    match recordAt s.table.records slot with
    | some r => (s.putRecord { r with conf := max r.conf confirmedAt }).count .checkForced
    | none => s.count .checkForced

/-- The check ends (R106, R108): phase IDLE, the outstanding record, answers and awaited set cleared. -/
def ReportHandler.endCheck (r : ReportHandler) : ReportHandler :=
  { r with phase := .idle, outstanding := none, checkId := none, awaited := [], answers := [], checkTimer := none }

/-- The Report Handler's outstanding check ends (R106, R108): CHECKING is lowered, and the Clearance Unit
recomputes. -/
def State.endCheck (s : State) : State := s.handing fun t => t.setReport t.report.endCheck

/-- A cancellation removes a waiting outcome from the FIFO, uncounted (R108). -/
def State.cancelCheck (s : State) : State :=
  (s.setTable { s.table with fifo := s.table.fifo.filter fun i => !i.isOutcome }).endCheck

/-- The deferred candidate is promoted if its slot still holds a CLIFF whose check is DEFERRED, and otherwise
dropped (R72, R106, R109). A promoted check is to be started at the request's completion. -/
def State.promote (s : State) : State × Bool :=
  match s.report.deferred with
  | none => (s, false)
  | some d =>
    let r := { s.report with deferred := none }
    if s.hasMark d .deferred then ((s.setReport (r.takeCheck d)).markCheck d .pending, true)
    else (s.setReport r, false)

/-- The outstanding record no longer is a CLIFF whose check is PENDING. -/
def State.checkGone (s : State) : Bool :=
  s.report.isChecking && !(s.report.outstanding.any fun o => s.hasMark o .pending)

/-- The deferred candidate whose record was cleared or changed is dropped (R72, R109). -/
def State.dropDeferral (s : State) : State :=
  if s.report.deferred.any fun d => !s.hasMark d .deferred then s.setReport { s.report with deferred := none } else s

/-- After an item's changes (R72, R108): a check whose record was cleared or changed is cancelled and the deferred
candidate promoted. Answers whether a promoted check is to be started. -/
def State.settleChecks (s : State) : State × Bool :=
  let s := s.dropDeferral
  if s.checkGone then s.cancelCheck.promote else (s, false)

/-- The LOST notice in AWAITING (R103): the peer leaves the awaited set, and an empty set resolves the check. -/
def State.reportLostNotice (s : State) (p : Pos) : State :=
  if s.report.phase = .awaiting && s.report.awaited.contains p then
    let s := s.setReport { s.report with awaited := s.report.awaited.filter (· ≠ p) }
    if s.report.awaited = [] then s.resolveCheck else s
  else s

/-- What a check answer for this node is (R102). -/
inductive AnswerCase where
  | recorded | ignored | late
  deriving DecidableEq, Repr

def State.answerCase (s : State) (h : Head) (d : CheckAnswerData) : AnswerCase :=
  if d.dest ≠ s.startup.pos then .ignored
  else if s.running && s.report.phase = .awaiting && s.report.checkId = some d.id then
    if s.report.awaited.contains h.src then .recorded
    else if s.report.answers.any fun a => a.src = h.src then .ignored
    else .late
  else .late

/-- A check answer frame (R102). -/
def State.answerBlock (s : State) (h : Head) (d : CheckAnswerData) : State :=
  match s.answerCase h d with
  | .ignored => s
  | .late => s.count .lateAnswer
  | .recorded =>
    let s := s.setReport { s.report with
      awaited := s.report.awaited.filter (· ≠ h.src)
      answers := s.report.answers ++ [{ src := h.src, answer := d.answer, conf := d.conf.toNat }] }
    if s.report.awaited = [] then s.resolveCheck.kick else s

/-- CHECK_TIMEOUT (R104). -/
def State.checkTimeout (s : State) : State :=
  if s.running && s.report.phase = .awaiting && s.report.checkTimer.isSome then s.resolveCheck.kick else s

/-- The Report Handler at RUN entry, at a rejoin order and at FAULT entry: the next check id is kept (R114). -/
def ReportHandler.clear (r : ReportHandler) : ReportHandler := { ReportHandler.reset with nextId := r.nextId }

/-! ### Meanings -/

/-- CHECK_TIMEOUT (R104). -/
def execCheckTimeout (s : State) : Host.Outcome State Fault Refusal :=
  .next s.checkTimeout

end Sys2Proof.Machine
end

