-- ==== Sys2Proof/Machine/Carry.lean ====
section
/-! DEFINITION. The carry-forward (chapter 4) and the age ticks (R69, R70). -/

namespace Sys2Proof.Machine

open Sys2Proof

/-! ### The carry (R76 to R86) -/

/-- The five courses of R77. -/
inductive Course where
  | adopt | hold | current
  | move (path : List RingEntry)
  | degrade
  deriving DecidableEq, Repr

/-- The course a carry takes from its inputs: the first row of R77 whose condition holds. -/
def CarryInputs.course (c : CarryInputs) : Course :=
  match c.tableTag, c.odoTag with
  | none, _ => .adopt
  | some _, none => .hold
  | some t, some o =>
    if t = o ∧ c.ring ≠ [] then .current
    else
      match movePath t c.ring with
      | some path => .move path
      | none => .degrade

/-- The table tag after a carry (R77). -/
def CarryInputs.tagAfter (c : CarryInputs) : Option Seq :=
  match c.course with
  | .adopt => c.odoTag
  | .hold => c.tableTag
  | .current => c.tableTag
  | .move _ => c.odoTag
  | .degrade => c.odoTag

/-- A record carried through the sub-steps of a path: x and y alone change (R78). -/
def Record.carry (steps : List (Int × Int)) (r : Record) : Record :=
  let p := carryPointAll steps (r.x, r.y)
  { r with x := p.1, y := p.2 }

/-- The judgement at a carried record's final position (R82): kept in range; beyond it a CLIFF under check is kept
and clamped, and any other record is retired. -/
def Record.judgeRange (r : Record) : Option Record :=
  if r.range ≤ rangeLimit then some r
  else if r.kind.isCliff && r.checking then
    some { r with x := clampTo (-clampLimit) clampLimit r.x, y := clampTo (-clampLimit) clampLimit r.y }
  else none

/-- The degrade of one record (R83): its confidence is halved, and at 0 it is retired, unless it is a CLIFF under
check. -/
def Record.degrade (r : Record) : Option Record :=
  let d := { r with conf := r.conf / 2 }
  if d.conf = 0 ∧ ¬(r.kind.isCliff && r.checking) then none else some d

/-- The records after a carry (R77, R78, R82, R83). -/
def carryRecords (c : Course) (rs : List Record) : List Record :=
  match c with
  | .move path => rs.filterMap fun r => (r.carry (pathSteps path)).judgeRange
  | .degrade => rs.filterMap Record.degrade
  | .adopt => rs
  | .hold => rs
  | .current => rs

/-- CARRY_END (R77, R84, R86): the carry's changes take effect together, the list is ordered anew, the Clearance Unit
is notified and the next work is taken. -/
def State.carryEnd (s : State) : State :=
  match s.table.work with
  | .carrying c =>
    if s.running then
      let t := s.setTable { s.table with
        records := sortRecords (carryRecords c.course s.table.records), tag := c.tagAfter }
      let t := t.setLink { t.link with handling := t.link.handling.map Handling.carryEnds }
      (t.notify s true).takeWork
    else s
  | _ => s

/-! ### Age ticks (R69, R70) -/

/-- AGE_TIMER_EXPIRY (R69): TABLE_FULL is lowered, and a tick is gathered, which an IDLE manager starts at once
(R50). -/
def State.ageTimerExpiry (s : State) : State :=
  if s.running && s.table.ageTimer.isSome then
    let t := s.setTable { s.table with
      ageTimer := some ageTick, full := false, pendingAge := min maxAge (s.table.pendingAge + 1) }
    t.kick.notify s false
  else s

/-- The age of a record n ticks on, saturating (R70 step 1). -/
def Record.older (n : Nat) (r : Record) : Record := { r with age := min maxAge (r.age + n) }

/-- A check mark that belongs to no running check or candidate becomes NONE (R70 step 2). -/
def Record.correctCheck (h : ReportHandler) (r : Record) : Record :=
  if (r.check = some .pending ∧ ¬(h.isChecking ∧ h.outstanding = some r.slot)) ∨
      (r.check = some .deferred ∧ h.deferred ≠ some r.slot) then { r with check := some .none }
  else r

/-- The retirement conditions of R70 step 3. -/
def Record.isExpired (r : Record) : Bool :=
  !r.checking &&
    ((!r.confirmed && tentativeAge ≤ r.age) || (r.confirmed && !r.kind.isDock && confirmedAge ≤ r.age) ||
      (r.confirmed && r.kind.isDock && dockAge ≤ r.age) || rangeLimit < r.range)

/-- The records after an application of n age ticks (R70). -/
def ageRecords (h : ReportHandler) (n : Nat) (rs : List Record) : List Record :=
  (rs.map fun r => (r.older n).correctCheck h).filter fun r => !r.isExpired

/-- Every report age rises by n, saturating (R96). -/
def ReportHandler.older (h : ReportHandler) (n : Nat) : ReportHandler :=
  { h with ages := h.ages.map fun a => min maxAge (a + n) }

/-- AGE_TICKS_APPLIED (R50, R55, R70): the gathered ticks take effect; the Clearance Unit is notified if a record was
retired. -/
def State.ageTicksApplied (s : State) : State :=
  match s.table.work with
  | .aging n =>
    if s.running then
      let rs := ageRecords s.report n s.table.records
      let t := (s.setRecords (sortRecords rs)).setReport (s.report.older n)
      (t.notify s (rs.length ≠ s.table.records.length)).takeWork
    else s
  | _ => s

/-- The Table Manager at RUN entry, at a rejoin order and at FAULT entry (R75): the bitmap is kept; the age timer runs
from RUN entry. -/
def TableManager.clear (t : TableManager) (ageTimer : Timer) : TableManager :=
  { TableManager.reset with good := t.good, ageTimer := ageTimer }

/-! ### Meanings -/

/-- CARRY_END (R77). -/
def execCarryEnd (s : State) : Host.Outcome State Fault Refusal :=
  .next s.carryEnd

/-- AGE_TIMER_EXPIRY (R69). -/
def execAgeTimerExpiry (s : State) : Host.Outcome State Fault Refusal :=
  .next s.ageTimerExpiry

/-- AGE_TICKS_APPLIED (R70). -/
def execAgeTicksApplied (s : State) : Host.Outcome State Fault Refusal :=
  .next s.ageTicksApplied

end Sys2Proof.Machine
end

