-- ==== Sys2Proof/Config.lean ====
section
/-! DEFINITION. What an implementation fixes and the spec leaves open. -/

namespace Sys2Proof

/-- When bursts fall due on both channels together, "either may start first" (R3): whether the floor burst
starts first, the `n`-th time this happens. A free value (assumption log 2). -/
opaque Config.floorStartsFirst (n : Nat) : Bool

end Sys2Proof
end

