-- ==== Sys2Proof/Machine/Channels.lean ====
section
/-! DEFINITION. The Floor and Wall Channels and the BUMP and DROP filters (chapter 1): burst scheduling, burst ends,
and the values of the channels at mode changes, RUN entry, rejoin and FAULT. -/

namespace Sys2Proof.Machine

open Sys2Proof

/-! ### Burst scheduling (R2, R3) -/

/-- The burst period timer of the Wall Channel runs in RUN in CLEAN and DOCK while its health is OK (R2, R20). -/
def State.wallActive (s : State) : Bool := s.running && s.peers.mode ≠ .park && s.wall.healthOk

/-- A burst starts, with its ambient sample (R1). -/
def Channel.start (c : Channel) : Channel :=
  { c with bursting := true, ambient := some ambientTime, due := false, guard := none }

/-- A burst ends or is abandoned: its emitter is released (R1). -/
def Channel.stop (c : Channel) : Channel := { c with bursting := false, ambient := none }

/-- The channel's emitter is driven in the lit sample of a burst, and off in the ambient sample and between bursts
(R1). -/
def Channel.lit (c : Channel) : Bool := c.bursting && c.ambient.isNone


/-- A burst waits (R3). -/
def Channel.wait (c : Channel) : Channel := { c with due := true }

/-- A burst falls due on the floor channel: it starts at once unless the wall channel's burst is in progress or
waiting (R2, R3). -/
def State.floorDue (s : State) : State :=
  let c := s.floor.ch
  let free := !c.bursting && !c.due && !s.wall.ch.bursting && !s.wall.ch.due
  s.setFloor { s.floor with ch := if free then c.start else c.wait }

/-- A burst falls due on the wall channel (R2, R3). -/
def State.wallDue (s : State) : State :=
  let c := s.wall.ch
  let free := !c.bursting && !c.due && !s.floor.ch.bursting && !s.floor.ch.due
  s.setWall { s.wall with ch := if free then c.start else c.wait }

/-- Bursts fall due on both channels together: either may start first (R3). The free choice is
`Config.floorStartsFirst` (assumption log 2). -/
def State.bothDue (s : State) : State :=
  let s' := s.setChoices (s.choices + 1)
  if Config.floorStartsFirst s.choices then s'.floorDue.wallDue else s'.wallDue.floorDue

/-- The floor channel's burst has ended or been abandoned: a waiting wall burst starts 50 µs later (R3); a floor
burst that fell due meanwhile starts when no wall burst waits. -/
def State.afterFloorBurst (s : State) : State :=
  let s := s.setFloor { s.floor with ch := s.floor.ch.stop }
  if s.wall.ch.due then s.setWall { s.wall with ch := { s.wall.ch with guard := some guardTime } }
  else if s.floor.ch.due then s.setFloor { s.floor with ch := s.floor.ch.start }
  else s

/-- The wall channel's burst has ended or been abandoned (R3). -/
def State.afterWallBurst (s : State) : State :=
  let s := s.setWall { s.wall with ch := s.wall.ch.stop }
  if s.floor.ch.due then s.setFloor { s.floor with ch := { s.floor.ch with guard := some guardTime } }
  else if s.wall.ch.due then s.setWall { s.wall with ch := s.wall.ch.start }
  else s

/-! ### Burst results (R4, R8, R19) -/

/-- A blinded burst on a channel (R4): the count saturates at 50. -/
def Channel.blind (c : Channel) : Channel := { c with blinded := min blindedMax (c.blinded + 1) }

/-- The ladder move of a non-blinded burst (R5), which also ends a blinded run (R4). -/
def Channel.move (c : Channel) (v : SetupValues) (a : Nat) : Channel :=
  let m := ladderMove c.step c.relock v.lm v.w a
  { c with step := m.1, relock := m.2, blinded := 0 }

/-- The threshold of a candidate run (R12). -/
def runThreshold (run accepted : FloorClass) : Nat :=
  if run = .cliff then 2 else if accepted = .cliff then 8 else 6

/-- The candidate run after a classifying burst of class `c` (R12), before an acceptance is judged. -/
def FloorChannel.runAfter (f : FloorChannel) (c : FloorClass) : Option FloorClass × Nat :=
  if c = f.accepted then (none, 0)
  else if f.runClass = some c then (some c, f.runCount + 1)
  else (some c, 1)

/-- The run reaches the threshold of its class, so the class is accepted (R12). -/
def FloorChannel.acceptsClass (f : FloorChannel) (c : FloorClass) : Bool :=
  match f.runAfter c with
  | (some k, n) => runThreshold k f.accepted ≤ n
  | (none, _) => false

/-- A repeat observation falls on this classifying burst (R15). -/
def FloorChannel.repeatDue (f : FloorChannel) (c : FloorClass) : Bool :=
  !f.acceptsClass c && f.accepted ≠ .unknown && 10 ≤ f.repeats + 1

/-- The run, the accepted class and the repeat count after a classifying burst of class `c` (R12, R15). While DROP
is active the run and the repeat count are held at 0 and no class is accepted (R17). -/
def FloorChannel.classify (f : FloorChannel) (c : FloorClass) (dropActive : Bool) : FloorChannel :=
  if dropActive then { f with runClass := none, runCount := 0, repeats := 0 }
  else if f.acceptsClass c then { f with accepted := c, runClass := none, runCount := 0, repeats := 0 }
  else
    { f with
      runClass := (f.runAfter c).1, runCount := (f.runAfter c).2
      repeats := if f.accepted = .unknown ∨ f.repeatDue c then 0 else f.repeats + 1 }

/-- The class of the floor observation this classifying burst makes, if it makes one (R15, R17). -/
def FloorChannel.observes (f : FloorChannel) (c : FloorClass) (dropActive : Bool) : Option FloorClass :=
  if dropActive then none
  else if f.acceptsClass c then some c
  else if f.repeatDue c then some f.accepted
  else none

/-- A floor observation as a table request (R15); UNKNOWN makes none. -/
def floorItem (v : SetupValues) (c : FloorClass) (tag : Option Seq) : Option Item :=
  match c with
  | .unknown => none
  | .cliff => some (.own .cliff .floor v.fx v.fy tag)
  | .darkRug => some (.own (.rug .dark) .floor v.fx v.fy tag)
  | .lightRug => some (.own (.rug .light) .floor v.fx v.fy tag)
  | .hard => some (.floorClear v.fx v.fy tag)
  | .dark => some (.floorClear v.fx v.fy tag)

/-- A blinded floor burst (R4, R13): at 50 the accepted class becomes UNKNOWN, once per run. -/
def FloorChannel.blind (f : FloorChannel) : FloorChannel :=
  let f' := { f with ch := f.ch.blind }
  if f.ch.blinded + 1 = blindedMax then { f' with accepted := .unknown, runClass := none, runCount := 0, repeats := 0 }
  else f'

/-- The texture window with the burst's amplitude entered, if it is locked (R8 step 2, R10). -/
def FloorChannel.windowWith (f : FloorChannel) (a : Nat) : List Nat :=
  if bandOf a = .locked then windowAppend f.window a else f.window

/-- The class of a non-blinded floor burst of amplitude `a`, if it is classifying (R8 steps 1 to 3). -/
def FloorChannel.burstClass (f : FloorChannel) (v : SetupValues) (a : Nat) : Option FloorClass :=
  classOf (candidateOf a f.ch.step v.lm) (isTextured (f.windowWith a) v.texture)

/-- A non-blinded floor burst (R8): window, class, run and repeat count, then the ladder; a step change empties the
window. -/
def FloorChannel.measure (f : FloorChannel) (v : SetupValues) (a : Nat) (dropActive : Bool) : FloorChannel :=
  let g := { f with window := f.windowWith a }
  let g := match f.burstClass v a with
    | some c => g.classify c dropActive
    | none => g
  let ch := g.ch.move v a
  { g with ch := ch, window := if ch.step = f.ch.step then g.window else [] }

/-- The floor observation of a non-blinded burst, as an item (R15). -/
def FloorChannel.measureItem (f : FloorChannel) (v : SetupValues) (a : Nat) (dropActive : Bool) (tag : Option Seq) :
    Option Item :=
  ((f.burstClass v a).bind fun c => f.observes c dropActive).bind fun c => floorItem v c tag

/-- A blinded wall burst (R4, R13): at 50 the wall result becomes UNSEEN. -/
def WallChannel.blind (w : WallChannel) : WallChannel :=
  { w with ch := w.ch.blind, result := if w.ch.blinded + 1 = blindedMax then .unseen else w.result }

/-- The wall result after a sample (R19). -/
def resultAfter (old : WallResult) : WallSample → WallResult
  | .detecting _ => .obstacle
  | .clear => .clear
  | .unsettled => old

/-- A non-blinded wall burst (R19): judged at its step, then the ladder is moved. -/
def WallChannel.measure (w : WallChannel) (v : SetupValues) (a : Nat) : WallChannel :=
  { w with ch := w.ch.move v a, result := resultAfter w.result (wallSampleOf v.kw a w.ch.step v.lm) }

/-- The observation of a wall sample (R18, R19). -/
def wallItem (v : SetupValues) (tag : Option Seq) : WallSample → Option Item
  | .detecting d => some (.own .obstacle .wall (alongAxis v d).1 (alongAxis v d).2 tag)
  | .clear => some (.wallClear v.mx v.my v.ax v.ay tag)
  | .unsettled => none

/-- An optional observation enters the FIFO. -/
def State.observeOpt (s : State) : Option Item → State
  | some i => s.observe i
  | none => s

/-- A floor burst's result is handled (R4, R8). -/
def State.floorResult (s : State) (ambient lit : BitVec 10) : State :=
  if isBlindedBurst ambient then (s.setFloor s.floor.blind).count .blindedBursts
  else
    let a := amplitude ambient lit
    (s.setFloor (s.floor.measure s.setup a s.drop.accepted)).observeOpt
      (s.floor.measureItem s.setup a s.drop.accepted s.odo.tag)

/-- A wall burst's result is handled (R4, R19). -/
def State.wallResult (s : State) (ambient lit : BitVec 10) : State :=
  if isBlindedBurst ambient then (s.setWall s.wall.blind).count .blindedBursts
  else
    let a := amplitude ambient lit
    (s.setWall (s.wall.measure s.setup a)).observeOpt
      (wallItem s.setup s.odo.tag (wallSampleOf s.setup.kw a s.wall.ch.step s.setup.lm))

/-! ### State changes (R23, R24) -/

/-- A channel that becomes idle (R24): the step is kept. -/
def Channel.idle (c : Channel) : Channel :=
  { c.stop with relock := 0, blinded := 0, due := false, guard := none, period := none }

/-- The floor channel at a rejoin order and at FAULT entry (R24). -/
def FloorChannel.idle (f : FloorChannel) : FloorChannel :=
  { ch := f.ch.idle, window := [], runClass := none, runCount := 0, repeats := 0, accepted := .unknown }

/-- The wall channel at a rejoin order, at FAULT entry and, but for its counts, in PARK (R23, R24). -/
def WallChannel.idle (w : WallChannel) : WallChannel := { w with ch := w.ch.idle, result := .unseen }

/-- A channel that becomes active: step Lf, its period timer started (R6, R23, R24). -/
def Channel.activate (v : SetupValues) (period : Nat) : Channel :=
  { step := v.lf, relock := 0, blinded := 0, bursting := false, ambient := none, due := false, guard := none,
    period := some period }

/-- The wall channel at RUN entry: idle with step Lf while its health is FAILED or the mode is PARK (R2, R20, R24). -/
def WallChannel.enterRun (w : WallChannel) (v : SetupValues) : WallChannel :=
  if w.healthOk then { w with ch := Channel.activate v wallPeriod, result := .unseen }
  else { w with ch := { (Channel.activate v wallPeriod) with period := none }, result := .unseen }

/-- Both channels' first bursts fall due at RUN entry, as far as they are active (R2). -/
def State.firstBursts (s : State) : State := if s.wallActive then s.bothDue else s.floorDue

/-- Both channels and the filters at RUN entry (R21, R24). -/
def State.channelsEnterRun (s : State) : State :=
  let v := s.setup
  let floor : FloorChannel :=
    { FloorChannel.reset with ch := Channel.activate v (floorPeriod s.peers.mode) }
  let s := (s.setFloor floor).setWall (s.wall.enterRun v)
  let s := s.setBump (if v.bumpFitted then Filter.start false switchSample else Filter.stopped)
  let s := s.setDrop (if v.dropFitted then Filter.start false switchSample else Filter.stopped)
  s.firstBursts

/-- Both channels and the filters at a rejoin order and at FAULT entry (R21, R24). -/
def State.channelsIdle (s : State) : State :=
  (((s.setFloor s.floor.idle).setWall s.wall.idle).setBump Filter.stopped).setDrop Filter.stopped

/-- The floor channel at a change into PARK: its period timer is reloaded with 20 ms; a floor burst that waited for
the wall channel starts 50 µs after an abandoned wall burst, and at once when no wall burst was in progress (R3,
R23). -/
def FloorChannel.park (f : FloorChannel) (wallWasBursting : Bool) : FloorChannel :=
  let c := { f.ch with period := some (floorPeriod .park) }
  if c.due && wallWasBursting then { f with ch := { c with guard := some guardTime } }
  else if c.due && c.guard.isNone && !c.bursting then { f with ch := c.start }
  else { f with ch := c }

/-- A change into PARK (R23): the floor period timer is reloaded with 20 ms; the wall channel becomes idle. -/
def State.channelsPark (s : State) : State :=
  let w := { s.wall with
    ch := { s.wall.ch.stop with due := false, guard := none, period := none }, result := .unseen }
  (s.setWall w).setFloor (s.floor.park s.wall.ch.bursting)

/-- A change from PARK to CLEAN or DOCK (R23): the floor period timer is reloaded with 2 ms and the next floor burst
falls due at once; the wall channel, if its health is OK, becomes active as at RUN entry. -/
def State.channelsUnpark (s : State) : State :=
  let s := s.setFloor { s.floor with ch := { s.floor.ch with period := some (floorPeriod .clean) } }
  if s.wall.healthOk then
    (s.setWall { s.wall with ch := Channel.activate s.setup wallPeriod, result := .unseen }).bothDue
  else s.floorDue

/-- The channels at a change of mode (R23). -/
def State.channelsMode (s : State) (old new : Mode) : State :=
  if new = .park then s.channelsPark
  else if old = .park then s.channelsUnpark
  else s

/-! ### The commands -/

/-- FLOOR_PERIOD_EXPIRY (R2): the timer reloads and a floor burst falls due. -/
def State.floorPeriodExpiry (s : State) : State :=
  if s.running && s.floor.ch.period.isSome then
    (s.setFloor { s.floor with ch := { s.floor.ch with period := some (floorPeriod s.peers.mode) } }).floorDue
  else s

/-- WALL_PERIOD_EXPIRY (R2): the timer reloads and a wall burst falls due. -/
def State.wallPeriodExpiry (s : State) : State :=
  if s.running && s.wall.ch.period.isSome then
    (s.setWall { s.wall with ch := { s.wall.ch with period := some wallPeriod } }).wallDue
  else s

/-- GUARDED_BURST_START (R3): the waiting burst starts, 50 µs after the other burst ended. -/
def State.guardedStart (s : State) (c : Chan) : State :=
  match c with
  | .floor =>
    if s.running && s.floor.ch.due && s.floor.ch.guard.isSome && !s.wall.ch.bursting && !s.floor.ch.bursting then
      s.setFloor { s.floor with ch := s.floor.ch.start }
    else s
  | .wall =>
    if s.running && s.wall.ch.due && s.wall.ch.guard.isSome && !s.floor.ch.bursting && !s.wall.ch.bursting then
      s.setWall { s.wall with ch := s.wall.ch.start }
    else s

/-- FLOOR_BURST_END (R1, R8). -/
def State.floorBurstEnd (s : State) (ambient lit : BitVec 10) : State :=
  if s.running && s.floor.ch.bursting then ((s.floorResult ambient lit).afterFloorBurst).notify s false else s

/-- WALL_BURST_END (R1, R19). -/
def State.wallBurstEnd (s : State) (ambient lit : BitVec 10) : State :=
  if s.running && s.wall.ch.bursting then ((s.wallResult ambient lit).afterWallBurst).notify s false else s

/-- BUMP_CHANGE (R21, R22): the pin takes the level; the filter of a fitted BUMP in RUN accepts it. -/
def State.bumpChange (s : State) (active : Bool) : State :=
  let s := s.setPins { s.pins with bump := active }
  if s.running && s.setup.bumpFitted && active ≠ s.bump.accepted then
    let t := s.setBump { s.bump with accepted := active, last := some active }
    let t := if active then t.observe (.own .obstacle .bump s.setup.mx s.setup.my s.odo.tag) else t
    t.notify s true
  else s

/-- DROP_CHANGE (R17, R21, R22): an accepted press empties the run and the repeat count. -/
def State.dropChange (s : State) (active : Bool) : State :=
  let s := s.setPins { s.pins with drop := active }
  if s.running && s.setup.dropFitted && active ≠ s.drop.accepted then
    let t := s.setDrop { s.drop with accepted := active, last := some active }
    (t.setFloor { t.floor with runClass := none, runCount := 0, repeats := 0 }).notify s true
  else s

/-! ### Meanings -/

/-- FLOOR_PERIOD_EXPIRY (R2). -/
def execFloorPeriodExpiry (s : State) : Host.Outcome State Fault Refusal :=
  .next s.floorPeriodExpiry

/-- WALL_PERIOD_EXPIRY (R2). -/
def execWallPeriodExpiry (s : State) : Host.Outcome State Fault Refusal :=
  .next s.wallPeriodExpiry

/-- GUARDED_BURST_START (R3). -/
def execGuardedBurstStart (c : Chan) (s : State) : Host.Outcome State Fault Refusal :=
  .next (s.guardedStart c)

/-- FLOOR_BURST_END (R8). -/
def execFloorBurstEnd (ambient lit : BitVec 10) (s : State) : Host.Outcome State Fault Refusal :=
  .next (s.floorBurstEnd ambient lit)

/-- WALL_BURST_END (R19). -/
def execWallBurstEnd (ambient lit : BitVec 10) (s : State) : Host.Outcome State Fault Refusal :=
  .next (s.wallBurstEnd ambient lit)

/-- BUMP_CHANGE (R22). -/
def execBumpChange (active : Bool) (s : State) : Host.Outcome State Fault Refusal :=
  .next (s.bumpChange active)

/-- DROP_CHANGE (R17). -/
def execDropChange (active : Bool) (s : State) : Host.Outcome State Fault Refusal :=
  .next (s.dropChange active)

end Sys2Proof.Machine
end

