-- ==== Sys2Proof/Machine/OdometryUnit.lean ====
section
/-! DEFINITION. The Encoder Interface and the Odometry Unit (chapter 2). -/

namespace Sys2Proof.Machine

open Sys2Proof

/-! ### The Encoder Interface (R25 to R32) -/

/-- The Encoder Interface works: a WHEEL node in RUN (R25). -/
def State.encoding (s : State) : Bool := s.running && s.startup.role = .wheel

/-- The pair after (a, b) along the cycle (0,0), (0,1), (1,1), (1,0) (R27). -/
def Pair.next : Pair → Pair
  | ⟨false, false⟩ => ⟨false, true⟩
  | ⟨false, true⟩ => ⟨true, true⟩
  | ⟨true, true⟩ => ⟨true, false⟩
  | ⟨true, false⟩ => ⟨false, false⟩

/-- What a pair of accepted levels does to the old pair: nothing, one tick, or both channels at once (R27, R28). -/
inductive EdgeKind where
  | same
  | tick (step : Int)
  | both
  deriving DecidableEq, Repr

def edgeKind (old new : Pair) : EdgeKind :=
  if old = new then .same
  else if new = old.next then .tick 1
  else if old = new.next then .tick (-1)
  else .both

/-- The sign of a wheel's steps (R27): inverted by its reverse option. -/
def wheelSign (v : SetupValues) : Wheel → Int
  | .left => if v.reverseLeft then -1 else 1
  | .right => if v.reverseRight then -1 else 1

def Encoder.quad (e : Encoder) : Wheel → Option Pair
  | .left => e.quadLeft
  | .right => e.quadRight

def Encoder.setQuad (e : Encoder) (w : Wheel) (p : Pair) : Encoder :=
  match w with
  | .left => { e with quadLeft := some p, lastLeft := some p }
  | .right => { e with quadRight := some p, lastRight := some p }

/-- A step is added to the wheel's 16-bit count, which wraps (R27). -/
def Encoder.addStep (e : Encoder) (w : Wheel) (step : Int) : Encoder :=
  match w with
  | .left => { e with left := e.left + BitVec.ofInt 16 step }
  | .right => { e with right := e.right + BitVec.ofInt 16 step }

/-- The accepted levels of one wheel become `new` (R27, R28). -/
def Encoder.edge (e : Encoder) (v : SetupValues) (w : Wheel) (new : Pair) : Encoder :=
  let e' := e.setQuad w new
  match e.quad w with
  | none => e'
  | some old =>
    match edgeKind old new with
    | .same => e
    | .tick step => e'.addStep w (wheelSign v w * step)
    | .both => { e' with errors := satInc e'.errors }

/-- A snapshot's odometry frame, enqueued as urgent (R30). -/
def State.sendOdometry (s : State) : State :=
  s.enqueue (.odometry { left := s.enc.left, right := s.enc.right, interval := 10#8, errors := s.enc.errors }) true

/-- RUN entry of a WHEEL node (R25, R30): levels taken from the pins, first snapshot at once. -/
def State.encoderEnterRun (s : State) : State :=
  if s.startup.role = .wheel then
    (s.setEnc { s.enc with
      quadLeft := some s.pins.encLeft, quadRight := some s.pins.encRight, lastLeft := none, lastRight := none,
      sample := some encoderSample, odoTimer := some odoPeriod }).sendOdometry
  else s

/-- Outside RUN the filters do not sample and the ODO timer is stopped; counts are kept (R25, R44). -/
def Encoder.idle (e : Encoder) : Encoder := { e with sample := none, odoTimer := none }

/-- A cleanly completed odometry frame takes its error count off (R32). -/
def Encoder.reported (e : Encoder) (errors : Byte) : Encoder :=
  { e with errors := if errors.toNat ≤ e.errors.toNat then e.errors - errors else 0 }

/-- The pins of one wheel's encoder. -/
def Pins.setEncoder (p : Pins) (w : Wheel) (new : Pair) : Pins :=
  match w with
  | .left => { p with encLeft := new }
  | .right => { p with encRight := new }

/-- ENCODER_EDGE (R26 to R28): the pins take the pair; the filters of a WHEEL node in RUN accept it. -/
def State.encoderEdge (s : State) (w : Wheel) (a b : Bool) : State :=
  let s := s.setPins (s.pins.setEncoder w ⟨a, b⟩)
  if s.encoding then s.setEnc (s.enc.edge s.setup w ⟨a, b⟩) else s

/-- ODO_TIMER_EXPIRY (R30): a snapshot, and the timer reloads. -/
def State.odoTimerExpiry (s : State) : State :=
  if s.encoding && s.enc.odoTimer.isSome then (s.setEnc { s.enc with odoTimer := some odoPeriod }).sendOdometry
  else s

/-! ### The Odometry Unit (R33 to R43) -/

/-- LOST (R42): baseline, tag and ring cleared, last Δs 0, STALLED timer stopped. -/
def Odometry.lose (o : Odometry) : Odometry :=
  { o with state := .lost, baseline := none, tag := none, ring := [], lastDs := 0, stalled := none }

/-- The positions of the peer table in ALIVE state with role WHEEL, lowest first (R42). -/
def PeerMonitor.aliveWheels (p : PeerMonitor) : List Pos :=
  (List.finRange 8).filter fun i => p.entries[i].state = .alive && p.entries[i].role = some .wheel

/-- LOST with the source given up: the lowest ALIVE WHEEL station, or none (R42). -/
def Odometry.giveUp (o : Odometry) (p : PeerMonitor) : Odometry := { o.lose with source := p.aliveWheels.head? }

/-- The ring with an entry appended, the oldest of 4 leaving first (R40). -/
def ringAppend (ring : List RingEntry) (e : RingEntry) : List RingEntry :=
  (if ring.length < ringSize then ring else ring.drop 1) ++ [e]

/-- A tag held in the ring, or the odometry tag (R37). -/
def Odometry.holdsTag (o : Odometry) (t : Seq) : Bool :=
  o.tag = some t || o.ring.any fun e => e.fromTag = t || e.toTag = t

/-- A new baseline (R36). -/
def Odometry.rebase (o : Odometry) (seq : Seq) (l r : Half) : Odometry :=
  { o with state := .tracking, baseline := some (l, r), tag := some seq, ring := [], lastDs := 0,
           stalled := some stalledTime }

/-- The ring entry and the last Δs of a frame's wheel deltas (R37 to R39). -/
def deltaEntry (v : SetupValues) (fromTag toTag : Seq) (dl dr : Int) : RingEntry × Int :=
  if jumpLimit < dl.natAbs ∨ jumpLimit < dr.natAbs then (.brk fromTag toTag, 0)
  else
    let ds := poseDs v.fd dl dr
    let dth := poseDth v.fh dl dr
    if subStepCount ds dth ≤ maxSubSteps then (.motion fromTag toTag ds dth, ds) else (.brk fromTag toTag, 0)

/-- An odometry frame from the source is applied (R36, R37). -/
def Odometry.apply (o : Odometry) (v : SetupValues) (seq : Seq) (l r : Half) : Odometry :=
  match o.state, o.baseline, o.tag with
  | .lost, _, _ => o.rebase seq l r
  | _, some (lp, rp), some tag =>
    if o.holdsTag seq then o.rebase seq l r
    else
      let e := deltaEntry v tag seq (countDelta l lp) (countDelta r rp)
      { o with state := .tracking, baseline := some (l, r), tag := some seq, ring := ringAppend o.ring e.1,
               lastDs := e.2, stalled := some stalledTime }
  | _, _, _ => o.rebase seq l r

/-- Each application raises the carry flag (R43), which an IDLE manager takes at once (R50). -/
def State.raiseCarry (s : State) : State := (s.setTable { s.table with carryFlag := true }).kick

/-- The handling of the odometry frame just applied waits for the next carry's end (R174). -/
def State.awaitCarry (s : State) : State :=
  s.setLink { s.link with handling := s.link.handling.map fun h => { h with wait := .start } }

/-- A taken odometry frame of a WHEEL-role station (R34 to R37). `buffered` says that it came through a receive
buffer. A frame of another station than the source starts the ROLE_CLASH hold (R35). The Clearance Unit recomputes on
each application (R127). -/
def State.takeOdometry (s : State) (src : Pos) (seq : Seq) (l r : Half) (buffered : Bool) : State :=
  if s.odo.source = some src then
    let s := s.setOdo (s.odo.apply s.setup seq l r)
    ((if buffered then s.awaitCarry else s).raiseCarry).recompute
  else s.handing fun t => t.setOdo { t.odo with clashHold := some clashHoldTime }

/-- A received odometry frame (R33): used in RUN, from head role WHEEL. -/
def State.odometryBlock (s : State) (h : Head) (d : OdometryData) : State :=
  if s.running && h.role = .wheel then s.takeOdometry h.src h.seq d.left d.right true else s

/-- What the Odometry Unit does with the position and head role of each accepted frame in RUN (R34, R42, R155). -/
def State.odoNotice (s : State) (h : Head) (isBoot : Bool) : State :=
  if !s.running then s
  else
    let s :=
      if s.odo.source = some h.src then
        if h.role ≠ .wheel then s.setOdo (s.odo.giveUp s.peers)
        else if isBoot then s.setOdo s.odo.lose
        else s
      else s
    if s.odo.source = none ∧ h.role = .wheel then s.setOdo { s.odo with source := some h.src } else s

/-- The LOST notice for a position (R42, R155). -/
def State.odoLostNotice (s : State) (p : Pos) : State :=
  if s.running && s.odo.source = some p then s.setOdo (s.odo.giveUp s.peers) else s

/-- A WHEEL node's own frame that completed cleanly (R32): applied in RUN, and its error count taken off. -/
def State.ownOdometry (s : State) (seq : Seq) (d : OdometryData) : State :=
  let s := s.setEnc (s.enc.reported d.errors)
  if s.running then s.takeOdometry s.startup.pos seq d.left d.right false else s

/-- The Odometry Unit at RUN entry (R34, R44). -/
def State.odoEnterRun (s : State) : State :=
  s.setOdo { s.odo.lose with
    source := if s.startup.role = .wheel then some s.startup.pos else none, clashHold := none }

/-- The Odometry Unit at a rejoin order (R44). -/
def State.odoRejoin (s : State) : State := s.odoEnterRun

/-- The Odometry Unit at FAULT entry: the source is kept (R44). -/
def Odometry.faultEntry (o : Odometry) : Odometry := { o.lose with clashHold := none }

/-- STALLED_TIMER_EXPIRY (R42): TRACKING becomes STALLED; last Δs, baseline, ring and tag are kept. -/
def State.stalledTimerExpiry (s : State) : State :=
  if s.running && s.odo.stalled.isSome && s.odo.state = .tracking then
    (s.setOdo { s.odo with state := .stalled, stalled := none }).notify s true
  else s

/-- ODO_ROLE_CLASH_HOLD_EXPIRY (R35). -/
def State.odoClashHoldExpiry (s : State) : State :=
  if s.running && s.odo.clashHold.isSome then
    (s.setOdo { s.odo with clashHold := none }).notify s false
  else s

/-! ### Meanings -/

/-- ENCODER_EDGE (R27). -/
def execEncoderEdge (wheel : Wheel) (a b : Bool) (s : State) : Host.Outcome State Fault Refusal :=
  .next (s.encoderEdge wheel a b)

/-- ODO_TIMER_EXPIRY (R30). -/
def execOdoTimerExpiry (s : State) : Host.Outcome State Fault Refusal :=
  .next s.odoTimerExpiry

/-- STALLED_TIMER_EXPIRY (R42). -/
def execStalledTimerExpiry (s : State) : Host.Outcome State Fault Refusal :=
  .next s.stalledTimerExpiry

/-- ODO_ROLE_CLASH_HOLD_EXPIRY (R35). -/
def execOdoRoleClashHoldExpiry (s : State) : Host.Outcome State Fault Refusal :=
  .next s.odoClashHoldExpiry

end Sys2Proof.Machine
end

