-- ==== Sys2Proof/Machine/Peers.lean ====
section
/-! DEFINITION. The Peer Monitor (chapter 8): liveness, frame numbers, clashes, missing peers. -/

namespace Sys2Proof.Machine

open Sys2Proof

def PeerMonitor.setEntry (p : PeerMonitor) (i : Pos) (e : PeerEntry) : PeerMonitor :=
  { p with entries := p.entries.set i e }

/-- Another position than `src` has an ALIVE or SILENT entry with the role (R154). -/
def PeerMonitor.otherHolds (p : PeerMonitor) (src : Pos) (role : HeadRole) : Bool :=
  (List.finRange 8).any fun i =>
    i ≠ src && (p.entries[i].state = .alive || p.entries[i].state = .silent) && p.entries[i].role = some role

/-- The three cases of a role clash (R154), judged against the table before the frame. -/
def State.clashes (s : State) (h : Head) (isBoot : Bool) : Bool :=
  let e := s.peers.entries[h.src]
  (e.role.any (fun r => r ≠ h.role) && !isBoot) ||
    (h.role = .wheel && (s.startup.role = .wheel || s.peers.otherHolds h.src .wheel)) ||
    (h.role = .controller && s.peers.otherHolds h.src .controller)

/-- An entry after an accepted frame (R151, R152, R154). -/
def PeerEntry.heard (e : PeerEntry) (h : Head) : PeerEntry :=
  { e with state := .alive, role := some h.role, lastSeq := some h.seq, silence := some 0 }

/-- At least one expected entry, the own left out, is not ALIVE (R157). -/
def State.someMissing (s : State) : Bool :=
  (List.finRange 8).any fun i =>
    i ≠ s.startup.pos && s.peers.entries[i].expected && s.peers.entries[i].state ≠ .alive

/-- MISSING_PEER is judged from the missing-peer timer's expiry until the node leaves RUN (R157). -/
def State.judgeMissing (s : State) : State :=
  if s.running && s.peers.missingTimer.isNone then s.setPeers { s.peers with missing := s.someMissing } else s

/-- An accepted frame from another position updates its entry, and a role clash starts the hold (R151, R152, R154). -/
def State.peerHeard (s : State) (h : Head) (isBoot : Bool) : State :=
  let p := s.peers.setEntry h.src (s.peers.entries[h.src].heard h)
  s.setPeers { p with roleHold := if s.clashes h isBoot then some clashHoldTime else p.roleHold }

/-- An accepted frame from another position at the Peer Monitor (R151, R152, R154, R157): ROLE_CLASH and MISSING_PEER
change each by itself, in this order and before the Odometry Unit's notice (DESIGN CHOICE, log 39). -/
def State.peerAccept (s : State) (h : Head) (isBoot : Bool) : State :=
  (s.handing fun t => t.peerHeard h isBoot).handing State.judgeMissing

/-- A frame from another station on the own position (R153). -/
def State.posClash (s : State) : State := s.setPeers { s.peers with posHold := some clashHoldTime }

/-- A boot status frame makes the entry's last seq absent before the duplicate test (R152, R175). -/
def State.forgetSeq (s : State) (p : Pos) : State :=
  s.setPeers (s.peers.setEntry p { s.peers.entries[p] with lastSeq := none })

/-- PEER_SILENT (R151): an ALIVE entry goes SILENT. -/
def State.peerSilent (s : State) (p : Pos) : State :=
  let e := s.peers.entries[p]
  if s.receiving && e.state = .alive && e.silence.isSome then
    (s.setPeers (s.peers.setEntry p { e with state := .silent })).handing State.judgeMissing
  else s

/-- PEER_LOST (R151, R155, R156): a SILENT entry goes LOST, its timer stops, and the LOST notices are made. DESIGN
CHOICE (log 39): MISSING_PEER is judged, with the recompute on its change, before the LOST notices; R157 gives no order.
DESIGN CHOICE (log 37): the Odometry Unit takes its notice, with the recompute on it, before the Report Handler takes its
own; R156 lets either be first. -/
def State.peerLost (s : State) (p : Pos) : State :=
  let e := s.peers.entries[p]
  if s.receiving && e.state = .silent && e.silence.isSome then
    let t := (s.setPeers (s.peers.setEntry p { e with state := .lost, silence := none })).handing State.judgeMissing
    ((t.handing fun u => u.odoLostNotice p).reportLostNotice p).kick
  else s

/-- POS_CLASH_HOLD_EXPIRY (R153). -/
def State.posHoldExpiry (s : State) : State :=
  if s.receiving && s.peers.posHold.isSome then (s.setPeers { s.peers with posHold := none }).notify s false else s

/-- ROLE_CLASH_HOLD_EXPIRY (R154). -/
def State.roleHoldExpiry (s : State) : State :=
  if s.receiving && s.peers.roleHold.isSome then (s.setPeers { s.peers with roleHold := none }).notify s false
  else s

/-- MISSING_PEER_TIMER_EXPIRY (R157). -/
def State.missingTimerExpiry (s : State) : State :=
  if s.running && s.peers.missingTimer.isSome then
    (s.setPeers { s.peers with missingTimer := none }).handing State.judgeMissing
  else s

/-- Each entry's expected field from the expected set of setup part 3 (R149). -/
def PeerMonitor.expect (p : PeerMonitor) (set : Byte) : PeerMonitor :=
  { p with entries := Vector.ofFn fun i => { p.entries[i] with expected := set.getLsbD i } }

/-- The Peer Monitor at RUN entry (R157, R160). -/
def PeerMonitor.enterRun (p : PeerMonitor) (set : Byte) : PeerMonitor :=
  { (p.expect set) with mode := .clean, missingTimer := some missingTime, missing := false }

/-- The Peer Monitor at a rejoin order (R160): the table, its silence timers and the clash holds go on. -/
def PeerMonitor.rejoin (p : PeerMonitor) : PeerMonitor :=
  { (p.expect 0) with mode := .clean, missingTimer := none, missing := false }

/-- The Peer Monitor at FAULT entry (R160): entries keep their values; timers and holds stop. -/
def PeerMonitor.faultEntry (p : PeerMonitor) : PeerMonitor :=
  { p with entries := p.entries.map fun e => { e with silence := none }
           missingTimer := none, posHold := none, roleHold := none }

/-! ### Meanings -/

/-- PEER_SILENT (R151). -/
def execPeerSilent (p : Pos) (s : State) : Host.Outcome State Fault Refusal :=
  .next (s.peerSilent p)

/-- PEER_LOST (R151). -/
def execPeerLost (p : Pos) (s : State) : Host.Outcome State Fault Refusal :=
  .next (s.peerLost p)

/-- POS_CLASH_HOLD_EXPIRY (R153). -/
def execPosClashHoldExpiry (s : State) : Host.Outcome State Fault Refusal :=
  .next s.posHoldExpiry

/-- ROLE_CLASH_HOLD_EXPIRY (R154). -/
def execRoleClashHoldExpiry (s : State) : Host.Outcome State Fault Refusal :=
  .next s.roleHoldExpiry

/-- MISSING_PEER_TIMER_EXPIRY (R157). -/
def execMissingPeerTimerExpiry (s : State) : Host.Outcome State Fault Refusal :=
  .next s.missingTimerExpiry

end Sys2Proof.Machine
end

