-- ==== Sys2Proof/Machine/StartUp.lean ====
section
/-! DEFINITION. The Start-up Controller (chapter 10): resets, self-test, boot frames, setup, RUN entry, rejoin, FAULT
and the LED; and what every block takes at those changes of node state. -/

namespace Sys2Proof.Machine

open Sys2Proof

/-! ### The LED (R186) -/

/-- The first flash of a group of the progress code. -/
def Startup.beginGroup (u : Startup) : Startup :=
  { u with led := .flashOn ((u.code.map progressNat).getD 0) 0, ledTimer := some blinkHalf }

/-- LED_FLASH (R186): a half, a gap or a FAULT half ends. -/
def Startup.ledNext (u : Startup) : Startup :=
  match u.led with
  | .flashOn n k => { u with led := .flashOff n k, ledTimer := some blinkHalf }
  | .flashOff n k =>
    if k + 1 < n then { u with led := .flashOn n (k + 1), ledTimer := some blinkHalf }
    else { u with led := .gap, ledTimer := some blinkGap }
  | .gap => u.beginGroup
  | .faultOn => { u with led := .faultOff, ledTimer := some faultHalf }
  | .faultOff => { u with led := .faultOn, ledTimer := some faultHalf }
  | .released => u
  | .off => u
  | .steady => u

def State.ledFlash (s : State) : State := s.setStartup s.startup.ledNext

/-! ### Resets and straps (R180, R181) -/

/-- HARD_RESET (R180): every block at its hard-reset values, the node held, the LED released. Pins and the queue are
the outside's. -/
def State.hardReset (s : State) : State :=
  { State.reset with
    pins := s.pins
    startup := { Startup.reset with node := .held, led := .released }
    choices := s.choices
    pending := s.pending }

/-- POS2 POS1 POS0 as a binary number, POS2 most significant (R181). -/
def strapPos (pos2 pos1 pos0 : Bool) : Pos := Fin.ofNat 8 (4 * pos2.toNat + 2 * pos1.toNat + pos0.toNat)

def stepCode : TestStep → ProgressCode
  | .s7 => .c7 | .s6 => .c6 | .s5 => .c5 | .s4 => .c4 | .s3 => .c3

/-- A self-test step starts with its boot frame (R182); step 5 has a time limit of 100 ms (R183). -/
def State.enterStep (s : State) (k : TestStep) : State :=
  (s.setStartup { s.startup with
    node := .selfTest, step := some k, loopTimer := if k = .s5 then some loopbackTime else none }).formBoot
      (stepCode k)

/-- STRAP_SAMPLE (R180 to R182): at the release the straps are sampled and SELF-TEST begins at step 7. -/
def State.strapSample (s : State) (pos2 pos1 pos0 role : Bool) : State :=
  if s.startup.node = .held ∨ s.startup.node = .strap then
    let s := s.setStartup { s.startup with
      pos := strapPos pos2 pos1 pos0, role := if role then .sense else .wheel }
    let s := s.enterStep .s7
    s.setStartup s.startup.beginGroup
  else s

/-! ### FAULT entry (R190) -/

/-- The Clearance Unit at a rejoin order and at FAULT entry (R134, R135): the driver asserted, the timers stopped. -/
def Clearance.leaveRun : Clearance := Clearance.reset

/-- The Link Controller at FAULT entry (R179): only boot frames stay queued; it takes no frame in; the access wait
restarts (DEDUCED, log 36). -/
def Link.faultEntry (l : Link) : Link :=
  { l with queue := l.queue.filter fun e => e.payload.isBoot, access := 0, rx := [], handling := none,
           healthTimer := none }

/-- FAULT entry with a cause (R190): every block takes its FAULT values, the code 15 frame is formed and pending, and
the boot timer starts with 1000 ms. -/
def State.enterFault (s : State) (cause : FaultCause) : State :=
  let s := s.channelsIdle
  let s := (s.setEnc s.enc.idle).setOdo s.odo.faultEntry
  let s := (s.setTable (s.table.clear none)).setReport s.report.clear
  let s := (s.setClear Clearance.leaveRun).setBeacon s.beacon.idle
  let s := (s.setPeers s.peers.faultEntry).setLink s.link.faultEntry
  (s.setStartup { s.startup with
    node := .fault, step := none, cause := cause, part0 := none, part1 := none, part2 := none, part3 := none,
    setup := none, bootTimer := some bootTimeFault, loopTimer := none, led := .faultOn,
    ledTimer := some faultHalf }).formPendingBoot .c15

/-! ### Self-test (R182 to R184) -/

/-- The number of good slots of a bitmap (R182). -/
def goodSlots (good : BitVec 24) : Nat := ((List.range 24).filter fun i => good.getLsbD i).length

/-- The node is in the given self-test step. -/
def State.inStep (s : State) (k : TestStep) : Bool := s.startup.node = .selfTest && s.startup.step = some k

/-- FEMIT is driven (R1, R184): in RUN by the lit sample of a floor burst, and by self-test step 4. -/
def State.femit (s : State) : Bool := if s.running then s.floor.ch.lit else s.inStep .s4

/-- WEMIT is driven (R1, R184): in RUN by the lit sample of a wall burst, and by self-test step 3. -/
def State.wemit (s : State) : Bool := if s.running then s.wall.ch.lit else s.inStep .s3

/-- TABLE_SLOT_TEST (R45, R182). -/
def State.tableSlotTest (s : State) (good : BitVec 24) : State :=
  if s.inStep .s7 then
    let s := (s.setTable { s.table with good := good }).setStartup { s.startup with usable := goodSlots good }
    if leastUsable ≤ goodSlots good then s.enterStep .s6 else s.enterFault .slots
  else s

/-- CRC_SELF_TEST (R183). -/
def State.crcSelfTest (s : State) (result : Half) : State :=
  if s.inStep .s6 then (if result = crcCheckValue then s.enterStep .s5 else s.enterFault .crc) else s

/-- LINK_LOOPBACK_TIMEOUT (R183): the frame, if queued, stays as a boot frame. -/
def State.loopbackTimeout (s : State) : State := if s.inStep .s5 then s.enterFault .link else s

/-- The end of the code 5 frame decides step 5 (R183): a clean completion passes it. -/
def State.loopbackResult (s : State) (clean : Bool) : State :=
  if s.inStep .s5 then (if clean then s.enterStep .s4 else s.enterFault .link) else s

/-- FLOOR_EMITTER_TEST (R184). -/
def State.floorEmitterTest (s : State) (d : Drive) : State :=
  if s.inStep .s4 then
    let s := s.setStartup { s.startup with floorEmitter := driveStatus d }
    if d = .inBand then s.enterStep .s3 else s.enterFault .floorEmitter
  else s

/-- AWAIT-SETUP from SELF-TEST (R184, R185): the code 2 frame is formed and pending, the boot timer starts. -/
def State.enterAwait (s : State) : State :=
  (s.setStartup { s.startup with
    node := .awaitSetup, step := none, bootTimer := some bootTimeAwait }).formPendingBoot .c2

/-- WALL_EMITTER_TEST (R20, R184): a failure is kept, and the node goes on. -/
def State.wallEmitterTest (s : State) (d : Drive) : State :=
  if s.inStep .s3 then
    let s := s.setStartup { s.startup with wallEmitter := driveStatus d }
    (s.setWall { s.wall with healthOk := d = .inBand }).enterAwait
  else s

/-- BOOT_TIMER_EXPIRY (R185): the timer reloads; a frame is formed unless the last one is still pending. -/
def State.bootTimerExpiry (s : State) : State :=
  if s.startup.bootTimer.isSome && s.startup.node = .awaitSetup then
    let s := s.setStartup { s.startup with bootTimer := some bootTimeAwait }
    if s.startup.bootPending.isNone then s.formPendingBoot .c2 else s
  else if s.startup.bootTimer.isSome && s.startup.node = .fault then
    let s := s.setStartup { s.startup with bootTimer := some bootTimeFault }
    if s.startup.bootPending.isNone then s.formPendingBoot .c15 else s
  else s

/-! ### Setup and RUN entry (R187, R188) -/

/-- The level of the STOP line at the pin (R126). -/
def State.stopPin (s : State) : Bool :=
  match s.pins.stopLine with
  | .free => s.clear.driver
  | .low => true
  | .high => false

/-- The Clearance Unit at RUN entry, before its first recompute (R134, R135). -/
def State.clearEnterRun (s : State) : State :=
  s.setClear { s.clear with
    driver := true, hold := some stopHoldTime, last := none, verdictTimer := none
    line := Filter.start s.stopPin switchSample }

/-- RUN entry with completed setup values (R188): the code 1 frame, then every block's RUN-entry values, then the
first recompute and verdict (R134). -/
def State.enterRun (s : State) (v : SetupValues) : State :=
  let s := s.formBoot .c1
  let s := s.setStartup { s.startup with
    node := .run, setup := some v, bootTimer := none, bootPending := none, led := .steady, ledTimer := none }
  let s := s.setPeers (s.peers.enterRun v.expected)
  let s := s.odoEnterRun
  let s := (s.setTable (s.table.clear (some ageTick))).setReport s.report.clear
  let s := s.setBeacon (Beacon.enterRun s.pins)
  let s := s.setLink { s.link with healthTimer := some healthTime }
  let s := s.channelsEnterRun
  let s := s.encoderEnterRun
  s.clearEnterRun.recompute

/-- A taken part is held, replacing earlier data of its number (R187). -/
def Startup.holdPart (u : Startup) : PartData → Startup
  | .part0 p => { u with part0 := some p }
  | .part1 p => { u with part1 := some p }
  | .part2 p => { u with part2 := some p }
  | .part3 p => { u with part3 := some p }

/-- All four parts are held, and setup completes (R188). -/
def State.trySetup (s : State) : State :=
  match s.startup.part0, s.startup.part1, s.startup.part2, s.startup.part3 with
  | some p0, some p1, some p2, some p3 => s.enterRun (clampSetup p0 p1 p2 p3)
  | _, _, _, _ => s

/-- A setup part (R187). -/
def State.setupBlock (s : State) (h : Head) (d : SetupData) : State :=
  if d.dest ≠ s.startup.pos then s
  else if h.role ≠ .controller ∨ s.startup.node ≠ .awaitSetup then s.count .refusedOrder
  else (s.setStartup (s.startup.holdPart d.part)).trySetup

/-! ### Rejoin (R189) and mode orders (R158, R159) -/

/-- The Link Controller at a rejoin order (R178), before its code 2 frame: the queue emptied uncounted, a frame on the
line not retried, the yield cleared, the access wait restarted (DEDUCED, log 36), the health timer stopped. -/
def Link.rejoin (l : Link) : Link :=
  { l with queue := [], onLine := l.onLine.map fun o => { o with retry := false }, yield := false, access := 0,
           healthTimer := none }

/-- The Start-up Controller at a rejoin order (R189, R190), before its LED group. -/
def Startup.rejoin (u : Startup) : Startup :=
  { u with node := .awaitSetup, step := none, part0 := none, part1 := none, part2 := none, part3 := none,
           setup := none, bootTimer := some bootTimeAwait }

/-- A taken rejoin order (R189): every block's rejoin values, the code 2 frame, the boot timer, and a code 2 LED group
that begins at once, whatever the LED showed (DEDUCED, log 11). -/
def State.rejoin (s : State) : State :=
  let s := s.channelsIdle
  let s := (s.setEnc s.enc.idle).odoRejoin
  let s := (s.setTable (s.table.clear none)).setReport s.report.clear
  let s := (s.setClear Clearance.leaveRun).setBeacon s.beacon.idle
  let s := (s.setPeers s.peers.rejoin).setLink s.link.rejoin
  let s := (s.setStartup s.startup.rejoin).formPendingBoot .c2
  s.setStartup s.startup.beginGroup

/-- A rejoin order (R189). -/
def State.rejoinBlock (s : State) (h : Head) (dest : Pos) : State :=
  if dest ≠ s.startup.pos then s
  else if h.role ≠ .controller then s.count .refusedOrder
  else if s.startup.node = .run ∨ s.startup.node = .awaitSetup then s.rejoin
  else s.count .refusedOrder

/-- A mode order (R158, R159): the Clearance Unit recomputes with the new mode (R133), and once more on what PARK makes
of the wall result (R14). -/
def State.modeBlock (s : State) (h : Head) (value : Byte) : State :=
  if h.role ≠ .controller ∨ !s.running then s.count .refusedOrder
  else
    match modeOf value with
    | none => s.count .refusedOrder
    | some m =>
      if m = s.peers.mode then s
      else
        ((s.setPeers { s.peers with mode := m }).notify s true).handing fun t => t.channelsMode s.peers.mode m

/-! ### Meanings -/

/-- HARD_RESET (R180). -/
def execHardReset (s : State) : Host.Outcome State Fault Refusal :=
  .next s.hardReset

/-- STRAP_SAMPLE (R181). -/
def execStrapSample (pos2 pos1 pos0 role : Bool) (s : State) : Host.Outcome State Fault Refusal :=
  .next (s.strapSample pos2 pos1 pos0 role)

/-- TABLE_SLOT_TEST (R182). -/
def execTableSlotTest (good : BitVec 24) (s : State) : Host.Outcome State Fault Refusal :=
  .next (s.tableSlotTest good)

/-- CRC_SELF_TEST (R183). -/
def execCrcSelfTest (result : Half) (s : State) : Host.Outcome State Fault Refusal :=
  .next (s.crcSelfTest result)

/-- LINK_LOOPBACK_TIMEOUT (R183). -/
def execLinkLoopbackTimeout (s : State) : Host.Outcome State Fault Refusal :=
  .next s.loopbackTimeout

/-- FLOOR_EMITTER_TEST (R184). -/
def execFloorEmitterTest (drive : Drive) (s : State) : Host.Outcome State Fault Refusal :=
  .next (s.floorEmitterTest drive)

/-- WALL_EMITTER_TEST (R184). -/
def execWallEmitterTest (drive : Drive) (s : State) : Host.Outcome State Fault Refusal :=
  .next (s.wallEmitterTest drive)

/-- BOOT_TIMER_EXPIRY (R185). -/
def execBootTimerExpiry (s : State) : Host.Outcome State Fault Refusal :=
  .next s.bootTimerExpiry

/-- LED_FLASH (R186). -/
def execLedFlash (s : State) : Host.Outcome State Fault Refusal :=
  .next s.ledFlash

end Sys2Proof.Machine
end

