-- ==== Sys2Proof/Machine/LinkTx.lean ====
section
/-! DEFINITION. The Link Controller's line and transmit side (chapter 9: R161, R163 to R172, R177), and the Clearance
Unit's own commands (R124, R126, R132). -/

namespace Sys2Proof.Machine

open Sys2Proof

/-! ### The line (R161, R164, R165) -/

/-- A frame of another station completes or is abandoned: the line is idle from now on, unless an attempt of this
node's own runs on it, and the routine yield ends (R161, R165). DESIGN CHOICE (log 35): the command stands for the
whole frame, start bit and all, so it does this on an idle line too. -/
def Link.lineFree (l : Link) : Link :=
  { l with line := if l.onLine.isSome then l.line else .idle 0, yield := false }

/-- The end of another station's frame at a station that follows the line (R175, R179). -/
def State.lineFree (s : State) : State := if s.onLink then s.setLink s.link.lineFree else s

/-- FRAME_ABANDONED (R173). -/
def State.frameAbandoned (s : State) : State := s.lineFree

/-- RX_LENGTH_MALFORMED (R173): a length field over 12 counts as malformed at a receiving station, and the frame is
taken as abandoned. -/
def State.rxLengthMalformed (s : State) (length : BitVec 4) : State :=
  if 12 < length.toNat then
    let t := s.lineFree
    if t.receiving then t.count .malformed else t
  else s

/-- The line at a 0-level bit, its idle time being known: a start bit after 12 idle bit times or more, and noise
before (R161). -/
def LineState.zeroAfter (idle : Nat) : LineState := if startIdle ≤ idle then .busy else .low

/-- The line at a 0-level bit that comes `waited` bit times after the time State holds (R161). The bit time of a
0-level bit in progress is no idle time. -/
def LineState.zeroBit (l : LineState) (waited : Nat) : LineState :=
  match l with
  | .busy => .busy
  | .low => .zeroAfter (waited - 1)
  | .idle n => .zeroAfter (n + waited)

/-- START_BIT (R161, R164). -/
def State.startBit (s : State) (waited : Nat) : State :=
  if s.onLink && s.link.onLine.isNone then s.setLink { s.link with line := s.link.line.zeroBit waited } else s

/-- ROUTINE_YIELD_EXPIRY (R165): 76 idle bit times have passed. -/
def State.routineYieldExpiry (s : State) : State :=
  if s.onLink && s.link.yield && s.link.line ≠ .busy then s.setLink { s.link with yield := false } else s

/-! ### Sending (R163, R166 to R169) -/

/-- The entry may be sent: a routine one is barred by the yield (R163, R165). -/
def Link.maySend (l : Link) (e : TxEntry) : Bool := e.urgent || !l.yield

/-- The access delay of a head entry in bit times (R163). -/
def accessDelay (e : TxEntry) (pos : Pos) : Nat :=
  startIdle + positionStep * ((if e.urgent then 0 else routineBase) + pos.val)

/-- The role field of the node's own frames (R191). -/
def NodeRole.head : NodeRole → HeadRole
  | .sense => .sense
  | .wheel => .wheel

/-- The frame of an entry sent under a seq (R166, R191). -/
def State.frameOf (s : State) (e : TxEntry) (seq : Seq) : Frame :=
  { head := { src := s.startup.pos, urgent := e.urgent, seq := seq, role := s.startup.role.head }
    payload := e.payload }

/-- The seq an attempt of an entry is sent under (R166). -/
def Link.seqOf (l : Link) (e : TxEntry) : Seq := e.seq.getD l.seq

/-- The entry as an attempt puts it on the line (R162, R166): its seq and its CRC are formed at the first attempt and
kept on every retry. -/
def State.startedEntry (s : State) (e : TxEntry) : TxEntry :=
  { e with
    seq := some (s.link.seqOf e)
    crc := some (e.crc.getD (crc16 (frameBody (s.frameOf e (s.link.seqOf e))))) }

/-- The bit times of a frame: ten for each byte of head, payload and CRC (R161). -/
def frameTime (p : Payload) : Nat := 10 * (3 + (payloadBytes p).length + 2)

/-- The head entry goes on the line (R166). -/
def State.putOnLine (s : State) (e : TxEntry) (rest : List TxEntry) : State :=
  s.setLink { s.link with
    queue := rest
    onLine := some { entry := s.startedEntry e, retry := true }
    txTimer := some (frameTime e.payload)
    seq := if e.seq.isNone then s.link.seq + 1 else s.link.seq
    line := .busy }

/-- TX_ATTEMPT_START (R163, R166). -/
def State.txAttemptStart (s : State) : State :=
  match s.link.queue with
  | e :: rest =>
    if s.onLink && s.link.onLine.isNone && s.link.line ≠ .busy && s.link.maySend e then s.putOnLine e rest else s
  | [] => s

/-- The attempt limit of an entry (R168). -/
def attemptLimit (e : TxEntry) : Nat := if e.urgent || e.payload.isLoopback then 4 else 2

/-- The line is left at an attempt's end: idle from now on; a routine attempt sets the yield (R161, R165). DESIGN
CHOICE (log 34): the line counts as idle at its own station from the stop of an attempt that a mismatch stopped. -/
def Link.endAttempt (l : Link) (e : TxEntry) : Link :=
  { l with onLine := none, txTimer := none, line := .idle 0, yield := l.yield || !e.urgent }

/-- A stopped frame returns to the queue (R168). DESIGN CHOICE (log 38): an urgent one that a full queue takes in place
of a routine entry keeps its seq, its CRC and its attempt count. -/
def State.returnEntry (s : State) (e : TxEntry) : State :=
  if (queuedLike s.link.queue e.payload).isSome then
    s.setLink { s.link with
      queue := if e.urgent then raiseQueued s.link.queue e.payload else s.link.queue }
  else if s.link.queue.length < txQueueSize then s.setLink { s.link with queue := placeReturning s.link.queue e }
  else s.placeAtFull e

/-- The code 5 frame's end decides the link loopback step (R183). -/
def State.reportLoopback (s : State) (e : TxEntry) (clean : Bool) : State :=
  if e.payload.isLoopback then s.loopbackResult clean else s

/-- A stopped attempt's frame, its attempt count already raised (R168): discarded at its limit, or returned. -/
def State.afterStopped (s : State) (e : TxEntry) : State :=
  if attemptLimit e ≤ e.attempts then (s.loseFrame e).reportLoopback e false else s.returnEntry e

/-- TX_MISMATCH (R167, R168, R178): a frame that a rejoin order took the retry from is discarded uncounted. -/
def State.txMismatch (s : State) : State :=
  match s.link.onLine with
  | some o =>
    let t := s.setLink (s.link.endAttempt o.entry)
    if o.retry then t.afterStopped { o.entry with attempts := o.entry.attempts + 1 } else t.bootEnded o.entry
  | none => s

/-- The payload's own odometry data and seq go to the node's Odometry Unit (R32, R169). -/
def State.ownCompletion (s : State) (e : TxEntry) : State :=
  match e.payload with
  | .odometry d => s.ownOdometry (e.seq.getD 0) d
  | _ => s

/-- TX_COMPLETE (R169). -/
def State.txComplete (s : State) : State :=
  match s.link.onLine with
  | some o =>
    let t := s.setLink (s.link.endAttempt o.entry)
    ((t.bootEnded o.entry).reportLoopback o.entry true).ownCompletion o.entry
  | none => s

/-! ### The health report (R177) -/

/-- The health report leaves the counts at 0 when it enters the queue; at a full queue it is discarded and counted,
and the counts are kept (R177). -/
def State.sendHealth (s : State) : State :=
  let t := s.enqueue (.health s.link.counts) false
  if s.link.queue.length < txQueueSize then t.setLink { t.link with counts := Counts.zero } else t

/-- HEALTH_TIMER_EXPIRY (R177): the timer reloads. -/
def State.healthTimerExpiry (s : State) : State :=
  if s.running && s.link.healthTimer.isSome then
    (s.setLink { s.link with healthTimer := some healthTime }).sendHealth
  else s

/-! ### The Clearance Unit's own commands -/

/-- STOP_HOLD_EXPIRY (R124, R130): the timer stops; with the condition not met the driver is released, which is a
change of STOP_OWN. -/
def State.stopHoldExpiry (s : State) : State :=
  if s.running && s.clear.hold.isSome then
    if s.clear.driver && !s.clear.ownStop then
      (s.setClear { s.clear with hold := none, driver := false }).judgeVerdict
    else s.setClear { s.clear with hold := none }
  else s

/-- What the outside does to the STOP line when it comes to show a level, the node's own driver being what it is
(R126). DESIGN CHOICE (log 33): at a level that the own driver explains, the outside is taken to leave the line
free. -/
def pullFor (asserted driver : Bool) : LinePull :=
  match asserted, driver with
  | true, true => .free
  | true, false => .low
  | false, true => .high
  | false, false => .free

/-- STOP_LINE_CHANGE (R126): the pin takes the level; in RUN the filter accepts it, and the change is recomputed on
(R127). -/
def State.stopLineChange (s : State) (asserted : Bool) : State :=
  let s := s.setPins { s.pins with stopLine := pullFor asserted s.clear.driver }
  if s.running && asserted ≠ s.clear.line.accepted then
    (s.setClear { s.clear with
      line := { s.clear.line with accepted := asserted, last := some asserted } }).notify s true
  else s

/-- VERDICT_TIMER_EXPIRY (R132): a recompute. It hands on a verdict by the last row of R130 when the timer stands at
0; a timer that another recompute has restarted meanwhile goes on. -/
def State.verdictTimerExpiry (s : State) : State :=
  if s.running && s.clear.verdictTimer.isSome then s.recompute else s

/-! ### Meanings -/

/-- RX_LENGTH_MALFORMED (R173). -/
def execRxLengthMalformed (length : BitVec 4) (s : State) : Host.Outcome State Fault Refusal :=
  .next (s.rxLengthMalformed length)

/-- FRAME_ABANDONED (R173). -/
def execFrameAbandoned (s : State) : Host.Outcome State Fault Refusal :=
  .next s.frameAbandoned

/-- TX_ATTEMPT_START (R163). -/
def execTxAttemptStart (s : State) : Host.Outcome State Fault Refusal :=
  .next s.txAttemptStart

/-- TX_MISMATCH (R167). -/
def execTxMismatch (s : State) : Host.Outcome State Fault Refusal :=
  .next s.txMismatch

/-- TX_COMPLETE (R169). -/
def execTxComplete (s : State) : Host.Outcome State Fault Refusal :=
  .next s.txComplete

/-- ROUTINE_YIELD_EXPIRY (R165). -/
def execRoutineYieldExpiry (s : State) : Host.Outcome State Fault Refusal :=
  .next s.routineYieldExpiry

/-- HEALTH_TIMER_EXPIRY (R177). -/
def execHealthTimerExpiry (s : State) : Host.Outcome State Fault Refusal :=
  .next s.healthTimerExpiry

/-- STOP_HOLD_EXPIRY (R124). -/
def execStopHoldExpiry (s : State) : Host.Outcome State Fault Refusal :=
  .next s.stopHoldExpiry

/-- STOP_LINE_CHANGE (R126). -/
def execStopLineChange (asserted : Bool) (s : State) : Host.Outcome State Fault Refusal :=
  .next (s.stopLineChange asserted)

/-- VERDICT_TIMER_EXPIRY (R132). -/
def execVerdictTimerExpiry (s : State) : Host.Outcome State Fault Refusal :=
  .next s.verdictTimerExpiry

/-- START_BIT (R161). -/
def execStartBit (waited : Nat) (s : State) : Host.Outcome State Fault Refusal :=
  .next (s.startBit waited)

end Sys2Proof.Machine
end

