-- ==== Sys2Proof/Machine/Table.lean ====
section
/-! DEFINITION. The Table Manager's service of FIFO items (chapters 3 and 5): reconciliation, merge, creation,
eviction, clearing, peer reports, outcomes, lookups, report events and refreshes. -/

namespace Sys2Proof.Machine

open Sys2Proof

/-! ### Reconciliation (R88 to R92) -/

/-- Outcomes of reconciliation. -/
inductive Recon where
  | asIs
  | chained (path : List RingEntry)
  | ahead
  | failed
  deriving DecidableEq, Repr

/-- The outcome for a point stamped `t`, by the rules in their order. -/
def State.reconcile (s : State) (t : Option Seq) : Recon :=
  match t, s.table.tag with
  | none, _ => .asIs
  | _, none => .asIs
  | some t, some tableTag =>
    if s.odo.state = .lost ∨ t = tableTag then .asIs
    else
      match chainPath t tableTag s.odo.ring with
      | some path => .chained path
      | none => if 1 ≤ (t - tableTag).toNat ∧ (t - tableTag).toNat ≤ aheadWindow then .ahead else .failed

/-- The point used under an outcome. -/
def Recon.point (r : Recon) (x y : Int) : Int × Int :=
  match r with
  | .chained path => carryPointAll (pathSteps path) (x, y)
  | _ => (x, y)

/-- A value lowered by 1 for a point ahead, not below 1 (R54, R91). -/
def Recon.lower (r : Recon) (c : Nat) : Nat := if r = .ahead ∧ 1 < c then c - 1 else c

/-! ### Slots and eviction (R45, R67, R68) -/

/-- The lowest-numbered good slot that is empty (R45). -/
def State.freeSlot (s : State) : Option Slot :=
  (List.finRange 24).find? fun i => s.table.good.getLsbD i && (recordAt s.table.records i).isNone

/-- A record that eviction may not remove (R67). -/
def Record.protected (r : Record) : Bool :=
  (r.kind.isCliff && (r.checking || r.range ≤ protectedRange)) || (r.kind.isDock && r.confirmed)

/-- The victim: the unprotected record that stands last in the list order (R67). -/
def victim (rs : List Record) : Option Record := (rs.filter fun r => !r.protected).getLast?

/-- A new record is placed in a free good slot or in the victim's slot, or refused, with TABLE_FULL raised (R58, R67,
R68). Answers the slot it took. -/
def State.placeRecord (s : State) (r : Record) : State × Option Slot :=
  match s.freeSlot with
  | some i => (s.setRecords (s.table.records ++ [{ r with slot := i }]), some i)
  | none =>
    match (victim s.table.records).filter fun v => r.range < v.range with
    | some v => (s.setRecords (removeSlot s.table.records v.slot ++ [{ r with slot := v.slot }]), some v.slot)
    | none => ((s.handing fun t => t.setTable { t.table with full := true }).count .tableDiscard, none)

/-! ### Own merges and creations (R56 to R60) -/

/-- The merge target of a point (R56, R63). -/
def mergeTarget (rs : List Record) (kind : Hazard) (x y : Int) : Option Record :=
  nearest rs (fun r => r.kind.sameKind kind) x y (mergeRadius kind)

/-- The merge increment and the confidence at creation of an own observation (R57, R58). -/
def ownIncrement (kind : Hazard) : Nat := if kind.isDock then 2 else 3
def ownCreateConf (kind : Hazard) (origin : Origin) : Nat :=
  if origin = .bump then 15 else if kind.isDock then 2 else 3

/-- An own observation merged into its target (R57). The record takes the observation's shade or zone with its
kind. -/
def Record.mergeOwn (r : Record) (kind : Hazard) (origin : Origin) (p : Int × Int) (rc : Recon) : Record :=
  Record.bindKind { r with
    kind := kind
    x := roundDiv (r.x + p.1) 2
    y := roundDiv (r.y + p.2) 2
    conf := if origin = .bump then maxConf else min maxConf (r.conf + rc.lower (ownIncrement kind))
    age := 0
    own := some origin }

/-- A record created from an own observation (R58). -/
def ownRecord (kind : Hazard) (origin : Origin) (p : Int × Int) (rc : Recon) : Record :=
  Record.bindKind
    { slot := 0, kind := kind, x := p.1, y := p.2, conf := rc.lower (ownCreateConf kind origin), age := 0,
      own := some origin, reported := false, keys := [], check := none, clearRun := none }

/-- What the service of an item did, as the completion needs it: the records retired by own clearing that were
reported (R66), the slot a check outcome was applied to (R66), the own record merged into (R96), and whether a check
is to be started (R100). -/
structure Served where
  state : State
  withdrawn : List Record := []
  applied : Option Slot := none
  merged : Option Slot := none
  starts : Bool := false

/-- Merge into `r`, or create; a slot is answered for the refresh when merged (R56 to R58). -/
def State.mergeOrCreate (s : State) (kind : Hazard) (origin : Origin) (p : Int × Int) (rc : Recon) : Served :=
  match mergeTarget s.table.records kind p.1 p.2 with
  | some r => { state := s.putRecord (r.mergeOwn kind origin p rc), merged := some r.slot }
  | none => { state := (s.placeRecord (ownRecord kind origin p rc)).1 }

/-- The clear run of every own-WALL OBSTACLE becomes 0 (R60). -/
def resetClearRuns (rs : List Record) : List Record :=
  rs.map fun r => if r.isOwnWall then { r with clearRun := some 0 } else r

/-- An own OBSTACLE or DOCK observation (R54, R56, R60). -/
def State.serveOwn (s : State) (kind : Hazard) (origin : Origin) (x y : Int) (tag : Option Seq) : Served :=
  let rc := s.reconcile tag
  let p := rc.point x y
  let s := if kind.isObstacle && origin = .wall then s.setRecords (resetClearRuns s.table.records) else s
  if rangeLimit < rangeOf p.1 p.2 then { state := s } else s.mergeOrCreate kind origin p rc

/-- The CONFIRMED dark RUG an own CLIFF observation falls on (R59 step 1). -/
def overruleTarget (rs : List Record) (x y : Int) : Option Record :=
  nearest rs (fun r => r.kind = .rug .dark && r.confirmed) x y overruleRadius

/-- DARK_RUG is written into the accepted floor class, which is passed to the Clearance Unit (R16). -/
def State.overruleClass (s : State) : State := s.handing fun t => t.setFloor t.floor.writeDarkRug

/-- An own CLIFF observation (R59): own overrule, merge, or creation with a check decision. -/
def State.serveCliff (s : State) (origin : Origin) (x y : Int) (tag : Option Seq) : Served :=
  let rc := s.reconcile tag
  let p := rc.point x y
  if rangeLimit < rangeOf p.1 p.2 then { state := s }
  else
    match overruleTarget s.table.records p.1 p.2 with
    | some r =>
      { state := (s.putRecord (r.mergeOwn (.rug .dark) .floor p rc)).overruleClass, merged := some r.slot }
    | none =>
      match mergeTarget s.table.records .cliff p.1 p.2 with
      | some r => { state := s.putRecord (r.mergeOwn .cliff origin p rc), merged := some r.slot }
      | none =>
        let t := s.placeRecord (ownRecord .cliff origin p rc)
        match t.2 with
        | some slot => { state := t.1.decideCheck slot, starts := s.report.decide = .start }
        | none => { state := t.1 }

/-! ### Own clearing (R61, R62) -/

/-- A CLIFF within 30 mm of floor evidence (R61). -/
def clearedBy (p : Int × Int) (r : Record) : Bool := r.kind.isCliff && cheb r.x r.y p.1 p.2 ≤ clearRadius

/-- Floor evidence retires the CLIFFs within 30 mm of its point (R61); a RUG is then merged or created. -/
def State.serveEvidence (s : State) (rug : Option Hazard) (origin : Origin) (x y : Int) (tag : Option Seq) : Served :=
  let rc := s.reconcile tag
  let p := rc.point x y
  let gone := s.table.records.filter fun r => clearedBy p r && r.reported
  let s := s.setRecords (s.table.records.filter fun r => !clearedBy p r)
  match rug with
  | some kind =>
    if rangeLimit < rangeOf p.1 p.2 then { state := s, withdrawn := gone }
    else { s.mergeOrCreate kind origin p rc with withdrawn := gone }
  | none => { state := s, withdrawn := gone }

/-- A record lies in the wall beam (R62). -/
def inBeam (mx my ax ay : Int) (r : Record) : Bool :=
  let dx := r.x - mx
  let dy := r.y - my
  let p := roundDiv (dx * ax + dy * ay) 16384
  let q := roundDiv (dy * ax - dx * ay) 16384
  decide (20 ≤ p ∧ p ≤ 600 ∧ q.natAbs ≤ 40)

/-- A clear sample on one record (R62). -/
def Record.clearOnce (r : Record) (mx my ax ay : Int) : Record :=
  if r.isOwnWall && inBeam mx my ax ay r then { r with clearRun := some (r.clearRun.getD 0 + 1) } else r

/-- An own-WALL OBSTACLE whose clear run has reached 3 (R62). -/
def Record.clearedOut (r : Record) : Bool := r.isOwnWall && clearRunMax ≤ r.clearRun.getD 0

/-- A wall-clear observation (R62). -/
def State.serveClear (s : State) (mx my ax ay : Int) : Served :=
  let rs := s.table.records.map fun r => r.clearOnce mx my ax ay
  { state := s.setRecords (rs.filter fun r => !r.clearedOut)
    withdrawn := rs.filter fun r => r.clearedOut && r.reported }

/-! ### Peer reports (R63 to R65) -/

/-- The key leaves a record's peer origins. -/
def Record.dropKey (r : Record) (k : Key) : Record := { r with keys := r.keys.filter (· ≠ k) }

/-- A record with at least one origin (R47). -/
def Record.hasOrigin (r : Record) : Bool := r.own.isSome || !r.keys.isEmpty

/-- The key leaves every record that holds it; a record left with no origin is retired (R63 step 1, R65). -/
def removeKey (rs : List Record) (k : Key) : List Record :=
  (rs.map fun r => if r.keys.contains k then r.dropKey k else r).filter fun r => r.hasOrigin

/-- The key is appended at the newest end, the oldest of 4 leaving first (R47). -/
def appendKey (keys : List Key) (k : Key) : List Key :=
  (if keys.length < maxKeys then keys else keys.drop 1) ++ [k]

/-- A reported confidence lowered for a point ahead, not below 1 (R91). -/
def PeerReport.conf' (r : PeerReport) (rc : Recon) : Nat := rc.lower r.conf

/-- A peer ADD merged into its target (R63 step 2). -/
def Record.mergePeer (r : Record) (k : Key) (kind : Hazard) (conf : Nat) : Record :=
  Record.bindKind { r with
    kind := kind
    keys := appendKey r.keys k
    conf := min maxConf (max r.conf (conf - 1) + 1)
    age := 0 }

/-- A record created from a peer ADD (R63 step 3). -/
def peerRecord (k : Key) (kind : Hazard) (p : Int × Int) (conf : Nat) : Record :=
  Record.bindKind
    { slot := 0, kind := kind, x := p.1, y := p.2, conf := max 1 (conf - 1), age := 0, own := none,
      reported := false, keys := [k], check := none, clearRun := none }

def PeerReport.key (r : PeerReport) : Key := { src := r.src, id := r.id }

/-- An ADD at its reconciled point (R63). -/
def State.addPeer (s : State) (r : PeerReport) (rc : Recon) : State :=
  let p := rc.point r.x r.y
  if rangeLimit < rangeOf p.1 p.2 then s.count .staleReport
  else
    let s := s.setRecords (removeKey s.table.records r.key)
    match mergeTarget s.table.records r.kind p.1 p.2 with
    | some t => s.putRecord (t.mergePeer r.key r.kind (r.conf' rc))
    | none => (s.placeRecord (peerRecord r.key r.kind p (r.conf' rc))).1

/-- A served ADD report (R63, R92). -/
def State.serveAdd (s : State) (r : PeerReport) : Served :=
  let rc := s.reconcile r.tag
  { state := if rc = .failed then s.count .staleReport else s.addPeer r rc }

/-- The record that holds a key. -/
def keyHolder (rs : List Record) (k : Key) : Option Record := rs.find? fun r => r.keys.contains k

/-- The record an UPDATE changes (R64): kind, shade and zone, confidence, age. -/
def Record.updatePeer (r : Record) (kind : Hazard) (conf : Nat) : Record :=
  Record.bindKind { r with kind := kind, conf := max r.conf (conf - 1), age := 0 }

/-- Whether a record whose check has just ended lies beyond the range limit and is retired (R72). -/
def Record.endsFar (r : Record) : Bool := rangeLimit < r.range

/-- A served UPDATE report (R64): on the record that holds the key, or as an ADD. -/
def State.serveUpdate (s : State) (r : PeerReport) : Served :=
  let rc := s.reconcile r.tag
  if rc = .failed then { state := s.count .staleReport }
  else
    match keyHolder s.table.records r.key with
    | none => { state := s.addPeer r rc }
    | some t =>
      let u := t.updatePeer r.kind (r.conf' rc)
      let s := s.putRecord u
      { state := if t.checking && !u.kind.isCliff && u.endsFar then s.setRecords (removeSlot s.table.records t.slot)
                 else s }

/-- A served WITHDRAW report (R65). -/
def State.serveWithdraw (s : State) (r : PeerReport) : Served :=
  { state := s.setRecords (removeKey s.table.records r.key) }

/-! ### Check outcomes and lookups (R71 to R73) -/

/-- The record a check outcome is applied to (R71). -/
def Record.applyOutcome (r : Record) (o : Outcome) : Record :=
  match o with
  | .confirm => { r with conf := max r.conf confirmedAt, check := some .none }
  | .overrule => Record.bindKind { r with kind := .rug .dark, conf := max r.conf confirmedAt }

/-- A served check outcome (R71, R72, R106): applied to a CLIFF whose check is PENDING; it then ends the check and
promotes the deferred candidate. -/
def State.serveOutcome (s : State) (o : Outcome) (slot : Slot) : Served :=
  let acts := s.hasMark slot .pending
  let t :=
    match recordAt s.table.records slot with
    | some r =>
      if acts then
        let s := s.putRecord (r.applyOutcome o)
        let s := if r.endsFar then s.setRecords (removeSlot s.table.records slot) else s
        if o = Outcome.overrule then s.overruleClass else s
      else s
    | none => s
  let p := t.endCheck.promote
  { state := p.1, applied := if acts then some slot else none, starts := p.2 }

/-- A record's seen_by is exactly the requester (R47, R73). -/
def Record.seenOnlyBy (r : Record) (p : Pos) : Bool :=
  r.own.isNone && !r.keys.isEmpty && r.keys.all fun k => k.src = p

/-- The answer a nearest record gives (R73). -/
def answerFrom : Option Record → Answer × Nat
  | some r =>
    if r.kind.isCliff then (.cliff, r.conf)
    else if r.kind = .rug .dark && r.confirmed then (.darkRug, r.conf)
    else (.none, 0)
  | none => (.none, 0)

/-- The result of a lookup (R73). -/
def State.lookupResult (s : State) (requester : Pos) (x y : Int) (rc : Recon) : Answer × Nat :=
  if rc = .failed then (.none, 0)
  else
    let p := rc.point x y
    answerFrom (nearest s.table.records (fun r => !r.seenOnlyBy requester) p.1 p.2 lookupRadius)

/-- A served lookup (R73, R92, R113): the result goes out as a check answer. -/
def State.answerLookup (s : State) (requester : Pos) (id : BitVec 4) (x y : Int) (tag : Option Seq) : State :=
  let rc := s.reconcile tag
  let a := s.lookupResult requester x y rc
  (if rc = .failed then s.count .staleReport else s).sendAnswer requester id a.1 a.2

/-! ### Report events and completion (R55, R66, R93, R96) -/

/-- The event a record earns, comparing it with the record its slot held before the item (R66). -/
def eventOf (before : List Record) (applied : Option Slot) (r : Record) : Option Action :=
  let old := recordAt before r.slot
  if r.own.isSome && !r.reported then
    if (r.kind.isCliff || r.confirmed) && old ≠ some r then some .add else none
  else if r.reported then
    match old with
    | some o =>
      if !r.kind.sameShade o.kind || (r.kind.isCliff && !o.confirmed && r.confirmed) || applied = some r.slot then
        some .update
      else none
    | none => none
  else none

/-- The frames of one slot at a completion (R66, R93): a withdraw of a record that was retired, then the event of the
record that stands. An add sets reported to yes. -/
def State.eventAt (before : State) (withdrawn : List Record) (applied : Option Slot) (s : State) (slot : Slot) : State :=
  let s := match recordAt withdrawn slot with
    | some r => s.sendReport .withdraw r true
    | none => s
  match recordAt s.table.records slot with
  | none => s
  | some r =>
    match eventOf before.table.records applied r with
    | none => s
    | some a =>
      let wasCliff := (recordAt before.table.records slot).any fun o => o.kind.isCliff
      let s := if a = .add then s.putRecord { r with reported := true } else s
      s.sendReport a r wasCliff

/-- The report events of a completion, in slot order (R66, R93). -/
def State.emitEvents (before : State) (withdrawn : List Record) (applied : Option Slot) (s : State) : State :=
  (List.finRange 24).foldl (State.eventAt before withdrawn applied) s

/-- The refresh of a reported own record that an own observation merged into, when the item made no event for it and
its report age is 20 or more (R96). -/
def State.refresh (before : State) (merged : Option Slot) (s : State) : State :=
  match merged.bind fun m => (recordAt s.table.records m) with
  | some r =>
    if (recordAt before.table.records r.slot).any (fun o => o.reported) &&
        eventOf before.table.records none r = none && refreshAge ≤ s.report.ages[r.slot] then
      s.sendReport .add r false
    else s
  | none => s

/-- The notice of a completion (R55): the Clearance Unit recomputes when a record or TABLE_FULL has changed since
`before`. -/
def State.notifyTable (after before : State) : State :=
  if after.table.records ≠ before.table.records ∨ after.table.full ≠ before.table.full then after.recompute else after

/-- An item's completion (R55, R66, R72, R93, R96, R100): the list ordered anew, a check that ended cancelled, the
report frames, the refresh, a started check, the notice to the Clearance Unit if a record or TABLE_FULL changed
(R55), and the next work (R50). -/
def State.complete (before : State) (v : Served) : State :=
  let s := v.state.setRecords (sortRecords v.state.table.records)
  let c := s.settleChecks
  let s := State.emitEvents before v.withdrawn v.applied c.1
  let s := State.refresh before v.merged s
  let s := if v.starts || c.2 then s.startCheck else s
  (s.notifyTable before).takeWork

/-! ### The commands -/

/-- SERVE_OWN_OBSERVATION (R56): an own OBSTACLE or DOCK observation. -/
def State.serveOwnObservation (s : State) : State :=
  match s.table.work with
  | .serving (.own kind origin x y tag) =>
    if s.running && (kind.isObstacle || kind.isDock) then s.complete (s.serveOwn kind origin x y tag) else s
  | _ => s

/-- SERVE_OWN_CLIFF (R59). -/
def State.serveOwnCliff (s : State) : State :=
  match s.table.work with
  | .serving (.own kind origin x y tag) =>
    if s.running && kind.isCliff then s.complete (s.serveCliff origin x y tag) else s
  | _ => s

/-- SERVE_FLOOR_EVIDENCE (R61): an own RUG or floor-clear observation. -/
def State.serveFloorEvidence (s : State) : State :=
  match s.table.work with
  | .serving (.own kind origin x y tag) =>
    if s.running && kind.isRug then s.complete (s.serveEvidence (some kind) origin x y tag) else s
  | .serving (.floorClear x y tag) =>
    if s.running then s.complete (s.serveEvidence none .floor x y tag) else s
  | _ => s

/-- SERVE_WALL_CLEAR (R62). -/
def State.serveWallClear (s : State) : State :=
  match s.table.work with
  | .serving (.wallClear mx my ax ay _) => if s.running then s.complete (s.serveClear mx my ax ay) else s
  | _ => s

/-- SERVE_PEER_ADD (R63). -/
def State.servePeerAdd (s : State) : State :=
  match s.table.work with
  | .serving (.report r) => if s.running && r.action = .add then s.complete (s.serveAdd r) else s
  | _ => s

/-- SERVE_PEER_UPDATE (R64). -/
def State.servePeerUpdate (s : State) : State :=
  match s.table.work with
  | .serving (.report r) => if s.running && r.action = .update then s.complete (s.serveUpdate r) else s
  | _ => s

/-- SERVE_PEER_WITHDRAW (R65). -/
def State.servePeerWithdraw (s : State) : State :=
  match s.table.work with
  | .serving (.report r) => if s.running && r.action = .withdraw then s.complete (s.serveWithdraw r) else s
  | _ => s

/-- SERVE_CHECK_OUTCOME (R71). -/
def State.serveCheckOutcome (s : State) : State :=
  match s.table.work with
  | .serving (.outcome o slot) => if s.running then s.complete (s.serveOutcome o slot) else s
  | _ => s

/-- SERVE_LOOKUP (R73): the answer is handed on; the table does not change and the Clearance Unit is not
notified. -/
def State.serveLookup (s : State) : State :=
  match s.table.work with
  | .serving (.lookup requester id x y tag) =>
    if s.running then (s.answerLookup requester id x y tag).takeWork else s
  | _ => s

/-! ### Meanings -/

/-- SERVE_OWN_OBSERVATION (R56). -/
def execServeOwnObservation (s : State) : Host.Outcome State Fault Refusal :=
  .next s.serveOwnObservation

/-- SERVE_OWN_CLIFF (R59). -/
def execServeOwnCliff (s : State) : Host.Outcome State Fault Refusal :=
  .next s.serveOwnCliff

/-- SERVE_FLOOR_EVIDENCE (R61). -/
def execServeFloorEvidence (s : State) : Host.Outcome State Fault Refusal :=
  .next s.serveFloorEvidence

/-- SERVE_WALL_CLEAR (R62). -/
def execServeWallClear (s : State) : Host.Outcome State Fault Refusal :=
  .next s.serveWallClear

/-- SERVE_PEER_ADD (R63). -/
def execServePeerAdd (s : State) : Host.Outcome State Fault Refusal :=
  .next s.servePeerAdd

/-- SERVE_PEER_UPDATE (R64). -/
def execServePeerUpdate (s : State) : Host.Outcome State Fault Refusal :=
  .next s.servePeerUpdate

/-- SERVE_PEER_WITHDRAW (R65). -/
def execServePeerWithdraw (s : State) : Host.Outcome State Fault Refusal :=
  .next s.servePeerWithdraw

/-- SERVE_CHECK_OUTCOME (R71). -/
def execServeCheckOutcome (s : State) : Host.Outcome State Fault Refusal :=
  .next s.serveCheckOutcome

/-- SERVE_LOOKUP (R73). -/
def execServeLookup (s : State) : Host.Outcome State Fault Refusal :=
  .next s.serveLookup

end Sys2Proof.Machine
end

