-- ==== Sys2Proof/WellFormed.lean ====
section
/-! DEFINITION. Which commands are well formed: the checks that the operands' types do not make already. -/

namespace Sys2Proof

/-- A zone is a non-empty subset of LEFT, RIGHT and HALO (03 section 3.2). -/
def Zone.nonEmpty (z : Zone) : Bool := z.left || z.right || z.halo

/-- A reported DOCK has a non-empty zone (R193: attribute 0 for DOCK is malformed). -/
def Hazard.wf : Hazard → Bool
  | .dock z => z.nonEmpty
  | _ => true

/-- A payload holds only values that the field checks of R193 let pass. -/
def Payload.wf : Payload → Bool
  | .hazard d => d.kind.wf
  | _ => true

/-- The bytes of a frame that came to its completion (R161): the length field of the third head byte is at most 12
and counts the payload bytes between the three head bytes and the two CRC bytes. -/
def wfRxBytes (bytes : List Byte) : Bool :=
  match bytes with
  | _ :: _ :: h2 :: rest => decide ((h2.extractLsb' 0 4).toNat ≤ 12 ∧ rest.length = (h2.extractLsb' 0 4).toNat + 2)
  | _ => false

/-- Well-formed commands. -/
def Instr.wf : Instr → Bool
  | .hazardReport _ d => d.kind.wf
  | .rxFrameRejected bytes => wfRxBytes bytes
  | .rxLengthMalformed length => decide (12 < length.toNat)
  | _ => true

end Sys2Proof
end

