-- ==== Sys2Proof/Machine/LinkRx.lean ====
section
/-! DEFINITION. The Link Controller's receive side (chapter 9: R173 to R175) and the way of a handed-on frame through
the blocks (R150, R155). -/

namespace Sys2Proof.Machine

open Sys2Proof

/-! ### The block of each kind -/

/-- A hazard report for this node's table (R97): a peer's report in RUN from role SENSE or WHEEL. -/
def State.hazardBlock (s : State) (h : Head) (d : HazardData) : State :=
  if s.running && (h.role = .sense || h.role = .wheel) then s.observe (reportItem h d) else s

/-- A check request to this node (R112): in RUN, from role SENSE or WHEEL. -/
def State.requestBlock (s : State) (h : Head) (d : CheckRequestData) : State :=
  if s.running && (h.role = .sense || h.role = .wheel) then s.observe (lookupItem h d) else s

/-- The frame passed to the block that uses its kind, after the Peer Monitor's work (R150). Verdicts, health reports
and boot status frames are used by no further block. -/
def State.kindBlock (s : State) (f : Frame) : State :=
  match f.payload with
  | .odometry d => s.odometryBlock f.head d
  | .hazard d => s.hazardBlock f.head d
  | .verdict _ => s
  | .checkRequest d => s.requestBlock f.head d
  | .checkAnswer d => s.answerBlock f.head d
  | .health _ => s
  | .boot _ => s
  | .setup d => s.setupBlock f.head d
  | .mode v => s.modeBlock f.head v
  | .rejoin dest => s.rejoinBlock f.head dest

/-- An accepted frame from another position (R150, R155): its peer entry, the Odometry Unit's notice, then the block of
its kind. The Clearance Unit recomputes on each change as it is made (R127). -/
def State.acceptFrame (s : State) (f : Frame) : State :=
  (((s.peerAccept f.head f.payload.isBoot).handing fun t => t.odoNotice f.head f.payload.isBoot)).kindBlock f

/-! ### Handing on (R174, R175) -/

/-- A boot status frame makes the last seq absent before the duplicate test (R152, R175). -/
def State.beforeTest (s : State) (f : Frame) : State := if f.payload.isBoot then s.forgetSeq f.head.src else s

/-- The duplicate test (R175). -/
def State.isDuplicate (s : State) (f : Frame) : Bool := s.peers.entries[f.head.src].lastSeq = some f.head.seq

/-- The handling of the oldest buffered frame begins (R174). -/
def Link.handle (l : Link) (rx : List Frame) : Link :=
  { l with rx := rx, handling := some { timer := handlingTime, wait := .no } }

/-- A handed-on frame that is no duplicate: a position clash, or an accepted frame (R153, R175). -/
def State.handFrame (s : State) (f : Frame) : State :=
  if f.head.src = s.startup.pos then s.posClash.notify s false else s.acceptFrame f

/-- The buffered frames are handed on, oldest first, until one is being handled (R174, R175): a duplicate is dropped,
counted, and frees its buffer at once. -/
def State.handOn (s : State) : List Frame → State
  | [] => s.setLink { s.link with rx := [], handling := none }
  | f :: rest =>
    let t := s.beforeTest f
    if t.isDuplicate f then (t.count .duplicate).handOn rest
    else (t.setLink (t.link.handle (f :: rest))).handFrame f

/-- A good frame at its completion (R174): it takes a free buffer, and is handed on at once when no other frame is
being handled. -/
def State.bufferFrame (s : State) (f : Frame) : State :=
  if rxBuffers ≤ s.link.rx.length then s.count .overrun
  else if s.link.rx = [] then s.handOn [f]
  else s.setLink { s.link with rx := s.link.rx ++ [f] }

/-- A frame with a good CRC completes (R173, R175): the line is free, and a receiving station checks its fields and
takes it in. -/
def State.receiveFrame (s : State) (f : Frame) : State :=
  let t := s.lineFree
  if !t.receiving then t else if f.payload.wf then t.bufferFrame f else t.count .malformed

/-- RX_FRAME_REJECTED (R173): a frame completes and is checked on its bytes. -/
def State.rxFrameRejected (s : State) (bytes : List Byte) : State :=
  let t := s.lineFree
  if !t.receiving then t
  else
    match checkFrame bytes with
    | .crcError => t.count .crcError
    | .malformed => t.count .malformed
    | .good f => t.bufferFrame f

/-- FRAME_HANDLING_END (R174): the buffer is freed and the next frame handed on. The handling of an applied odometry
frame does not end before the carry it waits for. -/
def State.frameHandlingEnd (s : State) : State :=
  if s.receiving && s.link.handling.any (fun h => h.wait = .no) then s.handOn s.link.rx.tail else s

/-! ### Meanings -/

/-- SETUP_PART (R187). -/
def execSetupPart (h : Head) (d : SetupData) (s : State) : Host.Outcome State Fault Refusal :=
  .next (s.receiveFrame { head := h, payload := .setup d })

/-- REJOIN_ORDER (R189). -/
def execRejoinOrder (h : Head) (dest : Pos) (s : State) : Host.Outcome State Fault Refusal :=
  .next (s.receiveFrame { head := h, payload := .rejoin dest })

/-- MODE_ORDER (R158). -/
def execModeOrder (h : Head) (value : Byte) (s : State) : Host.Outcome State Fault Refusal :=
  .next (s.receiveFrame { head := h, payload := .mode value })

/-- ODOMETRY_FRAME (R33). -/
def execOdometryFrame (h : Head) (d : OdometryData) (s : State) : Host.Outcome State Fault Refusal :=
  .next (s.receiveFrame { head := h, payload := .odometry d })

/-- CHECK_ANSWER (R102). -/
def execCheckAnswer (h : Head) (d : CheckAnswerData) (s : State) : Host.Outcome State Fault Refusal :=
  .next (s.receiveFrame { head := h, payload := .checkAnswer d })

/-- CHECK_REQUEST (R112). -/
def execCheckRequest (h : Head) (d : CheckRequestData) (s : State) : Host.Outcome State Fault Refusal :=
  .next (s.receiveFrame { head := h, payload := .checkRequest d })

/-- HAZARD_REPORT (R97). -/
def execHazardReport (h : Head) (d : HazardData) (s : State) : Host.Outcome State Fault Refusal :=
  .next (s.receiveFrame { head := h, payload := .hazard d })

/-- BOOT_STATUS (R152). -/
def execBootStatus (h : Head) (d : BootData) (s : State) : Host.Outcome State Fault Refusal :=
  .next (s.receiveFrame { head := h, payload := .boot d })

/-- VERDICT (R151). -/
def execVerdict (h : Head) (d : VerdictData) (s : State) : Host.Outcome State Fault Refusal :=
  .next (s.receiveFrame { head := h, payload := .verdict d })

/-- HEALTH_REPORT (R151). -/
def execHealthReport (h : Head) (d : Counts) (s : State) : Host.Outcome State Fault Refusal :=
  .next (s.receiveFrame { head := h, payload := .health d })

/-- RX_FRAME_REJECTED (R173). -/
def execRxFrameRejected (bytes : List Byte) (s : State) : Host.Outcome State Fault Refusal :=
  .next (s.rxFrameRejected bytes)

/-- FRAME_HANDLING_END (R174). -/
def execFrameHandlingEnd (s : State) : Host.Outcome State Fault Refusal :=
  .next s.frameHandlingEnd

end Sys2Proof.Machine
end

