-- ==== Sys2Proof/Machine/Dispatch.lean ====
section
/-! DEFINITION. The dispatch: one arm per command, each a call of its meaning. -/

namespace Sys2Proof.Machine

open Sys2Proof

def exec (i : Instr) (s : State) : Host.Outcome State Fault Refusal :=
  match i with
  | .hardReset => Sys2Proof.Machine.execHardReset s
  | .strapSample pos2 pos1 pos0 role => Sys2Proof.Machine.execStrapSample pos2 pos1 pos0 role s
  | .tableSlotTest good => Sys2Proof.Machine.execTableSlotTest good s
  | .crcSelfTest result => Sys2Proof.Machine.execCrcSelfTest result s
  | .linkLoopbackTimeout => Sys2Proof.Machine.execLinkLoopbackTimeout s
  | .floorEmitterTest drive => Sys2Proof.Machine.execFloorEmitterTest drive s
  | .wallEmitterTest drive => Sys2Proof.Machine.execWallEmitterTest drive s
  | .bootTimerExpiry => Sys2Proof.Machine.execBootTimerExpiry s
  | .setupPart h d => Sys2Proof.Machine.execSetupPart h d s
  | .rejoinOrder h dest => Sys2Proof.Machine.execRejoinOrder h dest s
  | .modeOrder h value => Sys2Proof.Machine.execModeOrder h value s
  | .floorPeriodExpiry => Sys2Proof.Machine.execFloorPeriodExpiry s
  | .wallPeriodExpiry => Sys2Proof.Machine.execWallPeriodExpiry s
  | .guardedBurstStart c => Sys2Proof.Machine.execGuardedBurstStart c s
  | .floorBurstEnd ambient lit => Sys2Proof.Machine.execFloorBurstEnd ambient lit s
  | .wallBurstEnd ambient lit => Sys2Proof.Machine.execWallBurstEnd ambient lit s
  | .bumpChange active => Sys2Proof.Machine.execBumpChange active s
  | .dropChange active => Sys2Proof.Machine.execDropChange active s
  | .encoderEdge wheel a b => Sys2Proof.Machine.execEncoderEdge wheel a b s
  | .odoTimerExpiry => Sys2Proof.Machine.execOdoTimerExpiry s
  | .odometryFrame h d => Sys2Proof.Machine.execOdometryFrame h d s
  | .stalledTimerExpiry => Sys2Proof.Machine.execStalledTimerExpiry s
  | .odoRoleClashHoldExpiry => Sys2Proof.Machine.execOdoRoleClashHoldExpiry s
  | .carryEnd => Sys2Proof.Machine.execCarryEnd s
  | .ageTimerExpiry => Sys2Proof.Machine.execAgeTimerExpiry s
  | .ageTicksApplied => Sys2Proof.Machine.execAgeTicksApplied s
  | .serveOwnObservation => Sys2Proof.Machine.execServeOwnObservation s
  | .serveOwnCliff => Sys2Proof.Machine.execServeOwnCliff s
  | .serveFloorEvidence => Sys2Proof.Machine.execServeFloorEvidence s
  | .serveWallClear => Sys2Proof.Machine.execServeWallClear s
  | .servePeerAdd => Sys2Proof.Machine.execServePeerAdd s
  | .servePeerUpdate => Sys2Proof.Machine.execServePeerUpdate s
  | .servePeerWithdraw => Sys2Proof.Machine.execServePeerWithdraw s
  | .serveCheckOutcome => Sys2Proof.Machine.execServeCheckOutcome s
  | .serveLookup => Sys2Proof.Machine.execServeLookup s
  | .checkTimeout => Sys2Proof.Machine.execCheckTimeout s
  | .checkAnswer h d => Sys2Proof.Machine.execCheckAnswer h d s
  | .checkRequest h d => Sys2Proof.Machine.execCheckRequest h d s
  | .hazardReport h d => Sys2Proof.Machine.execHazardReport h d s
  | .bootStatus h d => Sys2Proof.Machine.execBootStatus h d s
  | .verdict h d => Sys2Proof.Machine.execVerdict h d s
  | .healthReport h d => Sys2Proof.Machine.execHealthReport h d s
  | .rxFrameRejected bytes => Sys2Proof.Machine.execRxFrameRejected bytes s
  | .rxLengthMalformed length => Sys2Proof.Machine.execRxLengthMalformed length s
  | .frameAbandoned => Sys2Proof.Machine.execFrameAbandoned s
  | .frameHandlingEnd => Sys2Proof.Machine.execFrameHandlingEnd s
  | .txAttemptStart => Sys2Proof.Machine.execTxAttemptStart s
  | .txMismatch => Sys2Proof.Machine.execTxMismatch s
  | .txComplete => Sys2Proof.Machine.execTxComplete s
  | .routineYieldExpiry => Sys2Proof.Machine.execRoutineYieldExpiry s
  | .healthTimerExpiry => Sys2Proof.Machine.execHealthTimerExpiry s
  | .stopHoldExpiry => Sys2Proof.Machine.execStopHoldExpiry s
  | .stopLineChange asserted => Sys2Proof.Machine.execStopLineChange asserted s
  | .verdictTimerExpiry => Sys2Proof.Machine.execVerdictTimerExpiry s
  | .beaconEdge mark waited => Sys2Proof.Machine.execBeaconEdge mark waited s
  | .beaconSpaceTimeout => Sys2Proof.Machine.execBeaconSpaceTimeout s
  | .sightingWindowExpiry => Sys2Proof.Machine.execSightingWindowExpiry s
  | .peerSilent p => Sys2Proof.Machine.execPeerSilent p s
  | .peerLost p => Sys2Proof.Machine.execPeerLost p s
  | .posClashHoldExpiry => Sys2Proof.Machine.execPosClashHoldExpiry s
  | .roleClashHoldExpiry => Sys2Proof.Machine.execRoleClashHoldExpiry s
  | .missingPeerTimerExpiry => Sys2Proof.Machine.execMissingPeerTimerExpiry s
  | .startBit waited => Sys2Proof.Machine.execStartBit waited s
  | .ledFlash => Sys2Proof.Machine.execLedFlash s

end Sys2Proof.Machine
end

