-- ==== Sys2Proof/Machine/Tick.lean ====
section
/-! DEFINITION. The clock (DESIGN CHOICE, log 1): what one microsecond does, and the command that has fallen due. The
table has no row for the passing of time, so it is what the step does on an empty queue. -/

namespace Sys2Proof.Machine

open Sys2Proof

/-! ### One microsecond -/

/-- A timer one microsecond on; at 0 it waits for its expiry command. -/
def Timer.tick (t : Timer) : Timer := t.map fun n => n - 1

/-- The ambient sample of a burst gives way to the lit sample when its time is over (R1). -/
def Channel.tick (c : Channel) : Channel :=
  { c with
    ambient := c.ambient.bind fun n => if 1 < n then some (n - 1) else none
    guard := Timer.tick c.guard, period := Timer.tick c.period }

/-- A filter whose sample is due takes the pin's level as its last sample (R21, R126). -/
def Filter.tick (f : Filter) (level : Bool) : Filter :=
  match f.sample with
  | none => f
  | some n => if 1 < n then { f with sample := some (n - 1) } else { f with sample := some switchSample, last := some level }

/-- The sample taken at this microsecond changes the accepted level. -/
def Filter.tickAccepts (f : Filter) (level : Bool) : Bool := f.sample.any (fun n => n ≤ 1) && f.accepts level

/-- The accepted levels of a wheel's two filters after a sample (R26): a sampled level that equals the sample before
becomes the accepted level, each filter by itself. -/
def acceptPair (accepted last sampled : Pair) : Pair :=
  { a := if last.a = sampled.a then sampled.a else accepted.a
    b := if last.b = sampled.b then sampled.b else accepted.b }

/-- One wheel's filters take a sample (R26): what they accept goes to the quadrature logic as one event (R27, R28). -/
def Encoder.take (e : Encoder) (v : SetupValues) (w : Wheel) (last : Option Pair) (sampled : Pair) : Encoder :=
  match e.quad w, last with
  | some accepted, some l => e.edge v w (acceptPair accepted l sampled)
  | _, _ => e

/-- The Encoder Interface one microsecond on: a sample of all four pins every 20 µs (R26). -/
def Encoder.tick (e : Encoder) (v : SetupValues) (p : Pins) : Encoder :=
  match e.sample with
  | none => e
  | some n =>
    let e := { e with odoTimer := Timer.tick e.odoTimer }
    if 1 < n then { e with sample := some (n - 1) }
    else
      let t := (e.take v .left e.lastLeft p.encLeft).take v .right e.lastRight p.encRight
      { t with sample := some encoderSample, lastLeft := some p.encLeft, lastRight := some p.encRight }

/-- The beacon filter's sample every 25 µs (R137) and the width count every 50 µs, saturating (R138). -/
def Beacon.tick (b : Beacon) (level : Bool) : Beacon :=
  match b.sample with
  | none => b
  | some n =>
    let b := { b with window := Timer.tick b.window }
    let b :=
      if b.subTick + 1 < widthTick then { b with subTick := b.subTick + 1 }
      else { b with subTick := 0, width := min widthMax (b.width + 1) }
    if 1 < n then { b with sample := some (n - 1) } else { b with sample := some beaconSample, last := some level }

/-- The beacon sample taken at this microsecond becomes the accepted level (R137). -/
def Beacon.tickAccepts (b : Beacon) (level : Bool) : Bool :=
  b.sample.any (fun n => n ≤ 1) && level ≠ b.mark && b.last = some level

/-- A peer's silence timer counts up while it runs (R151). -/
def PeerEntry.tick (e : PeerEntry) : PeerEntry := { e with silence := e.silence.map fun n => n + 1 }

def PeerMonitor.tick (p : PeerMonitor) : PeerMonitor :=
  { p with
    entries := p.entries.map PeerEntry.tick
    missingTimer := Timer.tick p.missingTimer, posHold := Timer.tick p.posHold, roleHold := Timer.tick p.roleHold }

/-- A bit time is one microsecond; the idle time counts from the end of a 0-level bit (R161). -/
def LineState.tick : LineState → LineState
  | .busy => .busy
  | .low => .idle 0
  | .idle n => .idle (n + 1)

/-- The Link Controller one microsecond on; `follows` says that the station follows the line (R179). -/
def Link.tick (l : Link) (follows : Bool) : Link :=
  { l with
    txTimer := Timer.tick l.txTimer
    line := if follows then l.line.tick else l.line
    access := if follows then l.access + 1 else l.access
    handling := l.handling.map fun h => { h with timer := h.timer - 1 }
    healthTimer := Timer.tick l.healthTimer }

def Startup.tick (u : Startup) : Startup :=
  { u with
    bootTimer := Timer.tick u.bootTimer, loopTimer := Timer.tick u.loopTimer, ledTimer := Timer.tick u.ledTimer }

/-- The commands of the filters' samples at this microsecond (R21, R126, R137). -/
def State.sampleCommands (s : State) : List Instr :=
  (if s.bump.tickAccepts s.pins.bump then [.bumpChange s.pins.bump] else []) ++
  (if s.drop.tickAccepts s.pins.drop then [.dropChange s.pins.drop] else []) ++
  (if s.clear.line.tickAccepts s.stopPin then [.stopLineChange s.stopPin] else []) ++
  (if s.beacon.tickAccepts s.pins.beaconMark then [.beaconEdge s.pins.beaconMark 0] else [])

/-- One microsecond passes: every running timer moves, and samples that fall due are taken. -/
def State.tick (s : State) : State :=
  { s with
    startup := s.startup.tick
    floor := { s.floor with ch := s.floor.ch.tick }
    wall := { s.wall with ch := s.wall.ch.tick }
    bump := s.bump.tick s.pins.bump
    drop := s.drop.tick s.pins.drop
    enc := s.enc.tick s.setup s.pins
    odo := { s.odo with stalled := Timer.tick s.odo.stalled, clashHold := Timer.tick s.odo.clashHold }
    table := { s.table with ageTimer := Timer.tick s.table.ageTimer, workTimer := Timer.tick s.table.workTimer }
    report := { s.report with checkTimer := Timer.tick s.report.checkTimer }
    clear := { s.clear with
      hold := Timer.tick s.clear.hold, verdictTimer := Timer.tick s.clear.verdictTimer
      line := s.clear.line.tick s.stopPin }
    beacon := s.beacon.tick s.pins.beaconMark
    peers := s.peers.tick
    link := s.link.tick s.onLink
    pending := s.pending ++ s.sampleCommands }

/-! ### What has fallen due -/

/-- A timer has run out. -/
def Timer.out (t : Timer) : Bool := t = some 0

/-- A command, if its condition holds. -/
def dueIf (b : Bool) (i : Instr) : List Instr := if b then [i] else []

/-- The command that completes the service of an item. -/
def Item.serveCommand : Item → Instr
  | .own k _ _ _ _ => if k.isCliff then .serveOwnCliff else if k.isRug then .serveFloorEvidence else .serveOwnObservation
  | .floorClear .. => .serveFloorEvidence
  | .wallClear .. => .serveWallClear
  | .report r =>
    match r.action with
    | .add => .servePeerAdd
    | .update => .servePeerUpdate
    | .withdraw => .servePeerWithdraw
  | .outcome .. => .serveCheckOutcome
  | .lookup .. => .serveLookup

/-- The command that ends the Table Manager's work. -/
def Work.endCommand : Work → List Instr
  | .idle => []
  | .serving i => [i.serveCommand]
  | .aging _ => [.ageTicksApplied]
  | .carrying _ => [.carryEnd]

/-- Start-up Controller: boot timer, loopback time limit, LED. -/
def State.dueStartup (s : State) : List Instr :=
  dueIf (Timer.out s.startup.bootTimer && (s.startup.node = .awaitSetup || s.startup.node = .fault)) .bootTimerExpiry ++
  dueIf (Timer.out s.startup.loopTimer && s.inStep .s5) .linkLoopbackTimeout ++
  dueIf (Timer.out s.startup.ledTimer) .ledFlash

/-- Bursts fall due on both channels together (R3). -/
def State.bothPeriodsOut (s : State) : Bool :=
  s.running && Timer.out s.floor.ch.period && Timer.out s.wall.ch.period

/-- Channels: periods and guarded starts. When both periods run out together, the free choice says which is taken
first (R3, log 2). -/
def State.dueChannels (s : State) : List Instr :=
  (if s.bothPeriodsOut then
    [if Config.floorStartsFirst s.choices then .floorPeriodExpiry else .wallPeriodExpiry]
   else
    dueIf (s.running && Timer.out s.floor.ch.period) .floorPeriodExpiry ++
    dueIf (s.running && Timer.out s.wall.ch.period) .wallPeriodExpiry) ++
  dueIf (Timer.out s.floor.ch.guard && s.guardedStart .floor ≠ s) (.guardedBurstStart .floor) ++
  dueIf (Timer.out s.wall.ch.guard && s.guardedStart .wall ≠ s) (.guardedBurstStart .wall)

/-- Encoder Interface, Odometry Unit, Table Manager and Report Handler. -/
def State.dueTable (s : State) : List Instr :=
  dueIf (s.encoding && Timer.out s.enc.odoTimer) .odoTimerExpiry ++
  dueIf (s.running && Timer.out s.odo.stalled && s.odo.state = .tracking) .stalledTimerExpiry ++
  dueIf (s.running && Timer.out s.odo.clashHold) .odoRoleClashHoldExpiry ++
  (if s.running && Timer.out s.table.workTimer then s.table.work.endCommand else []) ++
  dueIf (s.running && Timer.out s.table.ageTimer) .ageTimerExpiry ++
  dueIf (s.running && Timer.out s.report.checkTimer && s.report.phase = .awaiting) .checkTimeout

/-- The head entry's access delay has passed on the idle line since the queue last started anew (R163, R179). -/
def State.accessReached (s : State) : Bool :=
  s.onLink && s.link.onLine.isNone &&
    match s.link.line, s.link.queue with
    | .idle n, e :: _ => s.link.maySend e && accessDelay e s.startup.pos ≤ min n s.link.access
    | _, _ => false

/-- 76 idle bit times have passed with the routine yield set (R165). -/
def State.yieldOver (s : State) : Bool :=
  s.onLink && s.link.yield &&
    match s.link.line with
    | .idle n => yieldIdle ≤ n
    | .low => false
    | .busy => false

/-- Link Controller and Clearance Unit. An attempt with no mismatch reaches its last stop bit (R167). -/
def State.dueLink (s : State) : List Instr :=
  dueIf (s.receiving && s.link.handling.any fun h => h.wait = .no && h.timer = 0) .frameHandlingEnd ++
  dueIf (Timer.out s.link.txTimer && s.link.onLine.isSome) .txComplete ++
  dueIf s.yieldOver .routineYieldExpiry ++
  dueIf s.accessReached .txAttemptStart ++
  dueIf (s.running && Timer.out s.link.healthTimer) .healthTimerExpiry ++
  dueIf (s.running && Timer.out s.clear.hold) .stopHoldExpiry ++
  dueIf (s.running && Timer.out s.clear.verdictTimer) .verdictTimerExpiry

/-- The due change of a peer entry (R151). -/
def State.duePeer (s : State) (p : Pos) : List Instr :=
  let e := s.peers.entries[p]
  dueIf (s.receiving && e.state = .alive && e.silence.any fun n => silentTime ≤ n) (.peerSilent p) ++
  dueIf (s.receiving && e.state = .silent && e.silence.any fun n => lostTime ≤ n) (.peerLost p)

/-- Beacon Decoder and Peer Monitor. -/
def State.duePeers (s : State) : List Instr :=
  dueIf (s.running && s.beacon.inSpacePhase && spaceTimeout ≤ s.beacon.width) .beaconSpaceTimeout ++
  dueIf (s.running && Timer.out s.beacon.window) .sightingWindowExpiry ++
  (List.finRange 8).flatMap s.duePeer ++
  dueIf (s.receiving && Timer.out s.peers.posHold) .posClashHoldExpiry ++
  dueIf (s.receiving && Timer.out s.peers.roleHold) .roleClashHoldExpiry ++
  dueIf (s.running && Timer.out s.peers.missingTimer) .missingPeerTimerExpiry

/-- The commands that have fallen due, in the order in which the clock hands them on. -/
def State.due (s : State) : List Instr := s.dueStartup ++ s.dueChannels ++ s.dueTable ++ s.dueLink ++ s.duePeers

/-- The step on an empty queue: the first command that has fallen due enters the queue; when none has, one microsecond
passes. -/
def State.clock (s : State) : State :=
  match s.due with
  | i :: _ =>
    (if s.bothPeriodsOut then s.setChoices (s.choices + 1) else s).setPending [i]
  | [] => s.tick

end Sys2Proof.Machine
end

