-- ==== Sys2Proof/Safety.lean ====
section
/-! DEFINITION. What a safe state is, in the terms claims use: the invariants of the blocks, and which blocks a command
leaves unchanged. -/

namespace Sys2Proof.Machine

open Sys2Proof

/-! ### Invariants -/

/-- Outside RUN, and while the own stop condition is met, the STOP driver is asserted (R124). -/
def State.StopHeld (s : State) : Prop :=
  (s.running = false → s.clear.driver = true) ∧ (s.clear.ownStop = true → s.clear.driver = true)

/-- The transmit queue holds at most 6 frames, at most one verdict and at most one odometry frame, and no routine entry
stands ahead of an urgent one (R170). -/
def Link.QueueOk (l : Link) : Prop :=
  l.queue.length ≤ txQueueSize ∧ (l.queue.filter fun e => e.payload.isVerdict).length ≤ 1 ∧
  (l.queue.filter fun e => e.payload.isOdometry).length ≤ 1 ∧
  l.queue.Pairwise fun a b => b.urgent = true → a.urgent = true

/-- At most two frames are buffered, and one of them is being handled exactly when one is buffered (R174). -/
def Link.BuffersOk (l : Link) : Prop := l.rx.length ≤ rxBuffers ∧ (l.handling.isSome ↔ l.rx ≠ [])

/-- Each entry's from_tag equals the to_tag of the entry before it (R40). -/
def chained (ring : List RingEntry) : Prop := ring.IsChain fun a b => a.toTag = b.fromTag

/-- The ring is chained up to the odometry tag and never holds more than 4 entries (R40); in LOST there is no baseline,
no tag and an empty ring, and otherwise there are a baseline and a tag (R36, R42). -/
def Odometry.RingOk (o : Odometry) : Prop :=
  o.ring.length ≤ ringSize ∧ chained o.ring ∧ (∀ e ∈ o.ring.getLast?, o.tag = some e.toTag) ∧
  (o.state = .lost → o.baseline = none ∧ o.tag = none ∧ o.ring = [] ∧ o.lastDs = 0) ∧
  (o.state ≠ .lost → o.baseline.isSome ∧ o.tag.isSome)

/-- A report item's confidence is four bits wide (R97). -/
def Item.ConfOk : Item → Prop
  | .report r => r.conf ≤ maxConf
  | _ => True

/-- The request FIFO holds up to 8 items (R52), and so do the values they carry. -/
def TableManager.FifoOk (t : TableManager) : Prop :=
  t.fifo.length ≤ fifoSize ∧ (∀ i ∈ t.fifo, i.ConfOk) ∧
  match t.work with
  | .serving i => i.ConfOk
  | _ => True

/-- A record's coordinates lie within 1500, and within 2047 for a CLIFF under check (R48). -/
def Record.InRange (r : Record) : Prop :=
  r.range ≤ rangeLimit ∨ (r.kind.isCliff ∧ r.checking ∧ r.range ≤ clampLimit.toNat)

/-- The fields of one record: its confidence, its origins, and the fields bound to its kind (R46, R47, R48). -/
def Record.FieldsOk (r : Record) : Prop :=
  r.conf ≤ maxConf ∧ r.keys.length ≤ maxKeys ∧ r.hasOrigin ∧ (r.check.isSome ↔ r.kind.isCliff) ∧
  (r.clearRun.isSome ↔ r.isOwnWall) ∧ (∀ n ∈ r.clearRun, n < clearRunMax) ∧ r.InRange

/-- Every record stands in a good slot of its own (R45). -/
def TableManager.SlotsOk (t : TableManager) : Prop :=
  (t.records.map Record.slot).Nodup ∧ ∀ r ∈ t.records, t.good.getLsbD r.slot = true

/-- The list is ordered by range, and by slot within a range (R49). -/
def TableManager.Ordered (t : TableManager) : Prop := t.records.Pairwise Record.before

/-- No key is held twice in the whole table (R47). -/
def TableManager.KeysOk (t : TableManager) : Prop := (t.records.flatMap Record.keys).Nodup

/-- Outside RUN the table and the FIFO are empty, and the Table Manager is IDLE (R75). -/
def State.TableAtRest (s : State) : Prop :=
  s.running = false → s.table.records = [] ∧ s.table.fifo = [] ∧ s.table.work = .idle

/-- The node is in RUN only with completed setup values (R188). -/
def State.SetUp (s : State) : Prop := s.running = true → s.startup.setup.isSome

/-- The clear distances are 0..2047 (R118). -/
def Clearance.InScale (c : Clearance) : Prop := c.ahead ≤ clearCeiling ∧ c.behind ≤ clearCeiling

/-- The Table Manager's whole invariant (R45 to R49, R52, R75). -/
def State.TableOk (s : State) : Prop :=
  s.table.FifoOk ∧ s.table.SlotsOk ∧ s.table.Ordered ∧ (∀ r ∈ s.table.records, r.FieldsOk) ∧ s.table.KeysOk ∧
  s.TableAtRest

/-- The check outcomes that wait in the FIFO or are being served. -/
def TableManager.outcomes (t : TableManager) : Nat :=
  (t.fifo.filter Item.isOutcome).length + (match t.work with
    | .serving i => i.isOutcome.toNat
    | _ => 0)

/-- The Report Handler's check is whole in its phase (R98, R109): IDLE with nothing outstanding and no candidate;
AWAITING with its record and id, peers to await and a running timer; RESOLVED with its record and id and a stopped
timer, its one outcome waiting in the FIFO or being served. Outside RUN the phase is IDLE (R114). -/
def State.ReportOk (s : State) : Prop :=
  (s.report.phase = .idle → s.report.outstanding = none ∧ s.report.checkId = none ∧ s.report.awaited = [] ∧
    s.report.answers = [] ∧ s.report.checkTimer = none ∧ s.report.deferred = none) ∧
  (s.report.phase = .awaiting → s.report.outstanding.isSome ∧ s.report.checkId.isSome ∧ s.report.awaited ≠ [] ∧
    s.report.checkTimer.isSome) ∧
  (s.report.phase = .resolved → s.report.outstanding.isSome ∧ s.report.checkId.isSome ∧
    s.report.checkTimer = none) ∧
  s.table.outcomes = (if s.report.phase = .resolved then 1 else 0) ∧
  (s.running = false → s.report.phase = .idle)

/-! ### Frames -/

/-- The blocks of State. -/
inductive Block where
  | pins | startup | floor | wall | bump | drop | enc | odo | table | report | clear | beacon | peers | link | choices
  deriving DecidableEq, Repr

/-- Two states hold the same values in a block. -/
def Block.same (s t : State) : Block → Prop
  | .pins => t.pins = s.pins
  | .startup => t.startup = s.startup
  | .floor => t.floor = s.floor
  | .wall => t.wall = s.wall
  | .bump => t.bump = s.bump
  | .drop => t.drop = s.drop
  | .enc => t.enc = s.enc
  | .odo => t.odo = s.odo
  | .table => t.table = s.table
  | .report => t.report = s.report
  | .clear => t.clear = s.clear
  | .beacon => t.beacon = s.beacon
  | .peers => t.peers = s.peers
  | .link => t.link = s.link
  | .choices => t.choices = s.choices

/-- Every block but those listed is unchanged. -/
def UnchangedBut (bs : List Block) (s t : State) : Prop := ∀ b, b ∉ bs → b.same s t

/-- The command completes from `s` in a state that has the property. -/
def Completes (c : Instr) (s : State) (P : State → Prop) : Prop := ∃ t, exec c s = .next t ∧ P t

/-- What handing frames on may change beside the queue itself: the next enqueue order, the tx-fail count of a frame
lost at a full queue, and the boot frame pending of a lost boot frame (R168, R172). -/
def SendsOnly (s t : State) : Prop :=
  t.link = { s.link with
    queue := t.link.queue, nextOrder := t.link.nextOrder
    counts := { s.link.counts with txFail := t.link.counts.txFail } } ∧
  t.startup = { s.startup with bootPending := t.startup.bootPending }

/-- A frame as it comes to the queue, not yet sent (R170). -/
def newEntry (p : Payload) (urgent : Bool) (order : Nat) : TxEntry :=
  { payload := p, urgent := urgent, seq := none, crc := none, attempts := 0, order := order }

/-- A boot status frame of the code has been queued as the youngest entry (R170, R185). -/
def BootQueued (code : ProgressCode) (s t : State) : Prop :=
  ∃ d : BootData, d.code = code ∧
    t.link.queue = s.link.queue ++ [newEntry (.boot d) false s.link.nextOrder]

/-- An own CLIFF observation or a check outcome, for which a full FIFO makes a place (R53). -/
def Item.isKept : Item → Bool
  | .own k _ _ _ _ => k.isCliff
  | .outcome _ _ => true
  | _ => false

/-- A lookup, which a full FIFO has answered at once (R53). -/
def Item.isLookup : Item → Bool
  | .lookup .. => true
  | _ => false

/-- The check has ended and no candidate is held (R105, R106, R108). -/
def ReportHandler.AtRest (r : ReportHandler) : Prop :=
  r.phase = .idle ∧ r.outstanding = none ∧ r.checkId = none ∧ r.awaited = [] ∧ r.answers = [] ∧
  r.checkTimer = none ∧ r.deferred = none

/-- An item, no lookup, has met a full FIFO (R53, R105): an own CLIFF observation or an outcome takes the place of the
oldest non-CLIFF observation, or is discarded when there is none, and an outcome so discarded ends its check; any
other item is discarded. Either way one discard is counted. -/
def ItemAtFull (i : Item) (s t : State) : Prop :=
  t.table.work = s.table.work ∧ t.link.counts.tableDiscard = satInc s.link.counts.tableDiscard ∧
  (i.isKept = false → t.table.fifo = s.table.fifo) ∧
  (i.isKept = true →
    (∀ before after x, s.table.fifo = before ++ x :: after → x.nonCliff = true →
      (∀ b ∈ before, b.nonCliff = false) → t.table.fifo = before ++ after ++ [i]) ∧
    ((∀ x ∈ s.table.fifo, x.nonCliff = false) →
      t.table.fifo = s.table.fifo ∧ (i.isOutcome = true → t.report.AtRest)))

/-- An item has come to the request FIFO: it stands at the newest end while the Table Manager works and the FIFO has a
place; it is judged by its kind at a full FIFO, lookups apart; and it goes straight into service when the manager is
IDLE with nothing waiting (R50, R52, R53). -/
def ItemEntered (i : Item) (s t : State) : Prop :=
  (s.table.work ≠ .idle → s.table.fifo.length < fifoSize →
    t.table.fifo = s.table.fifo ++ [i] ∧ t.table.work = s.table.work) ∧
  (i.isLookup = false → s.table.work ≠ .idle → s.table.fifo.length = fifoSize → ItemAtFull i s t) ∧
  (s.table.work = .idle → s.table.fifo = [] → s.table.carryFlag = false → s.table.pendingAge = 0 →
    t.table.fifo = [] ∧ t.table.work = .serving i ∧ t.table.workTimer = some (2 + s.table.records.length))

/-! ### The table, slot by slot -/

/-- The fields of a record that reports and checks leave alone: kind, point, confidence and age, own origin, peer
origins, clear run. -/
abbrev Core := Hazard × (Int × Int) × (Nat × Nat) × Option Origin × List Key × Option Nat

def Record.core (r : Record) : Core := (r.kind, (r.x, r.y), (r.conf, r.age), r.own, r.keys, r.clearRun)

/-- The record in a slot of the table. -/
def State.at (s : State) (i : Slot) : Option Record := recordAt s.table.records i

/-- What the slot holds, reported and check apart. -/
def State.coreAt (s : State) (i : Slot) : Option Core := (s.at i).map Record.core

/-- The record is the nearest to a point within a radius among those that pass a test, and of the lowest slot among
equals (R56, R59, R73). -/
def NearestOf (rs : List Record) (pass : Record → Bool) (x y : Int) (radius : Nat) (r : Record) : Prop :=
  r ∈ rs ∧ pass r = true ∧ cheb r.x r.y x y ≤ radius ∧
  ∀ q ∈ rs, pass q = true → cheb q.x q.y x y ≤ radius →
    cheb r.x r.y x y < cheb q.x q.y x y ∨ (cheb r.x r.y x y = cheb q.x q.y x y ∧ r.slot ≤ q.slot)

/-- No record that passes the test lies within the radius. -/
def NoneNear (rs : List Record) (pass : Record → Bool) (x y : Int) (radius : Nat) : Prop :=
  ∀ q ∈ rs, pass q = true → radius < cheb q.x q.y x y

/-- A good slot that holds no record of the list. -/
def freeIn (good : BitVec 24) (rs : List Record) (i : Slot) : Bool := good.getLsbD i && (recordAt rs i).isNone

/-- The record R67 would remove: the unprotected record that no other unprotected one follows in the list order. -/
def IsVictim (rs : List Record) (v : Record) : Prop :=
  v ∈ rs ∧ v.protected = false ∧ ∀ q ∈ rs, q.protected = false → q.before v

/-- A new record of a range takes the slot: the lowest free good slot, or, when none is free, the slot of a victim of
greater range (R45, R67, R68). -/
def TakesSlot (good : BitVec 24) (rs : List Record) (range : Nat) (i : Slot) : Prop :=
  (freeIn good rs i = true ∧ ∀ j : Slot, j < i → freeIn good rs j = false) ∨
  ((∀ j : Slot, freeIn good rs j = false) ∧ ∃ v, IsVictim rs v ∧ v.slot = i ∧ range < v.range)

/-- A new record of a range is refused (R68). -/
def IsRefused (good : BitVec 24) (rs : List Record) (range : Nat) : Prop :=
  (∀ j : Slot, freeIn good rs j = false) ∧ ∀ v, IsVictim rs v → v.range ≤ range

/-- A record with a core is created over the records `rs` of `s`, or refused: one slot takes it and the others keep
theirs, or all keep theirs and TABLE_FULL is raised (R45, R58, R63, R67, R68). -/
def Created (c : Core) (rs : List Record) (s t : State) : Prop :=
  (∀ i, TakesSlot s.table.good rs (rangeOf c.2.1.1 c.2.1.2) i →
    t.coreAt i = some c ∧ ∀ j, j ≠ i → t.coreAt j = (recordAt rs j).map Record.core) ∧
  (IsRefused s.table.good rs (rangeOf c.2.1.1 c.2.1.2) →
    t.table.full = true ∧ ∀ j, t.coreAt j = (recordAt rs j).map Record.core)

/-- The record `r` of `rs` takes a core, and the other slots keep theirs. -/
def Merged (c : Core) (r : Record) (rs : List Record) (t : State) : Prop :=
  t.coreAt r.slot = some c ∧ ∀ j, j ≠ r.slot → t.coreAt j = (recordAt rs j).map Record.core

/-- The core of a record that an own observation merges into (R57). -/
def ownMerged (kind : Hazard) (origin : Origin) (p : Int × Int) (increment : Nat) (r : Record) : Core :=
  (kind, (roundDiv (r.x + p.1) 2, roundDiv (r.y + p.2) 2),
    (if origin = .bump then 15 else min 15 (r.conf + increment), 0), some origin, r.keys,
    if kind = .obstacle ∧ origin = .wall then some 0 else none)

/-- The core of a record that an own observation creates (R58). -/
def ownCreated (kind : Hazard) (origin : Origin) (p : Int × Int) (conf : Nat) : Core :=
  (kind, p, (conf, 0), some origin, [], if kind = .obstacle ∧ origin = .wall then some 0 else none)

/-- The records without a key: it leaves the peer origins of its holder, and a holder left with no origin goes (R63,
R65). -/
def Record.without (k : Key) (r : Record) : Option Record :=
  if k ∈ r.keys then
    if r.own = none ∧ (r.keys.filter (· ≠ k)) = [] then none else some { r with keys := r.keys.filter (· ≠ k) }
  else some r

/-- The Table Manager has ended its work and taken the next by the tests of R50, with the flag, the count and the FIFO
of `s` and the records of `t`. -/
def WorkTaken (s t : State) : Prop :=
  (s.table.carryFlag = true →
    t.table.carryFlag = false ∧
    t.table.work = .carrying { tableTag := t.table.tag, odoTag := t.odo.tag, ring := t.odo.ring,
                               occupied := t.table.records.length } ∧
    t.table.workTimer = some (10 + 8 * t.table.records.length)) ∧
  (s.table.carryFlag = false → 0 < s.table.pendingAge →
    t.table.work = .aging s.table.pendingAge ∧ t.table.pendingAge = 0 ∧
    t.table.workTimer = some (2 + t.table.records.length)) ∧
  (s.table.carryFlag = false → s.table.pendingAge = 0 → ∀ i rest, s.table.fifo = i :: rest →
    t.table.work = .serving i ∧ t.table.fifo = rest ∧
    t.table.workTimer = some (2 + t.table.records.length)) ∧
  (s.table.carryFlag = false → s.table.pendingAge = 0 → s.table.fifo = [] →
    t.table.work = .idle ∧ t.table.workTimer = none)

/-- The outstanding check has ended, by an outcome or a cancellation (R72, R106, R108): the Report Handler is at rest
when no candidate still stands, and a candidate that does is promoted, with the next check id. -/
def CheckEnds (still : Slot → Bool) (s t : State) : Prop :=
  ((∀ d, s.report.deferred = some d → still d = false) → t.report.AtRest ∧ t.table.outcomes = 0) ∧
  (∀ d, s.report.deferred = some d → still d = true → s.table.fifo.length < fifoSize →
    t.hasMark d .pending = true ∧ t.report.outstanding = some d ∧ t.report.deferred = none ∧
    t.report.checkId = some s.report.nextId ∧ t.report.nextId = s.report.nextId + 1 ∧
    t.report.phase = (if s.awaitedSet = [] then .resolved else .awaiting))

/-- The queue holds nothing that was not in it but verdicts. -/
def OnlyVerdictsAdded (s t : State) : Prop :=
  ∀ e ∈ t.link.queue, e.payload.isVerdict = true ∨ e ∈ s.link.queue

/-- A frame of a class waits in the queue, not yet sent. -/
def Queued (p : Payload) (urgent : Bool) (t : State) : Prop :=
  ∃ e ∈ t.link.queue, e.payload = p ∧ e.urgent = urgent ∧ e.attempts = 0 ∧ e.seq = none ∧ e.crc = none

/-- A report frame for a record has been handed on at the completion (R93, R96): its slot's report age is 0, and, when
the queue has room and no other slot changed, the frame waits in the queue with its class. -/
def Reported (a : Action) (r : Record) (urgent : Bool) (s t : State) : Prop :=
  t.report.ages[r.slot] = 0 ∧
  (s.link.queue.length < 3 → (∀ j, j ≠ r.slot → t.at j = s.at j) →
    Queued (.hazard { action := a, kind := r.kind, id := r.slot, x := BitVec.ofInt 16 r.x, y := BitVec.ofInt 16 r.y,
                      conf := BitVec.ofNat 4 r.conf, tag := s.table.tag }) urgent t)

/-! ### Encoders and peers -/

/-- The pairs of levels that follow one another along the cycle of R27. -/
def forwardSteps : List (Pair × Pair) :=
  [(⟨false, false⟩, ⟨false, true⟩), (⟨false, true⟩, ⟨true, true⟩), (⟨true, true⟩, ⟨true, false⟩),
   (⟨true, false⟩, ⟨false, false⟩)]

/-- What a wheel's count takes from an edge (R27): 1 forward along the cycle and -1 back, inverted by the reverse option;
nothing from an edge of both channels or of none. -/
def edgeStep (old new : Pair) (reverse : Bool) : Half :=
  if (old, new) ∈ forwardSteps then (if reverse then 0xFFFF#16 else 1#16)
  else if (new, old) ∈ forwardSteps then (if reverse then 1#16 else 0xFFFF#16)
  else 0#16

/-- The peer entry of the position is ALIVE with role WHEEL. -/
def State.aliveWheel (s : State) (p : Pos) : Prop :=
  s.peers.entries[p].state = .alive ∧ s.peers.entries[p].role = some .wheel

/-- The source is the lowest ALIVE WHEEL station, or absent when there is none (R42). -/
def State.SourceRenewed (s : State) : Prop :=
  (∀ p, s.odo.source = some p → s.aliveWheel p ∧ ∀ q : Pos, q < p → ¬ s.aliveWheel q) ∧
  (s.odo.source = none → ∀ q, ¬ s.aliveWheel q)

/-- The Odometry Unit is LOST, with its source given up or kept (R42). -/
def Odometry.IsLost (o : Odometry) : Prop :=
  o.state = .lost ∧ o.baseline = none ∧ o.tag = none ∧ o.ring = [] ∧ o.lastDs = 0 ∧ o.stalled = none

/-- Every peer entry but the position's is as it was, the expected field apart. -/
def OthersKept (p : Pos) (s t : State) : Prop :=
  ∀ q : Pos, q ≠ p →
    t.peers.entries[q] = { s.peers.entries[q] with expected := t.peers.entries[q].expected }

/-! ### Start-up -/

/-- FAULT as R190 enters it with a cause, when fewer than 6 boot frames wait: STOP asserted, the code 15 frame formed
behind the boot frames that stay queued and pending, the boot timer at 1000 ms, the LED at its fast flash. -/
def FaultEntered (cause : FaultCause) (s t : State) : Prop :=
  t.startup.node = .fault ∧ t.startup.cause = cause ∧ t.startup.code = some .c15 ∧
  t.startup.bootTimer = some 1000000 ∧ t.startup.led = .faultOn ∧ t.startup.ledTimer = some 50000 ∧
  t.startup.setup = none ∧ t.clear.driver = true ∧ t.clear.hold = none ∧ t.table.records = [] ∧
  t.floor.accepted = .unknown ∧ t.wall.result = .unseen ∧ t.odo.state = .lost ∧ t.link.rx = [] ∧
  t.link.healthTimer = none ∧
  ((s.link.queue.filter fun e => e.payload.isBoot).length < txQueueSize →
    t.startup.bootPending = some s.link.nextOrder ∧
    ∃ d : BootData, d.code = .c15 ∧ d.cause = cause ∧
      t.link.queue = (s.link.queue.filter fun e => e.payload.isBoot) ++
        [newEntry (.boot d) false s.link.nextOrder])

/-- All four parts are held. -/
def Startup.complete (u : Startup) : Bool := u.part0.isSome && u.part1.isSome && u.part2.isSome && u.part3.isSome

/-! ### Channels -/

/-- The ladder after a non-blinded burst of amplitude `a` on a channel (R4, R5, R6). -/
def LadderMoved (v : SetupValues) (a : Nat) (c d : Channel) : Prop :=
  d.blinded = 0 ∧
  (900 < a → d.step = c.step - 2 ∧ d.relock = 0) ∧
  (200 ≤ a → a ≤ 900 → d.step = c.step ∧ d.relock = 0) ∧
  (8 ≤ a → a < 200 → c.relock + 1 < v.w → d.step = c.step ∧ d.relock = c.relock + 1) ∧
  (8 ≤ a → a < 200 → v.w ≤ c.relock + 1 → d.step = min (c.step + 1) v.lm ∧ d.relock = 0) ∧
  (a < 8 → d.step = v.lm ∧ d.relock = 0)

/-- A channel's burst has ended, seen with the other channel (R1, R3): a burst that waits on the other channel takes the
guard of 50 µs; the channel's own burst is over, and one that fell due meanwhile on it starts with its ambient sample,
or waits on when the other channel's waits (DESIGN CHOICE, log 7). -/
def BurstEnded (own own' other other' : Channel) : Prop :=
  other' = (if other.due then { other with guard := some 50 } else other) ∧ own'.period = own.period ∧
  (own.due = false ∨ other.due = true →
    own'.bursting = false ∧ own'.ambient = none ∧ own'.due = own.due ∧ own'.guard = own.guard) ∧
  (own.due = true → other.due = false →
    own'.bursting = true ∧ own'.ambient = some 40 ∧ own'.due = false ∧ own'.guard = none)

/-! ### Received frames -/

/-- The command by which a frame of each kind is received. -/
def frameCommand (f : Frame) : Instr :=
  match f.payload with
  | .odometry d => .odometryFrame f.head d
  | .hazard d => .hazardReport f.head d
  | .verdict d => .verdict f.head d
  | .checkRequest d => .checkRequest f.head d
  | .checkAnswer d => .checkAnswer f.head d
  | .health d => .healthReport f.head d
  | .boot d => .bootStatus f.head d
  | .setup d => .setupPart f.head d
  | .mode v => .modeOrder f.head v
  | .rejoin dest => .rejoinOrder f.head dest

/-- A boot status frame makes its station's last seq absent, so it is never a duplicate (R152, R175). -/
def State.isRepeat (s : State) (f : Frame) : Bool :=
  !f.payload.isBoot && s.peers.entries[f.head.src].lastSeq = some f.head.seq

/-- A frame that completes now is handed on at once and is neither a position clash nor a duplicate: the node receives,
both buffers are free, the source is another position, and its last seq is another one (R174, R175). -/
def State.Accepts (s : State) (h : Head) : Prop :=
  s.receiving = true ∧ s.link.rx = [] ∧ h.src ≠ s.startup.pos ∧ s.peers.entries[h.src].lastSeq ≠ some h.seq

/-- The same, for a frame whose fields pass their checks. -/
def State.Takes (s : State) (f : Frame) : Prop :=
  s.receiving = true ∧ s.link.rx = [] ∧ f.head.src ≠ s.startup.pos ∧ s.isRepeat f = false ∧ f.payload.wf = true

/-- The frame is a role clash (R154). -/
def State.RoleClashes (s : State) (f : Frame) : Prop :=
  (∃ r, s.peers.entries[f.head.src].role = some r ∧ r ≠ f.head.role ∧ f.payload.isBoot = false) ∨
  (f.head.role = .wheel ∧ (s.startup.role = .wheel ∨ ∃ p : Pos, p ≠ f.head.src ∧
    (s.peers.entries[p].state = .alive ∨ s.peers.entries[p].state = .silent) ∧
    s.peers.entries[p].role = some .wheel)) ∨
  (f.head.role = .controller ∧ ∃ p : Pos, p ≠ f.head.src ∧
    (s.peers.entries[p].state = .alive ∨ s.peers.entries[p].state = .silent) ∧
    s.peers.entries[p].role = some .controller)

/-- The peer entry of an accepted frame's source, and the others (R151, R152, R154). -/
def EntryUpdated (f : Frame) (s t : State) : Prop :=
  t.peers.entries[f.head.src] =
    { state := .alive, role := some f.head.role, lastSeq := some f.head.seq, silence := some 0,
      expected := t.peers.entries[f.head.src].expected } ∧
  OthersKept f.head.src s t

/-- An attempt's end (R161, R165): nothing is on the line, which is idle from now on, and a routine attempt sets the
routine yield. -/
def AttemptEnded (o : OnLine) (s t : State) : Prop :=
  t.link.onLine = none ∧ t.link.txTimer = none ∧ t.link.line = .idle 0 ∧
  t.link.yield = (s.link.yield || !o.entry.urgent)

/-! ### Reconciliation and clearance -/

/-- The path is the entries of the ring from the one whose from_tag is `t` to one whose to_tag is `tableTag`, and
none of them is a break (R90). -/
def ChainPath (ring : List RingEntry) (t tableTag : Seq) (path : List RingEntry) : Prop :=
  (∃ before after, ring = before ++ path ++ after ∧ ∀ e ∈ before, e.fromTag ≠ t) ∧
  (∃ e ∈ path.head?, e.fromTag = t) ∧ (∃ e ∈ path.getLast?, e.toTag = tableTag) ∧
  (∀ e ∈ path.dropLast, e.toTag ≠ tableTag) ∧ ∀ e ∈ path, e.isBreak = false

/-- A record counts in a mode (R116, R117): a CLIFF always; a CONFIRMED OBSTACLE, but in DOCK mode not within 150 mm of
a CONFIRMED DOCK; a CONFIRMED DOCK outside DOCK mode. -/
def CountsIn (m : Mode) (rs : List Record) (r : Record) : Prop :=
  r.kind = .cliff ∨
  (r.kind = .obstacle ∧ 8 ≤ r.conf ∧
    ¬ (m = .dock ∧ ∃ d ∈ rs, (∃ z, d.kind = .dock z) ∧ 8 ≤ d.conf ∧ cheb d.x d.y r.x r.y ≤ 150)) ∨
  ((∃ z, r.kind = .dock z) ∧ 8 ≤ r.conf ∧ m ≠ .dock)

/-- The distance is the least of the gaps of the records that count and lie in the corridor, or 2047 when it is less
(R115, R118). -/
def LeastGap (gap : Record → Option Nat) (v : SetupValues) (m : Mode) (rs : List Record) (d : Nat) : Prop :=
  d ≤ 2047 ∧
  (∀ r ∈ rs, CountsIn m rs r → (r.y.natAbs : Int) ≤ v.hw + 20 → ∀ g ∈ gap r, d ≤ g) ∧
  (d = 2047 ∨ ∃ r ∈ rs, CountsIn m rs r ∧ (r.y.natAbs : Int) ≤ v.hw + 20 ∧ gap r = some d)

/-- Some CLIFF in the corridor has a gap of 100 mm or less, ahead or behind (R120). -/
def CliffIsNear (v : SetupValues) (rs : List Record) : Prop :=
  ∃ r ∈ rs, r.kind = .cliff ∧ (r.y.natAbs : Int) ≤ v.hw + 20 ∧
    ((0 < r.x ∧ r.x - v.xf ≤ 100) ∨ (r.x < 0 ∧ -r.x - v.xr ≤ 100))

/-- Some RUG of either shade lies in the corridor with 0 < x ≤ Xf + 150 (R120). -/
def RugIsAhead (v : SetupValues) (rs : List Record) : Prop :=
  ∃ r ∈ rs, (∃ shade, r.kind = .rug shade) ∧ (r.y.natAbs : Int) ≤ v.hw + 20 ∧ 0 < r.x ∧ r.x ≤ v.xf + 150

/-- The own stop condition, term by term (R121, R122). -/
def StopTerms (s t : State) : Prop :=
  s.floor.accepted = .cliff ∨ s.drop.accepted = true ∨
  (s.bump.accepted = true ∧ ¬ (s.peers.mode = .dock ∧ ∃ d ∈ s.table.records, d.confirmed = true ∧
    (∃ z, d.kind = .dock z ∧ z.halo = true) ∧ cheb d.x d.y s.setup.mx s.setup.my ≤ 150)) ∨
  (s.odo.state ≠ .lost ∧ 0 < s.odo.lastDs ∧ (t.clear.ahead : Int) < s.setup.sBase + 12 * s.odo.lastDs.natAbs) ∨
  (s.odo.state ≠ .lost ∧ s.odo.lastDs < 0 ∧ (t.clear.behind : Int) < s.setup.sBase + 12 * s.odo.lastDs.natAbs) ∨
  (s.odo.state = .lost ∧
    ((t.clear.ahead : Int) < s.setup.sBase + 360 ∨ (t.clear.behind : Int) < s.setup.sBase + 360))

end Sys2Proof.Machine
end

