-- ==== Sys2Proof/Certificates/Slice0/Obligations.lean ====
section
/-! DEFINITION. The statements for the provers, each with the rule of spec/ it rests on. -/

open Sys2Proof Sys2Proof.Machine

/-! ### The queue and the clock -/

/-- A step runs the command at the front of the queue, with the queue's rest. -/
def Obligations.StepRunsFrontCommand : Prop :=
  ∀ (c : Instr) (rest : List Instr) (s : State), s.pending = c :: rest → step s = exec c (s.setPending rest)

/-- The model's choice (log 1): on an empty queue a step hands on the first command that has fallen due and changes
nothing else but the count of free choices, and otherwise one microsecond passes: timers move, the idle time of a line
that is followed grows from the end of a 0-level bit on (R161, R179), an ambient sample gives way to the lit one (R1),
and each filter takes its sample, a second equal one being accepted (R21, R26, R126, R137). The wheel counts
follow the encoder levels the clock accepts (R27), and the other acceptances enter the queue as commands (log 29). -/
def Obligations.IdleStepIsTheClock : Prop :=
  ∀ s : State, s.pending = [] →
    (∀ c rest, s.due = c :: rest → ∃ t, step s = .next t ∧ t.pending = [c] ∧ UnchangedBut [.choices] s t) ∧
    (s.due = [] → ∃ t, step s = .next t ∧
      t.table = { s.table with
        workTimer := s.table.workTimer.map (· - 1), ageTimer := s.table.ageTimer.map (· - 1) } ∧
      t.clear.hold = s.clear.hold.map (· - 1) ∧ t.clear.verdictTimer = s.clear.verdictTimer.map (· - 1) ∧
      t.link.txTimer = s.link.txTimer.map (· - 1) ∧
      (s.onLink = false → t.link.line = s.link.line ∧ t.link.access = s.link.access) ∧
      (s.onLink = true → t.link.access = s.link.access + 1 ∧ (s.link.line = .low → t.link.line = .idle 0) ∧
        ∀ n, s.link.line = .idle n → t.link.line = .idle (n + 1)) ∧
      (∀ n, s.floor.ch.ambient = some n → t.floor.ch.ambient = if 1 < n then some (n - 1) else none) ∧
      (∀ n, s.wall.ch.ambient = some n → t.wall.ch.ambient = if 1 < n then some (n - 1) else none) ∧
      (∀ active, .bumpChange active ∈ t.pending ↔ s.bump.sample.any (· ≤ 1) = true ∧ active = s.pins.bump ∧
        active ≠ s.bump.accepted ∧ s.bump.last = some active) ∧
      (∀ active, .dropChange active ∈ t.pending ↔ s.drop.sample.any (· ≤ 1) = true ∧ active = s.pins.drop ∧
        active ≠ s.drop.accepted ∧ s.drop.last = some active) ∧
      (∀ level, .stopLineChange level ∈ t.pending ↔ s.clear.line.sample.any (· ≤ 1) = true ∧ level = s.stopPin ∧
        level ≠ s.clear.line.accepted ∧ s.clear.line.last = some level) ∧
      (∀ mark n, .beaconEdge mark n ∈ t.pending ↔ n = 0 ∧ s.beacon.sample.any (· ≤ 1) = true ∧
        mark = s.pins.beaconMark ∧ mark ≠ s.beacon.mark ∧ s.beacon.last = some mark) ∧
      (∀ old last, s.enc.sample.any (· ≤ 1) = true → s.enc.quadLeft = some old → s.enc.lastLeft = some last →
        let new : Pair := { a := if last.a = s.pins.encLeft.a then s.pins.encLeft.a else old.a
                            b := if last.b = s.pins.encLeft.b then s.pins.encLeft.b else old.b }
        t.enc.lastLeft = some s.pins.encLeft ∧ t.enc.quadLeft = some new ∧
        t.enc.left = s.enc.left + edgeStep old new s.setup.reverseLeft) ∧
      (∀ old last, s.enc.sample.any (· ≤ 1) = true → s.enc.quadRight = some old → s.enc.lastRight = some last →
        let new : Pair := { a := if last.a = s.pins.encRight.a then s.pins.encRight.a else old.a
                            b := if last.b = s.pins.encRight.b then s.pins.encRight.b else old.b }
        t.enc.lastRight = some s.pins.encRight ∧ t.enc.quadRight = some new ∧
        t.enc.right = s.enc.right + edgeStep old new s.setup.reverseRight) ∧
      (∀ p : Pos, t.peers.entries[p].silence = s.peers.entries[p].silence.map (· + 1)))

/-- The model's reading: every command completes, since no rule of the spec stops the node without an effect (log 18)
and a command whose event cannot occur has no effect (log 3); and a command leaves the queue, which is the sender's, as
it is (log 30). -/
def Obligations.EveryCommandKeepsTheQueue : Prop :=
  ∀ (c : Instr) (s : State), Completes c s fun t => t.pending = s.pending

/-! ### Invariants that every step keeps -/

/-- Outside RUN, and in RUN while the own stop condition is met, the STOP driver is asserted (R124). -/
def Obligations.StepKeepsStopAsserted : Prop :=
  ∀ s t : State, s.StopHeld → step s = .next t → t.StopHeld

/-- The transmit queue keeps its bounds and its order (R170). -/
def Obligations.StepKeepsTransmitQueue : Prop :=
  ∀ s t : State, s.link.QueueOk → step s = .next t → t.link.QueueOk

/-- At most two frames are buffered, and one is being handled exactly when one is buffered (R174). -/
def Obligations.StepKeepsReceiveBuffers : Prop :=
  ∀ s t : State, s.link.BuffersOk → step s = .next t → t.link.BuffersOk

/-- The ring stays chained up to the odometry tag and never holds more than 4 entries (R40, R42). -/
def Obligations.StepKeepsOdometryRing : Prop :=
  ∀ s t : State, s.odo.RingOk → step s = .next t → t.odo.RingOk

/-- The request FIFO never holds more than 8 items (R52, R53). -/
def Obligations.StepKeepsRequestFifo : Prop :=
  ∀ s t : State, s.table.FifoOk → step s = .next t → t.table.FifoOk

/-- Records stand in good slots of their own, the list stays ordered, the table is at rest outside RUN (R45, R49, R75),
and the Report Handler's check stays whole in its phase (R98, R109, R114). -/
def Obligations.StepKeepsSlotsAndOrder : Prop :=
  ∀ s t : State, s.TableOk → s.ReportOk → step s = .next t →
    t.table.SlotsOk ∧ t.table.Ordered ∧ t.TableAtRest ∧ t.ReportOk

/-- Every record keeps its fields in their bounds, its kind-bound fields, and an origin (R46, R47, R48). -/
def Obligations.StepKeepsRecordFields : Prop :=
  ∀ s t : State, s.TableOk → step s = .next t → ∀ r ∈ t.table.records, r.FieldsOk

/-- No two peer-origin entries in the whole table carry the same key (R47, R63). -/
def Obligations.StepKeepsKeysUnique : Prop :=
  ∀ s t : State, s.TableOk → step s = .next t → t.table.KeysOk

/-- The node is in RUN only with setup values, and the clear distances stay within 0..2047 (R115, R118, R188). -/
def Obligations.StepKeepsSetupAndScale : Prop :=
  ∀ s t : State, s.SetUp → s.clear.InScale → step s = .next t → t.SetUp ∧ t.clear.InScale

/-- Every invariant above holds after reset. -/
def Obligations.ResetMeetsTheInvariants : Prop :=
  State.reset.StopHeld ∧ State.reset.link.QueueOk ∧ State.reset.link.BuffersOk ∧ State.reset.odo.RingOk ∧
  State.reset.TableOk ∧ State.reset.ReportOk ∧ State.reset.SetUp ∧ State.reset.clear.InScale

/-! ### Frames as bytes -/

/-- The bytes of every well-formed frame of every kind pass all receive checks and read back as that frame (R162,
R191, R192, R193). -/
def Obligations.FrameBytesReadBack : Prop :=
  ∀ f : Frame, f.payload.wf = true → checkFrame (frameBytes f) = .good f

/-- The receive checks in their order (R173): the CRC first; then the reserved head bits, the kind and the length
field, whatever the payload holds. And bytes that pass them all are the bytes of a well-formed frame and no others
(R191, R192, R193): a length that does not fit the kind, a reserved bit or value and a value out of range are refused. -/
def Obligations.ReceiveChecksInOrder : Prop :=
  (∀ (h0 h1 h2 : Byte) (rest : List Byte) (crc : Half),
    (crc ≠ crc16 (h0 :: h1 :: h2 :: rest) → checkFrame (h0 :: h1 :: h2 :: rest ++ halfBytes crc) = .crcError) ∧
    (crc = crc16 (h0 :: h1 :: h2 :: rest) →
      h2.extractLsb' 6 2 ≠ 0#2 ∨ h0.extractLsb' 4 4 = 0#4 ∨ 10 < (h0.extractLsb' 4 4).toNat ∨
        (h2.extractLsb' 0 4).toNat ≠ rest.length →
      checkFrame (h0 :: h1 :: h2 :: rest ++ halfBytes crc) = .malformed)) ∧
  (∀ (bytes : List Byte) (f : Frame), checkFrame bytes = .good f → bytes = frameBytes f ∧ f.payload.wf = true)

/-! ### Start-up -/

/-- HARD_RESET: the node is held with STOP asserted, and the fields named here take their hard-reset values (R24,
R44, R75, R114, R135, R148, R160, R179, R180, R190); the pins and the waiting commands are the outside's. That the
node state is then `held`, until STRAP_SAMPLE, is the model's choice (log 8). -/
def Obligations.HardResetValues : Prop :=
  ∀ s : State, Completes .hardReset s fun t =>
    t.startup.node = .held ∧ t.startup.led = .released ∧ t.startup.cause = .none ∧ t.startup.code = none ∧
    t.startup.usable = 0 ∧ t.startup.floorEmitter = .untested ∧ t.startup.wallEmitter = .untested ∧
    t.startup.setup = none ∧ t.startup.bootTimer = none ∧ t.startup.bootPending = none ∧
    t.clear.driver = true ∧ t.clear.ahead = 2047 ∧ t.clear.behind = 2047 ∧ t.clear.hold = none ∧
    t.clear.last = none ∧ t.clear.line.accepted = false ∧
    t.floor.ch.step = 4 ∧ t.wall.ch.step = 4 ∧ t.floor.accepted = .unknown ∧ t.wall.result = .unseen ∧
    t.enc.left = 0 ∧ t.enc.right = 0 ∧ t.enc.errors = 0 ∧ t.odo.state = .lost ∧ t.odo.source = none ∧
    t.odo.ring = [] ∧ t.table.good = 0 ∧ t.table.records = [] ∧ t.table.fifo = [] ∧ t.table.tag = none ∧
    t.report.phase = .idle ∧ t.report.nextId = 0 ∧ t.report.deferred = none ∧
    t.beacon.decode = .idle ∧ t.beacon.window = none ∧ t.peers.mode = .clean ∧
    (∀ p : Pos, t.peers.entries[p].state = .unknown) ∧
    t.link.queue = [] ∧ t.link.rx = [] ∧ t.link.seq = 0 ∧ t.link.yield = false ∧ t.link.counts = Counts.zero ∧
    t.femit = false ∧ t.wemit = false ∧
    UnchangedBut [.startup, .floor, .wall, .bump, .drop, .enc, .odo, .table, .report, .clear, .beacon, .peers,
      .link] s t

/-- STRAP_SAMPLE: the position is read in binary, the role from its strap, and SELF-TEST begins at step 7 with its
boot frame and a blink group of 7 (R181, R182, R186). That this command is the release and the sampling in one is
the model's choice (log 8). -/
def Obligations.StrapSampleEntersSelfTest : Prop :=
  ∀ (s : State) (pos2 pos1 pos0 role : Bool), (s.startup.node = .held ∨ s.startup.node = .strap) →
    s.link.queue.length < txQueueSize →
    Completes (.strapSample pos2 pos1 pos0 role) s fun t =>
      t.startup.node = .selfTest ∧ t.startup.step = some .s7 ∧
      t.startup.pos.val = 4 * pos2.toNat + 2 * pos1.toNat + pos0.toNat ∧
      t.startup.role = (if role then .sense else .wheel) ∧ t.startup.code = some .c7 ∧
      t.startup.led = .flashOn 7 0 ∧ t.startup.ledTimer = some 150000 ∧ BootQueued .c7 s t ∧
      UnchangedBut [.startup, .link] s t

/-- The steps of self-test that pass (R45, R182, R183, R184): the next step begins with its boot frame; after step 3,
passed or failed, the node enters AWAIT-SETUP with its code 2 frame pending and the boot timer at 500 ms. Step 4 drives
FEMIT and step 3 WEMIT. -/
def Obligations.SelfTestStepsPass : Prop :=
  ∀ s : State, s.link.queue.length < txQueueSize →
    (∀ good : BitVec 24, s.inStep .s7 = true → leastUsable ≤ goodSlots good →
      Completes (.tableSlotTest good) s fun t =>
        t.inStep .s6 = true ∧ t.table = { s.table with good := good } ∧ t.startup.usable = goodSlots good ∧
        t.startup.code = some .c6 ∧ BootQueued .c6 s t ∧ UnchangedBut [.startup, .table, .link] s t) ∧
    (s.inStep .s6 = true →
      Completes (.crcSelfTest 0x29B1#16) s fun t =>
        t.inStep .s5 = true ∧ t.startup.loopTimer = some 100000 ∧ t.startup.code = some .c5 ∧ BootQueued .c5 s t ∧
        UnchangedBut [.startup, .link] s t) ∧
    (s.inStep .s4 = true →
      Completes (.floorEmitterTest .inBand) s fun t =>
        t.inStep .s3 = true ∧ t.startup.floorEmitter = .ok ∧ t.startup.code = some .c3 ∧ BootQueued .c3 s t ∧
        s.femit = true ∧ t.femit = false ∧ t.wemit = true ∧
        UnchangedBut [.startup, .link] s t) ∧
    (∀ d : Drive, s.inStep .s3 = true →
      Completes (.wallEmitterTest d) s fun t =>
        t.startup.node = .awaitSetup ∧ t.startup.wallEmitter = (if d = .inBand then .ok else .failed) ∧
        t.wall = { s.wall with healthOk := d = .inBand } ∧ t.startup.cause = s.startup.cause ∧
        t.startup.code = some .c2 ∧ t.startup.bootTimer = some 500000 ∧
        t.startup.bootPending = some s.link.nextOrder ∧ BootQueued .c2 s t ∧ t.wemit = false ∧
        UnchangedBut [.startup, .wall, .link] s t)

/-- The fatal failures of self-test and their causes (R182, R183, R184, R190). That the receive buffers are then
empty is the model's reading (log 14). -/
def Obligations.SelfTestFailuresEnterFault : Prop :=
  ∀ s : State,
    (∀ good : BitVec 24, s.inStep .s7 = true → goodSlots good < leastUsable →
      Completes (.tableSlotTest good) s (FaultEntered .slots s)) ∧
    (∀ result : Half, s.inStep .s6 = true → result ≠ 0x29B1#16 →
      Completes (.crcSelfTest result) s (FaultEntered .crc s)) ∧
    (s.inStep .s5 = true → Completes .linkLoopbackTimeout s (FaultEntered .link s)) ∧
    (∀ d : Drive, s.inStep .s4 = true → d ≠ .inBand →
      Completes (.floorEmitterTest d) s fun t =>
        FaultEntered .floorEmitter s t ∧ t.startup.floorEmitter = .failed ∧
        t.startup.wallEmitter = s.startup.wallEmitter)

/-- BOOT_TIMER_EXPIRY (R185): the timer reloads; a new frame is formed and pending unless the last one still is.
LED_FLASH (R186): a flash and its pause of 150 ms each, the pause of 1 s after the last flash of a group, the next
group with the progress code as it then stands, and the 50 ms halves of FAULT. That an expiry command does not look
at the time left is the model's choice (log 3). -/
def Obligations.BootTimerAndLedPace : Prop :=
  (∀ (s : State) (code : ProgressCode) (period : Nat), s.startup.bootTimer.isSome →
      (s.startup.node = .awaitSetup ∧ code = .c2 ∧ period = 500000 ∨
        s.startup.node = .fault ∧ code = .c15 ∧ period = 1000000) →
      (s.startup.bootPending = none → s.link.queue.length < txQueueSize →
        Completes .bootTimerExpiry s fun t =>
          t.startup.bootTimer = some period ∧ t.startup.bootPending = some s.link.nextOrder ∧
          t.startup.code = some code ∧ BootQueued code s t ∧ UnchangedBut [.startup, .link] s t) ∧
      (s.startup.bootPending ≠ none →
        Completes .bootTimerExpiry s fun t =>
          t.startup = { s.startup with bootTimer := some period } ∧ UnchangedBut [.startup] s t)) ∧
  (∀ s : State, Completes .ledFlash s fun t =>
      UnchangedBut [.startup] s t ∧
      t.startup = { s.startup with led := t.startup.led, ledTimer := t.startup.ledTimer } ∧
      (∀ n k, s.startup.led = .flashOn n k → t.startup.led = .flashOff n k ∧ t.startup.ledTimer = some 150000) ∧
      (∀ n k, s.startup.led = .flashOff n k → k + 1 < n →
        t.startup.led = .flashOn n (k + 1) ∧ t.startup.ledTimer = some 150000) ∧
      (∀ n k, s.startup.led = .flashOff n k → n ≤ k + 1 →
        t.startup.led = .gap ∧ t.startup.ledTimer = some 1000000) ∧
      (∀ c, s.startup.led = .gap → s.startup.code = some c →
        t.startup.led = .flashOn (progressNat c) 0 ∧ t.startup.ledTimer = some 150000) ∧
      (s.startup.led = .faultOn → t.startup.led = .faultOff ∧ t.startup.ledTimer = some 50000) ∧
      (s.startup.led = .faultOff → t.startup.led = .faultOn ∧ t.startup.ledTimer = some 50000))

/-- A setup part (R187) that does not complete the setup: ignored, refused with a count, or held as its number. -/
def Obligations.SetupPartIsJudged : Prop :=
  ∀ (s : State) (h : Head) (d : SetupData), s.Accepts h →
    (d.dest ≠ s.startup.pos → Completes (.setupPart h d) s fun t =>
      t.startup = { s.startup with bootPending := t.startup.bootPending } ∧
      t.link.counts.refusedOrder = s.link.counts.refusedOrder) ∧
    (d.dest = s.startup.pos → h.role ≠ .controller ∨ s.startup.node ≠ .awaitSetup →
      Completes (.setupPart h d) s fun t =>
        t.startup = { s.startup with bootPending := t.startup.bootPending } ∧
        t.link.counts.refusedOrder = satInc s.link.counts.refusedOrder) ∧
    (d.dest = s.startup.pos → h.role = .controller → s.startup.node = .awaitSetup →
      (s.startup.holdPart d.part).complete = false →
      Completes (.setupPart h d) s fun t =>
        t.startup = s.startup.holdPart d.part ∧ t.link.counts.refusedOrder = s.link.counts.refusedOrder ∧
        UnchangedBut [.startup, .peers, .link] s t)

/-- A setup part that completes the four (R188): they are clamped into the setup values, the code 1 frame is formed,
and the node enters RUN, with the RUN-entry values named here (R6, R24, R34, R75, R114, R134, R148, R157, R160,
R177). The code 1 frame and the first verdict, which is routine, stand behind what waits, and WHEEL's first odometry
frame behind the urgent ones (R30, R134, R170). That the one recompute of RUN entry and its verdict follow the code 1
frame, and that WHEEL's frame is handed on there, which 10.6 does not list, are the model's readings (logs 5, 15). -/
def Obligations.SetupCompletionEntersRun : Prop :=
  ∀ (s : State) (h : Head) (d : SetupData) (p0 : Part0) (p1 : Part1) (p2 : Part2) (p3 : Part3), s.Accepts h →
    d.dest = s.startup.pos → h.role = .controller → s.startup.node = .awaitSetup →
    (s.startup.holdPart d.part).part0 = some p0 → (s.startup.holdPart d.part).part1 = some p1 →
    (s.startup.holdPart d.part).part2 = some p2 → (s.startup.holdPart d.part).part3 = some p3 →
    Completes (.setupPart h d) s fun t =>
      let v := clampSetup p0 p1 p2 p3
      t.startup.node = .run ∧ t.startup.setup = some v ∧ t.startup.code = some .c1 ∧ t.startup.led = .steady ∧
      t.startup.bootTimer = none ∧ t.startup.bootPending = none ∧
      t.floor.ch.step = v.lf ∧ t.wall.ch.step = v.lf ∧ t.floor.accepted = .unknown ∧ t.wall.result = .unseen ∧
      t.bump.accepted = false ∧ t.drop.accepted = false ∧
      t.odo.state = .lost ∧ t.odo.source = (if s.startup.role = .wheel then some s.startup.pos else none) ∧
      t.table.records = [] ∧ t.table.tag = none ∧ t.table.ageTimer = some 100000 ∧ t.table.good = s.table.good ∧
      t.report.phase = .idle ∧ t.report.nextId = s.report.nextId ∧
      t.peers.mode = .clean ∧ t.peers.missing = false ∧ t.peers.missingTimer = some 2000000 ∧
      (∀ p : Pos, t.peers.entries[p].expected = v.expected.getLsbD p) ∧
      t.beacon.decode = .idle ∧ t.beacon.mark = s.pins.beaconMark ∧ t.link.healthTimer = some 1000000 ∧
      t.clear.driver = true ∧ t.clear.hold = some 30000 ∧ t.clear.ownStop = false ∧
      t.clear.ahead = 2047 ∧ t.clear.behind = 2047 ∧ t.clear.verdictTimer = some 100000 ∧
      (t.clear.last.map fun l => l.flags.stopOwn) = some true ∧
      (s.link.queue.length < 4 →
        (∀ e ∈ s.link.queue, e.payload.isVerdict = false ∧ e.payload.isOdometry = false) →
        ∃ (b : BootData) (l : VerdictData), b.code = .c1 ∧ t.clear.last = some l ∧
          let odometry : Payload := .odometry
            { left := s.enc.left, right := s.enc.right, interval := 10, errors := s.enc.errors }
          let n := s.link.nextOrder
          t.link.queue = s.link.queue.takeWhile (·.urgent) ++
            (if s.startup.role = .wheel then [newEntry odometry true (n + 1)] else []) ++
            s.link.queue.dropWhile (·.urgent) ++
            [newEntry (.boot b) false n,
             newEntry (.verdict l) false (if s.startup.role = .wheel then n + 2 else n + 1)])

/-- A rejoin order (R189): ignored, refused with a count, or taken; taken, the node is in AWAIT-SETUP with STOP
asserted with the rejoin values named here, only the code 2 frame queued and pending, both emitters released (R24, R44,
R75, R114, R134, R135, R148, R160, R178). The order's own acceptance in RUN may hand on a verdict first (R127, R130),
which takes an enqueue order and at a full queue counts as lost (R172); the counts are kept but for that. That the code
2 LED group begins at once from AWAIT-SETUP too, and that the access wait counts from 0, are the model's readings (logs
11, 36). -/
def Obligations.RejoinOrderIsJudged : Prop :=
  ∀ (s : State) (h : Head) (dest : Pos), s.Accepts h →
    (dest ≠ s.startup.pos → Completes (.rejoinOrder h dest) s fun t =>
      t.startup.node = s.startup.node ∧ t.link.counts.refusedOrder = s.link.counts.refusedOrder) ∧
    (dest = s.startup.pos → h.role ≠ .controller ∨ s.startup.node = .selfTest →
      Completes (.rejoinOrder h dest) s fun t =>
        t.startup.node = s.startup.node ∧ t.link.counts.refusedOrder = satInc s.link.counts.refusedOrder) ∧
    (dest = s.startup.pos → h.role = .controller → s.startup.node = .run ∨ s.startup.node = .awaitSetup →
      Completes (.rejoinOrder h dest) s fun t =>
        t.startup.node = .awaitSetup ∧ t.startup.part0 = none ∧ t.startup.part1 = none ∧ t.startup.part2 = none ∧
        t.startup.part3 = none ∧ t.startup.setup = none ∧ t.startup.bootTimer = some 500000 ∧
        t.startup.code = some .c2 ∧
        (∃ (b : BootData) (n : Nat), b.code = .c2 ∧ t.startup.bootPending = some n ∧ t.link.nextOrder = n + 1 ∧
          t.link.queue = [newEntry (.boot b) false n] ∧ (s.running = false → n = s.link.nextOrder)) ∧
        t.link.counts = { s.link.counts with txFail := t.link.counts.txFail } ∧
        (s.running = false → t.link.counts = s.link.counts) ∧
        t.link.seq = s.link.seq ∧ t.link.yield = false ∧
        t.link.healthTimer = none ∧ (∀ o ∈ t.link.onLine, o.retry = false) ∧ t.link.access = 0 ∧
        t.startup.led = .flashOn 2 0 ∧ t.startup.ledTimer = some 150000 ∧ t.femit = false ∧ t.wemit = false ∧
        t.clear.driver = true ∧ t.clear.hold = none ∧ t.clear.last = none ∧ t.clear.verdictTimer = none ∧
        t.clear.ahead = 2047 ∧ t.clear.behind = 2047 ∧
        t.floor.accepted = .unknown ∧ t.floor.ch.step = s.floor.ch.step ∧ t.floor.ch.period = none ∧
        t.wall.result = .unseen ∧ t.wall.ch.step = s.wall.ch.step ∧ t.wall.healthOk = s.wall.healthOk ∧
        t.odo.state = .lost ∧ t.odo.ring = [] ∧ t.enc.left = s.enc.left ∧ t.enc.right = s.enc.right ∧
        t.table.records = [] ∧ t.table.fifo = [] ∧ t.table.tag = none ∧ t.table.ageTimer = none ∧
        t.table.good = s.table.good ∧ t.report.phase = .idle ∧ t.report.deferred = none ∧
        t.report.nextId = s.report.nextId ∧ t.beacon.decode = .idle ∧ t.beacon.window = none ∧
        t.beacon.mark = s.beacon.mark ∧ t.peers.mode = .clean ∧ t.peers.missing = false ∧
        (∀ p : Pos, t.peers.entries[p].expected = false))

/-- A mode order (R158): refused or held with a count, or taken. A taken order that changes the mode acts on the
channels as R23 lays down, an abandoned wall burst releasing its emitter (R1). The place of the guard in the changes of
R23 is the model's reading (log 7). -/
def Obligations.ModeOrderIsJudged : Prop :=
  ∀ (s : State) (h : Head) (value : Byte), s.Accepts h →
    (h.role ≠ .controller ∨ s.startup.node ≠ .run ∨ 2 < value.toNat →
      Completes (.modeOrder h value) s fun t =>
        t.peers.mode = s.peers.mode ∧ t.link.counts.refusedOrder = satInc s.link.counts.refusedOrder ∧
        UnchangedBut [.peers, .odo, .clear, .link, .startup] s t) ∧
    (∀ m : Mode, h.role = .controller → s.startup.node = .run →
      (value = 0 ∧ m = .clean ∨ value = 1 ∧ m = .dock ∨ value = 2 ∧ m = .park) →
      Completes (.modeOrder h value) s fun t =>
        t.peers.mode = m ∧ t.link.counts.refusedOrder = s.link.counts.refusedOrder ∧
        UnchangedBut [.peers, .odo, .clear, .link, .startup, .floor, .wall, .choices] s t ∧
        (m ≠ .park → s.peers.mode ≠ .park → t.floor = s.floor ∧ t.wall = s.wall) ∧
        (m = .park → s.peers.mode ≠ .park →
          t.floor.ch.period = some 20000 ∧ t.wall.result = .unseen ∧ t.wall.ch.bursting = false ∧
          t.wall.ch.due = false ∧ t.wall.ch.period = none ∧ t.floor.accepted = s.floor.accepted ∧
          t.wemit = false) ∧
        (m ≠ .park → s.peers.mode = .park →
          t.floor.ch.period = some 2000 ∧ t.floor.accepted = s.floor.accepted ∧
          (t.floor.ch.bursting = true ∨ t.floor.ch.due = true) ∧
          (s.wall.healthOk = true →
            t.wall.ch.step = s.setup.lf ∧ t.wall.ch.relock = 0 ∧ t.wall.ch.blinded = 0 ∧ t.wall.result = .unseen ∧
            t.wall.ch.period = some 4000 ∧ (t.wall.ch.bursting = true ∨ t.wall.ch.due = true))))

/-! ### Channels, BUMP and DROP -/

/-- FLOOR_PERIOD_EXPIRY and WALL_PERIOD_EXPIRY (R2, R3): the timer reloads, and the burst that falls due starts at
once when neither channel has a burst in progress or waiting, and waits otherwise; one that already waits stays one
burst. GUARDED_BURST_START (R3): the waiting burst starts. A burst starts with its ambient sample of 40 µs, the emitter
off (R1). The reading of the 50 µs guard, and of a burst that falls due during the same channel's burst, is the model's
(log 7). That an expiry command does not look at the time left is the model's choice (log 3). -/
def Obligations.BurstsStartByTheGuard : Prop :=
  (∀ s : State, s.running = true →
      (s.floor.ch.period.isSome → Completes .floorPeriodExpiry s fun t =>
        UnchangedBut [.floor] s t ∧ t.floor = { s.floor with ch := t.floor.ch } ∧
        t.floor.ch.period = some (if s.peers.mode = .park then 20000 else 2000) ∧
        (s.floor.ch.bursting = false → s.floor.ch.due = false → s.wall.ch.bursting = false → s.wall.ch.due = false →
          t.floor.ch.bursting = true ∧ t.floor.ch.due = false ∧ t.floor.ch.ambient = some 40 ∧ t.femit = false) ∧
        (s.floor.ch.bursting = true ∨ s.floor.ch.due = true ∨ s.wall.ch.bursting = true ∨ s.wall.ch.due = true →
          t.floor.ch = { s.floor.ch with period := t.floor.ch.period, due := true } ∧ t.femit = s.femit)) ∧
      (s.wall.ch.period.isSome → Completes .wallPeriodExpiry s fun t =>
        UnchangedBut [.wall] s t ∧ t.wall = { s.wall with ch := t.wall.ch } ∧ t.wall.ch.period = some 4000 ∧
        (s.floor.ch.bursting = false → s.floor.ch.due = false → s.wall.ch.bursting = false → s.wall.ch.due = false →
          t.wall.ch.bursting = true ∧ t.wall.ch.due = false ∧ t.wall.ch.ambient = some 40 ∧ t.wemit = false) ∧
        (s.floor.ch.bursting = true ∨ s.floor.ch.due = true ∨ s.wall.ch.bursting = true ∨ s.wall.ch.due = true →
          t.wall.ch = { s.wall.ch with period := t.wall.ch.period, due := true } ∧ t.wemit = s.wemit))) ∧
  (∀ s : State, s.running = true → s.floor.ch.bursting = false → s.wall.ch.bursting = false →
      (s.floor.ch.due = true → s.floor.ch.guard.isSome → Completes (.guardedBurstStart .floor) s fun t =>
        t.floor = { s.floor with ch :=
          { s.floor.ch with bursting := true, ambient := some 40, due := false, guard := none } } ∧
        t.femit = false ∧ UnchangedBut [.floor] s t) ∧
      (s.wall.ch.due = true → s.wall.ch.guard.isSome → Completes (.guardedBurstStart .wall) s fun t =>
        t.wall = { s.wall with ch :=
          { s.wall.ch with bursting := true, ambient := some 40, due := false, guard := none } } ∧
        t.wemit = false ∧ UnchangedBut [.wall] s t))

/-- A blinded burst (R4, R13) on either channel: the run count rises, saturating at 50, and at 50 the accepted class
becomes UNKNOWN or the wall result UNSEEN; the ladder and the window are kept, the blinded-bursts count rises, and no
observation is made. The burst has ended, its emitter released, and a waiting burst follows by the guard (R1, R3). That a
burst which fell due on the channel meanwhile starts at once is the model's choice (log 7). -/
def Obligations.BlindedBurstsAreCounted : Prop :=
  ∀ (s : State) (ambient lit : BitVec 10), s.running = true → 300 < ambient.toNat →
    (s.floor.ch.bursting = true → Completes (.floorBurstEnd ambient lit) s fun t =>
      t.floor.ch.blinded = min 50 (s.floor.ch.blinded + 1) ∧ t.floor.ch.step = s.floor.ch.step ∧
      t.floor.ch.relock = s.floor.ch.relock ∧ t.floor.window = s.floor.window ∧
      t.floor.accepted = (if s.floor.ch.blinded + 1 = 50 then .unknown else s.floor.accepted) ∧
      (s.floor.ch.blinded + 1 ≠ 50 → t.floor.runClass = s.floor.runClass ∧ t.floor.runCount = s.floor.runCount ∧
        t.floor.repeats = s.floor.repeats) ∧
      (s.floor.ch.blinded + 1 = 50 → t.floor.runClass = none ∧ t.floor.runCount = 0 ∧ t.floor.repeats = 0) ∧
      t.femit = false ∧ t.link.counts.blindedBursts = satInc s.link.counts.blindedBursts ∧
      BurstEnded s.floor.ch t.floor.ch s.wall.ch t.wall.ch ∧ t.wall = { s.wall with ch := t.wall.ch } ∧
      UnchangedBut [.floor, .wall, .link, .clear, .startup] s t) ∧
    (s.wall.ch.bursting = true → Completes (.wallBurstEnd ambient lit) s fun t =>
      t.wall.ch.blinded = min 50 (s.wall.ch.blinded + 1) ∧ t.wall.ch.step = s.wall.ch.step ∧
      t.wall.ch.relock = s.wall.ch.relock ∧
      t.wall.result = (if s.wall.ch.blinded + 1 = 50 then .unseen else s.wall.result) ∧
      t.wall.healthOk = s.wall.healthOk ∧ t.wemit = false ∧
      t.link.counts.blindedBursts = satInc s.link.counts.blindedBursts ∧
      BurstEnded s.wall.ch t.wall.ch s.floor.ch t.floor.ch ∧ t.floor = { s.floor with ch := t.floor.ch } ∧
      UnchangedBut [.floor, .wall, .link, .clear, .startup] s t)

/-- A non-blinded floor burst (R1, R5, R8 to R12, R15, R17) of amplitude `a` at the step in use: the ladder moves; a step
change empties the texture window, and a locked burst at a held step enters it; a burst of a class `c` other than the
accepted one raises the run of `c` and at its threshold makes `c` the accepted class, which enters a floor observation;
every tenth classifying burst that accepts none enters one of the accepted class, unless that is UNKNOWN; while DROP is
active the accepted class is held and the run is empty. The observation of a class is the one of the table in R15. The
burst has ended, its emitter released, and a waiting burst follows by the guard (R1, R3). That a burst which fell due on
the channel meanwhile starts at once is the model's choice (log 7). -/
def Obligations.FloorBurstIsClassified : Prop :=
  ∀ (s : State) (ambient lit : BitVec 10) (a : Nat), s.running = true → s.floor.ch.bursting = true →
    ambient.toNat ≤ 300 → a = lit.toNat - ambient.toNat → s.floor.window.length ≤ 8 →
    Completes (.floorBurstEnd ambient lit) s fun t =>
      let window := if 200 ≤ a ∧ a ≤ 900 then s.floor.window.drop (s.floor.window.length - 7) ++ [a]
        else s.floor.window
      let textured : Bool := window.length = 8 ∧ 8 * s.setup.texture ≤ textureSum window
      let atTop : Bool := s.floor.ch.step = s.setup.lm
      let unlit : FloorClass := if textured then .darkRug else .dark
      let lit0 : FloorClass := if textured then .lightRug else .hard
      let class' : Option FloorClass :=
        if a < 8 then (if atTop then some .cliff else none)
        else if a < 200 then (if atTop then some unlit else none)
        else if a ≤ 900 then (if 48 ≤ a * 256 / gain s.floor.ch.step then some lit0 else some unlit)
        else if s.floor.ch.step = 0 then some lit0
        else none
      let item := fun c : FloorClass => match c with
        | .cliff => Item.own .cliff .floor s.setup.fx s.setup.fy s.odo.tag
        | .darkRug => .own (.rug .dark) .floor s.setup.fx s.setup.fy s.odo.tag
        | .lightRug => .own (.rug .light) .floor s.setup.fx s.setup.fy s.odo.tag
        | .hard | .dark | .unknown => .floorClear s.setup.fx s.setup.fy s.odo.tag
      LadderMoved s.setup a s.floor.ch t.floor.ch ∧ t.femit = false ∧
      BurstEnded s.floor.ch t.floor.ch s.wall.ch t.wall.ch ∧ t.wall = { s.wall with ch := t.wall.ch } ∧
      (t.floor.ch.step ≠ s.floor.ch.step → t.floor.window = []) ∧
      (t.floor.ch.step = s.floor.ch.step → t.floor.window = window) ∧
      (∀ c : FloorClass, s.drop.accepted = true → class' = some c →
        t.floor.accepted = s.floor.accepted ∧ t.floor.runClass = none ∧ t.floor.runCount = 0 ∧
        t.floor.repeats = 0 ∧ t.table = s.table) ∧
      (∀ c : FloorClass, s.drop.accepted = false → class' = some c →
        let n := if s.floor.runClass = some c then s.floor.runCount + 1 else 1
        let threshold := if c = .cliff then 2 else if s.floor.accepted = .cliff then 8 else 6
        (c = s.floor.accepted →
          t.floor.accepted = c ∧ t.floor.runClass = none ∧ t.floor.runCount = 0 ∧
          t.floor.repeats = (if 9 ≤ s.floor.repeats then 0 else s.floor.repeats + 1) ∧
          (9 ≤ s.floor.repeats → ItemEntered (item c) s t) ∧
          (s.floor.repeats < 9 → t.table = s.table)) ∧
        (c ≠ s.floor.accepted → n < threshold →
          t.floor.accepted = s.floor.accepted ∧ t.floor.runClass = some c ∧ t.floor.runCount = n ∧
          t.floor.repeats = (if s.floor.accepted = .unknown ∨ 9 ≤ s.floor.repeats then 0
            else s.floor.repeats + 1) ∧
          (s.floor.accepted ≠ .unknown → 9 ≤ s.floor.repeats → ItemEntered (item s.floor.accepted) s t) ∧
          (s.floor.accepted = .unknown ∨ s.floor.repeats < 9 → t.table = s.table)) ∧
        (c ≠ s.floor.accepted → threshold ≤ n →
          t.floor.accepted = c ∧ t.floor.runClass = none ∧ t.floor.runCount = 0 ∧ t.floor.repeats = 0 ∧
          ItemEntered (item c) s t)) ∧
      (class' = none →
        t.table = s.table ∧ t.floor.accepted = s.floor.accepted ∧ t.floor.runClass = s.floor.runClass ∧
        t.floor.runCount = s.floor.runCount ∧ t.floor.repeats = s.floor.repeats) ∧
      UnchangedBut [.floor, .wall, .table, .report, .link, .clear, .startup] s t

/-- A non-blinded wall burst (R1, R5, R18, R19): judged at the step in use, then the ladder moves; the burst has ended,
its emitter released, and a waiting burst follows by the guard (R1, R3). That a burst which fell due on the channel
meanwhile starts at once is the model's choice (log 7). -/
def Obligations.WallBurstIsJudged : Prop :=
  ∀ (s : State) (ambient lit : BitVec 10) (a : Nat), s.running = true → s.wall.ch.bursting = true →
    ambient.toNat ≤ 300 → a = lit.toNat - ambient.toNat →
    Completes (.wallBurstEnd ambient lit) s fun t =>
      let d := max 20 (s.setup.kw / isqrt (a * 256 / gain s.wall.ch.step))
      LadderMoved s.setup a s.wall.ch t.wall.ch ∧ t.wemit = false ∧
      BurstEnded s.wall.ch t.wall.ch s.floor.ch t.floor.ch ∧ t.floor = { s.floor with ch := t.floor.ch } ∧
      (200 ≤ a → a ≤ 900 → d ≤ 600 → t.wall.result = .obstacle ∧
        ItemEntered (.own .obstacle .wall (s.setup.mx + roundDiv (d * s.setup.ax) 16384)
          (s.setup.my + roundDiv (d * s.setup.ay) 16384) s.odo.tag) s t) ∧
      (200 ≤ a → a ≤ 900 → 600 < d → t.wall.result = .clear ∧
        ItemEntered (.wallClear s.setup.mx s.setup.my s.setup.ax s.setup.ay s.odo.tag) s t) ∧
      (900 < a → s.wall.ch.step = 0 → t.wall.result = .obstacle ∧
        ItemEntered (.own .obstacle .wall (s.setup.mx + roundDiv (20 * s.setup.ax) 16384)
          (s.setup.my + roundDiv (20 * s.setup.ay) 16384) s.odo.tag) s t) ∧
      (a < 8 → s.wall.ch.step = s.setup.lm → t.wall.result = .clear ∧
        ItemEntered (.wallClear s.setup.mx s.setup.my s.setup.ax s.setup.ay s.odo.tag) s t) ∧
      (900 < a ∧ s.wall.ch.step ≠ 0 ∨ 8 ≤ a ∧ a < 200 ∨ a < 8 ∧ s.wall.ch.step ≠ s.setup.lm →
        t.wall.result = s.wall.result ∧ t.table = s.table) ∧
      UnchangedBut [.floor, .wall, .table, .report, .link, .clear, .startup] s t

/-- BUMP_CHANGE and DROP_CHANGE in RUN on a fitted input (R17, R21, R22): the accepted level changes, its flag follows
(R120), and the Clearance Unit judges the own stop condition anew (R121, R122, R127); a BUMP press makes a BUMP
observation at the mounting point; a DROP change empties the floor channel's run and repeat count. At the accepted
level, on an input that setup marks not fitted and outside RUN only the pin changes, the filter accepting nothing. That
a command does so on such an input and outside RUN is the model's reading (log 20). -/
def Obligations.SwitchChangesAreAccepted : Prop :=
  ∀ (s : State) (active : Bool),
    (s.running = true → s.StopHeld → s.setup.bumpFitted = true → active ≠ s.bump.accepted →
      Completes (.bumpChange active) s fun t =>
      t.bump.accepted = active ∧ t.pins = { s.pins with bump := active } ∧
      (active = true → ItemEntered (.own .obstacle .bump s.setup.mx s.setup.my s.odo.tag) s t) ∧
      (active = false → t.table = s.table) ∧ t.flags.bump = active ∧
      (t.clear.ownStop = true ↔ StopTerms t t) ∧ (t.clear.ownStop = true → t.clear.driver = true) ∧
      UnchangedBut [.pins, .bump, .table, .report, .link, .clear, .startup] s t) ∧
    (s.running = true → s.StopHeld → s.setup.dropFitted = true → active ≠ s.drop.accepted →
      Completes (.dropChange active) s fun t =>
      t.drop.accepted = active ∧ t.pins = { s.pins with drop := active } ∧
      t.floor = { s.floor with runClass := none, runCount := 0, repeats := 0 } ∧
      (active = true → t.clear.driver = true ∧ t.clear.ownStop = true) ∧ t.flags.drop = active ∧
      (t.clear.ownStop = true ↔ StopTerms t t) ∧
      UnchangedBut [.pins, .drop, .floor, .link, .clear, .startup] s t) ∧
    (s.running = false ∨ s.setup.bumpFitted = false ∨ active = s.bump.accepted →
      Completes (.bumpChange active) s fun t =>
        t.pins = { s.pins with bump := active } ∧ UnchangedBut [.pins] s t) ∧
    (s.running = false ∨ s.setup.dropFitted = false ∨ active = s.drop.accepted →
      Completes (.dropChange active) s fun t =>
        t.pins = { s.pins with drop := active } ∧ UnchangedBut [.pins] s t)

/-! ### Encoders and odometry -/

/-- ENCODER_EDGE (R27, R28): outside the Encoder Interface's work only the pin changes; otherwise an edge of one
channel is a step of the wheel's count, forward or back along the cycle and inverted by the reverse option, and an
edge of both channels is an error. That a command outside its work changes the pin alone is the model's reading (log
20). -/
def Obligations.EncoderEdgesAreCounted : Prop :=
  ∀ (s : State) (w : Wheel) (new : Pair), Completes (.encoderEdge w new.a new.b) s fun t =>
    t.pins = s.pins.setEncoder w new ∧
    (s.running = false ∨ s.startup.role ≠ .wheel → UnchangedBut [.pins] s t) ∧
    (∀ old, s.running = true → s.startup.role = .wheel → s.enc.quad w = some old →
      UnchangedBut [.pins, .enc] s t ∧
      (old = new → t.enc = s.enc) ∧
      (old.a ≠ new.a → old.b ≠ new.b →
        t.enc.quad w = some new ∧ t.enc.left = s.enc.left ∧ t.enc.right = s.enc.right ∧
        t.enc.errors = satInc s.enc.errors) ∧
      ((old, new) ∈ forwardSteps ∨ (new, old) ∈ forwardSteps →
        let forward : Bool := (old, new) ∈ forwardSteps
        let reverse := if w = .left then s.setup.reverseLeft else s.setup.reverseRight
        let step : Half := if forward = reverse then 0xFFFF#16 else 1#16
        t.enc.quad w = some new ∧ t.enc.errors = s.enc.errors ∧
        t.enc.left = (if w = .left then s.enc.left + step else s.enc.left) ∧
        t.enc.right = (if w = .right then s.enc.right + step else s.enc.right)))

/-- ODO_TIMER_EXPIRY (R30, R171, R172): the timer reloads and the snapshot's frame waits in the queue as urgent, in
the place of an odometry frame that waits; at a queue full of other urgent frames it is lost and counted. That an
expiry command does not look at the time left is the model's choice (log 3). -/
def Obligations.SnapshotsAreQueued : Prop :=
  ∀ s : State, s.running = true → s.startup.role = .wheel → s.enc.odoTimer.isSome →
    Completes .odoTimerExpiry s fun t =>
      t.enc = { s.enc with odoTimer := some 10000 } ∧ UnchangedBut [.enc, .link, .startup] s t ∧ SendsOnly s t ∧
      (s.link.queue.length < 6 ∨ (∃ e ∈ s.link.queue, e.payload.isOdometry = true ∨ e.urgent = false) →
        Queued (.odometry { left := s.enc.left, right := s.enc.right, interval := 10, errors := s.enc.errors })
          true t) ∧
      (6 ≤ s.link.queue.length → (∀ e ∈ s.link.queue, e.payload.isOdometry = false ∧ e.urgent = true) →
        t.link.queue = s.link.queue ∧ t.link.counts.txFail = satInc s.link.counts.txFail)

/-- An odometry frame from the source in LOST, or one whose seq is the odometry tag or held in the ring, sets a new
baseline (R36, R37), and raises the carry flag, which an idle Table Manager takes at once (R43, R50). While the source is
absent the frame's station becomes the source, and the frame is handled as one from it (R34). -/
def Obligations.OdometryBaselineIsTaken : Prop :=
  ∀ (s : State) (h : Head) (d : OdometryData), s.Accepts h → s.running = true → h.role = .wheel →
    s.odo.source = some h.src ∨ s.odo.source = none →
    s.odo.state = .lost ∨ s.odo.tag = some h.seq ∨ (∃ e ∈ s.odo.ring, e.fromTag = h.seq ∨ e.toTag = h.seq) →
    Completes (.odometryFrame h d) s fun t =>
      t.odo = { s.odo with
        state := .tracking, source := some h.src, baseline := some (d.left, d.right), tag := some h.seq, ring := [],
        lastDs := 0, stalled := some 50000 } ∧
      t.table.records = s.table.records ∧ t.table.tag = s.table.tag ∧
      (s.table.work ≠ .idle → t.table = { s.table with carryFlag := true }) ∧
      (s.table.work = .idle →
        t.table.work = .carrying { tableTag := s.table.tag, odoTag := some h.seq, ring := [],
                                   occupied := s.table.records.length } ∧
        t.table.workTimer = some (10 + 8 * s.table.records.length) ∧ t.table.carryFlag = false) ∧
      UnchangedBut [.odo, .table, .link, .peers, .clear, .startup] s t

/-- An odometry frame from the source in TRACKING or STALLED whose seq is new (R37 to R40): the wheel deltas wrap; a jump
of more than 2047 ticks, or a pose delta of more than 4 sub-steps, appends a break and sets last Δs to 0; any other
pose delta is appended as a motion; the ring keeps its newest 4 entries. -/
def Obligations.OdometryDeltaIsApplied : Prop :=
  ∀ (s : State) (h : Head) (d : OdometryData) (l r : Half) (tag : Seq), s.Accepts h → s.running = true →
    h.role = .wheel → s.odo.source = some h.src → s.odo.state ≠ .lost → s.odo.baseline = some (l, r) →
    s.odo.tag = some tag → tag ≠ h.seq → (∀ e ∈ s.odo.ring, e.fromTag ≠ h.seq ∧ e.toTag ≠ h.seq) →
    s.odo.ring.length ≤ 4 →
    Completes (.odometryFrame h d) s fun t =>
      let dl := (d.left - l).toInt
      let dr := (d.right - r).toInt
      let ds := roundDiv ((dl + dr) * s.setup.fd) 2048
      let dth := roundDiv ((dr - dl) * s.setup.fh) 4096
      let moves : Bool := dl.natAbs ≤ 2047 ∧ dr.natAbs ≤ 2047 ∧ dth.natAbs ≤ 4 * 128 ∧ ds.natAbs ≤ 4 * 255
      t.odo = { s.odo with
        state := .tracking, baseline := some (d.left, d.right), tag := some h.seq
        ring := s.odo.ring.drop (s.odo.ring.length - 3) ++
          [if moves then .motion tag h.seq ds dth else .brk tag h.seq]
        lastDs := if moves then ds else 0, stalled := some 50000 } ∧
      (t.table.carryFlag = true ∨ ∃ c, t.table.work = .carrying c ∧ c.odoTag = some h.seq) ∧
      t.table.records = s.table.records ∧
      UnchangedBut [.odo, .table, .link, .peers, .clear, .startup] s t

/-- An odometry frame of a WHEEL-role station that is not the source (R35): it is discarded, and the ROLE_CLASH hold of
the Odometry Unit starts, or starts again, with 1 s; the flag is raised while either holder's hold runs. -/
def Obligations.ForeignOdometryIsDiscarded : Prop :=
  ∀ (s : State) (h : Head) (d : OdometryData) (p : Pos), s.Accepts h → s.running = true → h.role = .wheel →
    s.odo.source = some p → p ≠ h.src →
    Completes (.odometryFrame h d) s fun t =>
      t.odo = { s.odo with clashHold := some 1000000 } ∧ t.table = s.table ∧ t.flags.roleClash = true ∧
      (∀ u : State, u.flags.roleClash = (u.odo.clashHold.isSome || u.peers.roleHold.isSome)) ∧
      UnchangedBut [.odo, .link, .peers, .clear, .startup] s t

/-- STALLED_TIMER_EXPIRY (R42): TRACKING becomes STALLED, and everything else of the Odometry Unit is kept. The
holds of ROLE_CLASH (R35, R154) and POS_CLASH (R153) end, and a flag is lowered when no holder holds it.
MISSING_PEER_TIMER_EXPIRY (R157): MISSING_PEER is judged over the expected entries, the own one left out. That an
expiry command does not look at the time left is the model's choice (log 3). -/
def Obligations.HoldsAndTimersRunOut : Prop :=
  (∀ s : State, s.running = true →
      (s.odo.stalled.isSome → s.odo.state = .tracking → Completes .stalledTimerExpiry s fun t =>
        t.odo = { s.odo with state := .stalled, stalled := none } ∧ t.flags.odoStalled = true ∧
        UnchangedBut [.odo, .clear, .link, .startup] s t) ∧
      (s.odo.clashHold.isSome → Completes .odoRoleClashHoldExpiry s fun t =>
        t.odo = { s.odo with clashHold := none } ∧ t.flags.roleClash = s.peers.roleHold.isSome ∧
        UnchangedBut [.odo, .clear, .link, .startup] s t)) ∧
  (∀ s : State,
      (s.receiving = true → s.peers.posHold.isSome → Completes .posClashHoldExpiry s fun t =>
        t.peers = { s.peers with posHold := none } ∧ t.flags.posClash = false ∧
        UnchangedBut [.peers, .clear, .link, .startup] s t) ∧
      (s.receiving = true → s.peers.roleHold.isSome → Completes .roleClashHoldExpiry s fun t =>
        t.peers = { s.peers with roleHold := none } ∧ t.flags.roleClash = s.odo.clashHold.isSome ∧
        UnchangedBut [.peers, .clear, .link, .startup] s t) ∧
      (s.running = true → s.peers.missingTimer.isSome → Completes .missingPeerTimerExpiry s fun t =>
        t.peers = { s.peers with missingTimer := none, missing := t.peers.missing } ∧
        (t.peers.missing = true ↔ ∃ p : Pos, p ≠ s.startup.pos ∧ s.peers.entries[p].expected = true ∧
          s.peers.entries[p].state ≠ .alive) ∧
        t.flags.missingPeer = t.peers.missing ∧ UnchangedBut [.peers, .clear, .link, .startup] s t))

/-- The sub-steps of a pose delta (R39): there are max(1, ceil(|Δθ| / 128), ceil(|Δs| / 255)) of them; they add up to it,
and none moves more than 255 mm or turns more than 128 angle units. -/
def Obligations.SubStepsAddUp : Prop :=
  ∀ ds dth : Int,
    (subSteps ds dth).length = max 1 (max ((dth.natAbs + 127) / 128) ((ds.natAbs + 254) / 255)) ∧
    ((subSteps ds dth).map Prod.fst).sum = ds ∧ ((subSteps ds dth).map Prod.snd).sum = dth ∧
    ∀ q ∈ subSteps ds dth, q.1.natAbs ≤ 255 ∧ q.2.natAbs ≤ 128

/-! ### The carry, age ticks and reconciliation -/

/-- CARRY_END (R77, R78, R82, R83, R84, R86): the course by the first row that holds; a Move carries every record
through the path's sub-steps and judges it once; a Degrade halves every confidence. The Clearance Unit recomputes on
the new table, and the next work is taken. -/
def Obligations.CarryEndTakesItsCourse : Prop :=
  ∀ (s : State) (c : CarryInputs), s.running = true → s.table.work = .carrying c → s.TableOk →
    Completes .carryEnd s fun t =>
      (c.tableTag = none → t.table.tag = c.odoTag ∧ ∀ i, t.at i = s.at i) ∧
      (∀ τ, c.tableTag = some τ → c.odoTag = none → t.table.tag = some τ ∧ ∀ i, t.at i = s.at i) ∧
      (∀ τ, c.tableTag = some τ → c.odoTag = some τ → c.ring ≠ [] →
        t.table.tag = some τ ∧ ∀ i, t.at i = s.at i) ∧
      (∀ (τ o : Seq) (before path : List RingEntry), c.tableTag = some τ → c.odoTag = some o → o ≠ τ →
        c.ring = before ++ path → (∀ e ∈ before, e.fromTag ≠ τ) → (∃ e ∈ path.head?, e.fromTag = τ) →
        (∀ e ∈ path, e.isBreak = false) →
        t.table.tag = some o ∧ ∀ i, t.at i = (s.at i).bind fun r =>
          let p := carryPointAll (path.flatMap RingEntry.steps) (r.x, r.y)
          if max p.1.natAbs p.2.natAbs ≤ 1500 then some { r with x := p.1, y := p.2 }
          else if r.kind = .cliff ∧ (r.check = some .pending ∨ r.check = some .deferred) then
            some { r with x := max (-2047) (min 2047 p.1), y := max (-2047) (min 2047 p.2) }
          else none) ∧
      (∀ τ o, c.tableTag = some τ → c.odoTag = some o → (o = τ → c.ring = []) →
        (∀ before path, c.ring = before ++ path → (∀ e ∈ before, e.fromTag ≠ τ) →
          (∃ e ∈ path.head?, e.fromTag = τ) → ∃ e ∈ path, e.isBreak = true) →
        t.table.tag = some o ∧ ∀ i, t.at i = (s.at i).bind fun r =>
          if r.conf / 2 = 0 ∧ ¬ (r.kind = .cliff ∧ (r.check = some .pending ∨ r.check = some .deferred)) then none
          else some { r with conf := r.conf / 2 }) ∧
      t.table.Ordered ∧ WorkTaken s t ∧
      t.clear.ahead = clearAhead s.setup s.peers.mode t.table.records ∧
      t.clear.behind = clearBehind s.setup s.peers.mode t.table.records ∧
      (∀ h, s.link.handling = some h → h.wait = .finish → ∃ g, t.link.handling = some g ∧ g.wait = .no) ∧
      OnlyVerdictsAdded s t ∧ UnchangedBut [.table, .link, .clear, .startup] s t

/-- AGE_TIMER_EXPIRY (R69): TABLE_FULL is lowered and a tick is gathered; at an idle Table Manager it is applied at
once (its application then takes its time, log 6). AGE_TICKS_APPLIED (R70): ages rise, check fields are put right,
and the records that meet a retirement condition are retired in silence; the report ages rise (R96). That an expiry
command does not look at the time left is the model's choice (log 3). -/
def Obligations.AgeTicksAreApplied : Prop :=
  ∀ s : State, s.running = true →
    (s.table.ageTimer.isSome → Completes .ageTimerExpiry s fun t =>
      t.table.full = false ∧ t.table.ageTimer = some 100000 ∧ t.table.records = s.table.records ∧
      (s.table.work ≠ .idle → t.table.work = s.table.work ∧ t.table.pendingAge = min 255 (s.table.pendingAge + 1)) ∧
      (s.table.work = .idle → s.table.carryFlag = false → s.table.pendingAge = 0 →
        t.table.work = .aging 1 ∧ t.table.pendingAge = 0 ∧
        t.table.workTimer = some (2 + s.table.records.length)) ∧
      UnchangedBut [.table, .link, .clear, .startup] s t) ∧
    (∀ n, s.table.work = .aging n → s.TableOk → Completes .ageTicksApplied s fun t =>
      (∀ i : Slot, t.at i = (s.at i).bind fun r =>
        let age := min 255 (r.age + n)
        let check :=
          if (r.check = some .pending ∧ ¬ (s.report.phase ≠ .idle ∧ s.report.outstanding = some i)) ∨
              (r.check = some .deferred ∧ s.report.deferred ≠ some i) then some .none
          else r.check
        if check ≠ some .pending ∧ check ≠ some .deferred ∧
            ((r.conf < 8 ∧ 8 ≤ age) ∨ (8 ≤ r.conf ∧ r.kind.isDock = false ∧ 120 ≤ age) ∨
              (8 ≤ r.conf ∧ r.kind.isDock = true ∧ 250 ≤ age) ∨ 1500 < max r.x.natAbs r.y.natAbs) then none
        else some { r with age := age, check := check }) ∧
      (∀ i : Slot, t.report.ages[i] = min 255 (s.report.ages[i] + n)) ∧
      t.report = { s.report with ages := t.report.ages } ∧ t.table.tag = s.table.tag ∧ t.table.Ordered ∧
      WorkTaken s t ∧ OnlyVerdictsAdded s t ∧ UnchangedBut [.table, .report, .link, .clear, .startup] s t)

/-- Reconciliation's outcomes in their order (R88 to R92): as is, with the point unchanged (R89); chained along the
ring's motions (R90); ahead, with the point unchanged and a confidence lowered by 1 but not below 1 (R91); failed. -/
def Obligations.ReconciliationTakesItsOrder : Prop :=
  ∀ s : State,
    s.reconcile none = .asIs ∧
    (∀ t, s.table.tag = none ∨ s.odo.state = .lost ∨ s.table.tag = some t → s.reconcile (some t) = .asIs) ∧
    (∀ x y, Recon.asIs.point x y = (x, y)) ∧ (∀ c, Recon.asIs.lower c = c) ∧
    (∀ (t tableTag : Seq), s.table.tag = some tableTag → s.odo.state ≠ .lost → t ≠ tableTag →
      (∀ path, ChainPath s.odo.ring t tableTag path →
        s.reconcile (some t) = .chained path ∧
        ∀ x y, (s.reconcile (some t)).point x y = carryPointAll (path.flatMap RingEntry.steps) (x, y)) ∧
      ((∀ path, ¬ ChainPath s.odo.ring t tableTag path) →
        (∀ x y, (s.reconcile (some t)).point x y = (x, y)) ∧
        s.reconcile (some t) =
          if 1 ≤ (t - tableTag).toNat ∧ (t - tableTag).toNat ≤ 8 then .ahead else .failed)) ∧
    (∀ c, 1 ≤ c → Recon.ahead.lower c = max 1 (c - 1))

/-! ### The service of items -/

/-- SERVE_OWN_OBSERVATION (R54, R56, R57, R58, R60): the observation, at its reconciled point, makes no record beyond
1500 mm; it merges into the nearest record of its kind within the kind's radius, and otherwise creates one. A WALL
observation first sets the clear run of every own-WALL OBSTACLE to 0. -/
def Obligations.OwnObservationsMergeOrCreate : Prop :=
  ∀ (s : State) (kind : Hazard) (origin : Origin) (x y : Int) (tag : Option Seq), s.running = true →
    kind.isObstacle = true ∨ kind.isDock = true → s.table.work = .serving (.own kind origin x y tag) → s.TableOk →
    Completes .serveOwnObservation s fun t =>
      let rc := s.reconcile tag
      let p := rc.point x y
      let rs := if kind = .obstacle ∧ origin = .wall then
          s.table.records.map fun r => if r.isOwnWall then { r with clearRun := some 0 } else r
        else s.table.records
      let radius := if kind = .obstacle then 40 else 200
      (1500 < max p.1.natAbs p.2.natAbs → ∀ i, t.coreAt i = (recordAt rs i).map Record.core) ∧
      (max p.1.natAbs p.2.natAbs ≤ 1500 →
        (∀ r, NearestOf rs (fun q => q.kind.sameKind kind) p.1 p.2 radius r →
          Merged (ownMerged kind origin p (rc.lower (if kind = .obstacle then 3 else 2)) r) r rs t) ∧
        (NoneNear rs (fun q => q.kind.sameKind kind) p.1 p.2 radius →
          Created (ownCreated kind origin p
            (rc.lower (if origin = .bump then 15 else if kind = .obstacle then 3 else 2))) rs s t)) ∧
      t.table.tag = s.table.tag ∧ t.table.Ordered ∧
      UnchangedBut [.table, .report, .link, .clear, .startup] s t

/-- SERVE_OWN_CLIFF (R59, R99, R100): the CONFIRMED dark RUG within 30 mm takes the observation and the accepted class
becomes DARK_RUG; else the nearest CLIFF within 30 mm takes it; else a CLIFF is created, reported, and checked,
deferred or forced by the Report Handler's state. The ADD frame carries the table tag, as R93 says (log 32). -/
def Obligations.OwnCliffsAreServed : Prop :=
  ∀ (s : State) (origin : Origin) (x y : Int) (tag : Option Seq), s.running = true →
    s.table.work = .serving (.own .cliff origin x y tag) → s.TableOk → s.checkGone = false → origin ≠ .bump →
    Completes .serveOwnCliff s fun t =>
      let rc := s.reconcile tag
      let p := rc.point x y
      let rs := s.table.records
      let isRug := fun q : Record => q.kind = .rug .dark ∧ 8 ≤ q.conf
      (1500 < max p.1.natAbs p.2.natAbs → ∀ i, t.coreAt i = s.coreAt i) ∧
      (max p.1.natAbs p.2.natAbs ≤ 1500 →
        (∀ r, NearestOf rs (fun q => decide (isRug q)) p.1 p.2 30 r →
          Merged (ownMerged (.rug .dark) .floor p (rc.lower 3) r) r rs t ∧
          t.floor = { s.floor with accepted := .darkRug, runClass := none, runCount := 0, repeats := 0 }) ∧
        (NoneNear rs (fun q => decide (isRug q)) p.1 p.2 30 →
          t.floor = s.floor ∧
          (∀ r, NearestOf rs (fun q => q.kind.isCliff) p.1 p.2 30 r →
            Merged (ownMerged .cliff origin p (rc.lower 3) r) r rs t) ∧
          (NoneNear rs (fun q => q.kind.isCliff) p.1 p.2 30 →
            let forced : Bool := s.report.phase ≠ .idle ∧ s.report.deferred ≠ none
            let c := ownCreated .cliff origin p (if forced then 8 else rc.lower 3)
            Created c rs s t ∧
            ∀ i, TakesSlot s.table.good rs (max p.1.natAbs p.2.natAbs) i →
              (t.at i).map Record.reported = some true ∧
              (s.link.queue.length < 4 → ∃ e ∈ t.link.queue, e.urgent = true ∧ ∃ d, e.payload = .hazard d ∧
                d.action = .add ∧ d.kind = .cliff ∧ d.id = i ∧ d.x = BitVec.ofInt 16 p.1 ∧
                d.y = BitVec.ofInt 16 p.2 ∧ d.conf.toNat = c.2.2.1.1 ∧ d.tag = s.table.tag) ∧
              (s.report.phase = .idle → s.table.fifo.length < 8 →
                (t.at i).bind Record.check = some .pending ∧ t.report.outstanding = some i ∧
                t.report.checkId = some s.report.nextId ∧ t.report.nextId = s.report.nextId + 1 ∧
                (s.awaitedSet ≠ [] → t.report.phase = .awaiting ∧ t.report.checkTimer = some 20000 ∧
                  t.report.awaited = s.awaitedSet) ∧
                (s.awaitedSet = [] → t.report.phase = .resolved)) ∧
              (s.report.phase ≠ .idle → s.report.deferred = none →
                (t.at i).bind Record.check = some .deferred ∧ t.report.deferred = some i) ∧
              (forced = true → (t.at i).bind Record.check = some .none ∧
                t.link.counts.checkForced = satInc s.link.counts.checkForced)))) ∧
      t.table.Ordered ∧ UnchangedBut [.floor, .table, .report, .link, .clear, .startup] s t

/-- SERVE_FLOOR_EVIDENCE (R61): every CLIFF within 30 mm of the reconciled point is retired; a RUG observation then
merges or creates, and a floor-clear observation does not. A retired CLIFF whose check is outstanding cancels it, a
waiting outcome leaves the FIFO, and the candidate is promoted or dropped; a retired candidate is dropped (R72, R108,
R109). SERVE_WALL_CLEAR (R62): the clear run of every own-WALL
OBSTACLE in the beam rises by 1, and at 3 it is retired; no other record changes. -/
def Obligations.OwnClearingRetiresRecords : Prop :=
  (∀ (s : State) (x y : Int) (tag : Option Seq), s.running = true → s.TableOk →
      let rc := s.reconcile tag
      let p := rc.point x y
      let rs := s.table.records.filter fun r => !(r.kind.isCliff && decide (cheb r.x r.y p.1 p.2 ≤ 30))
      let still := fun d : Slot => (recordAt rs d).any fun q => q.kind = .cliff ∧ q.check = some .deferred
      let checks := fun t : State =>
        (∀ o, s.report.phase ≠ .idle → s.report.outstanding = some o → s.hasMark o .pending = true →
          recordAt rs o = none → CheckEnds still s t) ∧
        (∀ o d, s.report.outstanding = some o → s.report.deferred = some d → recordAt rs o ≠ none →
          s.hasMark o .pending = true → still d = false →
          t.report.deferred = none ∧ t.report.outstanding = some o ∧ t.report.phase = s.report.phase)
      (s.table.work = .serving (.floorClear x y tag) → Completes .serveFloorEvidence s fun t =>
        (∀ i, t.coreAt i = (recordAt rs i).map Record.core) ∧ t.table.Ordered ∧ checks t ∧
        UnchangedBut [.table, .report, .link, .clear, .startup] s t) ∧
      (∀ shade origin, origin ≠ .bump → s.table.work = .serving (.own (.rug shade) origin x y tag) →
        Completes .serveFloorEvidence s fun t =>
          (1500 < max p.1.natAbs p.2.natAbs → ∀ i, t.coreAt i = (recordAt rs i).map Record.core) ∧
          (max p.1.natAbs p.2.natAbs ≤ 1500 →
            (∀ r, NearestOf rs (fun q => q.kind.isRug) p.1 p.2 60 r →
              Merged (ownMerged (.rug shade) origin p (rc.lower 3) r) r rs t) ∧
            (NoneNear rs (fun q => q.kind.isRug) p.1 p.2 60 →
              Created (ownCreated (.rug shade) origin p (rc.lower 3)) rs s t)) ∧
          t.table.Ordered ∧ checks t ∧ UnchangedBut [.table, .report, .link, .clear, .startup] s t)) ∧
  (∀ (s : State) (mx my ax ay : Int) (tag : Option Seq), s.running = true → s.TableOk →
      s.table.work = .serving (.wallClear mx my ax ay tag) →
      Completes .serveWallClear s fun t =>
        (∀ i, t.coreAt i = ((s.at i).bind fun r =>
          let p := roundDiv ((r.x - mx) * ax + (r.y - my) * ay) 16384
          let q := roundDiv ((r.y - my) * ax - (r.x - mx) * ay) 16384
          if r.kind = .obstacle ∧ r.own = some .wall ∧ 20 ≤ p ∧ p ≤ 600 ∧ q.natAbs ≤ 40 then
            if r.clearRun = some 2 then none else some { r with clearRun := r.clearRun.map (· + 1) }
          else some r).map Record.core) ∧
        t.table.tag = s.table.tag ∧ t.table.Ordered ∧
        UnchangedBut [.table, .report, .link, .clear, .startup] s t)

/-- SERVE_PEER_ADD (R63, R91, R92): a report that fails reconciliation or lies beyond 1500 mm is stale; otherwise its key
leaves its holder, and it merges into the nearest record of its kind, or creates one. -/
def Obligations.PeerAddsMergeOrCreate : Prop :=
  ∀ (s : State) (r : PeerReport), s.running = true → r.action = .add → s.table.work = .serving (.report r) →
    s.TableOk →
    Completes .servePeerAdd s fun t =>
      let rc := s.reconcile r.tag
      let p := rc.point r.x r.y
      let k : Key := { src := r.src, id := r.id }
      let c := rc.lower r.conf
      let rs := s.table.records.filterMap (Record.without k)
      let radius := match r.kind with
        | .cliff => 30
        | .rug _ => 60
        | .obstacle => 40
        | .dock _ => 200
      (rc = .failed ∨ 1500 < max p.1.natAbs p.2.natAbs →
        t.link.counts.staleReport = satInc s.link.counts.staleReport ∧ ∀ i, t.coreAt i = s.coreAt i) ∧
      (rc ≠ .failed → max p.1.natAbs p.2.natAbs ≤ 1500 →
        t.link.counts.staleReport = s.link.counts.staleReport ∧
        (∀ q, NearestOf rs (fun q => q.kind.sameKind r.kind) p.1 p.2 radius q →
          Merged (r.kind, (q.x, q.y), (min 15 (max q.conf (c - 1) + 1), 0), q.own,
            q.keys.drop (q.keys.length - 3) ++ [k], q.clearRun) q rs t) ∧
        (NoneNear rs (fun q => q.kind.sameKind r.kind) p.1 p.2 radius →
          Created (r.kind, p, (max 1 (c - 1), 0), none, [k], none) rs s t)) ∧
      t.table.tag = s.table.tag ∧ t.table.Ordered ∧
      UnchangedBut [.table, .report, .link, .clear, .startup] s t

/-- SERVE_PEER_UPDATE (R64, R72, R108): the record that holds the key takes the reported kind; a record whose check ends
with its kind and which lies beyond 1500 mm is retired; an outstanding check so ended is cancelled, and the candidate
promoted or dropped; with no holder the report is handled as an ADD. SERVE_PEER_WITHDRAW (R65): the key leaves the peer
origins of the record that holds it, and a record then left with no origin is retired; with no holder the table's
records, the report state, the link and the clearance state are as they were, the check marks of the records being
those of the Report Handler's check. The report's point and tag are not used. -/
def Obligations.PeerUpdatesAndWithdrawsActOnTheirKey : Prop :=
  (∀ (s : State) (r : PeerReport), s.running = true → r.action = .update → s.table.work = .serving (.report r) →
      s.TableOk →
      let k : Key := { src := r.src, id := r.id }
      Completes .servePeerUpdate s fun t =>
        (s.reconcile r.tag = .failed →
          t.link.counts.staleReport = satInc s.link.counts.staleReport ∧ ∀ i, t.coreAt i = s.coreAt i) ∧
        (∀ q ∈ s.table.records, k ∈ q.keys → s.reconcile r.tag ≠ .failed →
          let c := (s.reconcile r.tag).lower r.conf
          t.coreAt q.slot =
            (if q.checking = true ∧ r.kind ≠ .cliff ∧ 1500 < max q.x.natAbs q.y.natAbs then none
             else some (r.kind, (q.x, q.y), (max q.conf (c - 1), 0), q.own, q.keys,
               if r.kind = .obstacle ∧ q.own = some .wall then some (q.clearRun.getD 0) else none)) ∧
          (s.report.phase ≠ .idle → s.report.outstanding = some q.slot → q.kind = .cliff → q.check = some .pending →
            r.kind ≠ .cliff → CheckEnds (fun d => d ≠ q.slot ∧ s.hasMark d .deferred) s t) ∧
          ∀ j, j ≠ q.slot → t.coreAt j = s.coreAt j) ∧
        ((∀ q ∈ s.table.records, k ∉ q.keys) →
          exec .servePeerAdd (s.setTable { s.table with work := .serving (.report { r with action := .add }) }) =
            .next t) ∧
        t.table.tag = s.table.tag ∧ t.table.Ordered ∧
        UnchangedBut [.table, .report, .link, .clear, .startup] s t) ∧
  (∀ (s : State) (r : PeerReport), s.running = true → r.action = .withdraw → s.table.work = .serving (.report r) →
      s.TableOk →
      let k : Key := { src := r.src, id := r.id }
      Completes .servePeerWithdraw s fun t =>
        (∀ i, t.coreAt i = ((s.at i).bind (Record.without k)).map Record.core) ∧
        (∀ i q, s.at i = some q → k ∈ q.keys → q.own = none → (∀ m ∈ q.keys, m = k) → t.at i = none) ∧
        ((∀ q ∈ s.table.records, k ∉ q.keys) → s.checkGone = false → t.table.records = s.table.records ∧
          ((∀ d, s.report.deferred = some d → s.hasMark d .deferred = true) →
            t.report = s.report ∧ t.link.queue = s.link.queue ∧ t.link.counts = s.link.counts ∧
            t.clear = s.clear ∧ t.startup = s.startup)) ∧
        t.link.counts.staleReport = s.link.counts.staleReport ∧ t.table.Ordered ∧
        UnchangedBut [.table, .report, .link, .clear, .startup] s t)

/-- SERVE_CHECK_OUTCOME (R71, R72, R106): an outcome acts on a CLIFF whose check is PENDING and is dropped
otherwise; either way it ends the check, and the deferred candidate is promoted. That a record so retired makes no
update event is the model's reading (log 10). -/
def Obligations.CheckOutcomesAreApplied : Prop :=
  ∀ (s : State) (o : Outcome) (slot : Slot), s.running = true → s.table.work = .serving (.outcome o slot) →
    s.TableOk →
    Completes .serveCheckOutcome s fun t =>
      (∀ r, s.at slot = some r → r.kind = .cliff → r.check = some .pending →
        t.coreAt slot =
          (if 1500 < max r.x.natAbs r.y.natAbs then none
           else some (if o = .overrule then .rug .dark else .cliff, (r.x, r.y), (max r.conf 8, r.age), r.own,
             r.keys, none)) ∧
        (t.at slot).bind Record.check =
          (if 1500 < max r.x.natAbs r.y.natAbs ∨ o = .overrule then none else some .none) ∧
        t.floor = (if o = .overrule then
          { s.floor with accepted := .darkRug, runClass := none, runCount := 0, repeats := 0 } else s.floor) ∧
        (r.reported = true → max r.x.natAbs r.y.natAbs ≤ 1500 → s.link.queue.length < 3 →
          ∃ e ∈ t.link.queue, e.urgent = true ∧ ∃ d, e.payload = .hazard d ∧ d.action = .update ∧ d.id = slot ∧
            d.kind = if o = .overrule then .rug .dark else .cliff)) ∧
      (s.hasMark slot .pending = false → t.coreAt slot = s.coreAt slot ∧ t.floor = s.floor) ∧
      (∀ j, j ≠ slot → t.coreAt j = s.coreAt j) ∧
      ((∀ d, s.report.deferred = some d → s.hasMark d .deferred = false) →
        t.report.phase = .idle ∧ t.report.outstanding = none ∧ t.report.deferred = none ∧
        t.report.awaited = [] ∧ t.report.answers = [] ∧ t.report.checkTimer = none) ∧
      (∀ d, s.report.deferred = some d → s.hasMark d .deferred = true → s.table.fifo.length < 8 →
        t.hasMark d .pending = true ∧ t.report.outstanding = some d ∧ t.report.deferred = none ∧
        t.report.checkId = some s.report.nextId ∧ t.report.nextId = s.report.nextId + 1 ∧
        t.report.phase = (if s.awaitedSet = [] then .resolved else .awaiting)) ∧
      t.table.Ordered ∧ UnchangedBut [.floor, .table, .report, .link, .clear, .startup] s t

/-- SERVE_LOOKUP (R73, R92, R113): the nearest record within 30 mm that is not seen by the requester alone answers, and
the answer goes out as urgent; the table does not change. -/
def Obligations.LookupsAreAnswered : Prop :=
  ∀ (s : State) (dest : Pos) (id : BitVec 4) (x y : Int) (tag : Option Seq), s.running = true →
    s.table.work = .serving (.lookup dest id x y tag) → s.link.queue.length < 6 → s.TableOk →
    Completes .serveLookup s fun t =>
      let rc := s.reconcile tag
      let p := rc.point x y
      let passes := fun r : Record => !(r.own.isNone && !r.keys.isEmpty && r.keys.all fun k => k.src = dest)
      let answer := fun a (c : Nat) =>
        Queued (.checkAnswer { dest := dest, id := id, answer := a, conf := BitVec.ofNat 4 c }) true t
      (rc = .failed → answer .none 0 ∧ t.link.counts.staleReport = satInc s.link.counts.staleReport) ∧
      (rc ≠ .failed → t.link.counts = s.link.counts ∧
        (∀ r, NearestOf s.table.records passes p.1 p.2 30 r →
          (r.kind = .cliff → answer .cliff r.conf) ∧
          (r.kind = .rug .dark → 8 ≤ r.conf → answer .darkRug r.conf) ∧
          (r.kind ≠ .cliff → ¬ (r.kind = .rug .dark ∧ 8 ≤ r.conf) → answer .none 0)) ∧
        (NoneNear s.table.records passes p.1 p.2 30 → answer .none 0)) ∧
      t.table.records = s.table.records ∧ t.table.tag = s.table.tag ∧ WorkTaken s t ∧
      UnchangedBut [.table, .link] s t

/-! ### Answers, reports and requests -/

/-- CHECK_ANSWER (R102): the cases of the table in R102; a recorded answer that empties the awaited set resolves the
check, and the outcome enters the FIFO. CHECK_TIMEOUT (R104): the check resolves by the answers so far. An outcome that
a full FIFO discards ends the check and drops the candidate (R53, R105). That an expiry command does not look at the
time left is the model's choice (log 3). -/
def Obligations.ChecksResolveByTheirAnswers : Prop :=
  (∀ (s : State) (h : Head) (d : CheckAnswerData), s.Accepts h →
      let outcome := fun (as : List AnswerSoFar) =>
        if ∃ a ∈ as, a.answer = .cliff then Outcome.confirm
        else if ∃ a ∈ as, a.answer = .darkRug ∧ 8 ≤ a.conf then .overrule
        else .confirm
      let open' : Prop := d.dest = s.startup.pos ∧ s.running = true ∧ s.report.phase = .awaiting ∧
        s.report.checkId = some d.id
      Completes (.checkAnswer h d) s fun t =>
        (d.dest ≠ s.startup.pos → t.report = s.report ∧ t.link.counts.lateAnswer = s.link.counts.lateAnswer) ∧
        (open' → h.src ∈ s.report.awaited →
          let rest := s.report.awaited.filter (· ≠ h.src)
          let answers := s.report.answers ++ [{ src := h.src, answer := d.answer, conf := d.conf.toNat }]
          t.link.counts.lateAnswer = s.link.counts.lateAnswer ∧
          (rest ≠ [] → t.report = { s.report with awaited := rest, answers := answers } ∧ t.table = s.table) ∧
          (∀ slot, rest = [] → s.report.outstanding = some slot →
            (s.table.fifo.length < 8 ∨ (∃ x ∈ s.table.fifo, x.nonCliff = true) →
              t.report =
                { s.report with awaited := [], answers := answers, phase := .resolved, checkTimer := none }) ∧
            (8 ≤ s.table.fifo.length → (∀ x ∈ s.table.fifo, x.nonCliff = false) →
              t.report.AtRest ∧ t.flags.checking = false) ∧
            ItemEntered (.outcome (outcome answers) slot) s t)) ∧
        (open' → h.src ∉ s.report.awaited → (∃ a ∈ s.report.answers, a.src = h.src) →
          t.report = s.report ∧ t.link.counts.lateAnswer = s.link.counts.lateAnswer) ∧
        (open' → h.src ∉ s.report.awaited → (∀ a ∈ s.report.answers, a.src ≠ h.src) →
          t.report = s.report ∧ t.link.counts.lateAnswer = satInc s.link.counts.lateAnswer) ∧
        (d.dest = s.startup.pos → s.running = false ∨ s.report.phase ≠ .awaiting ∨ s.report.checkId ≠ some d.id →
          t.report = s.report ∧ t.link.counts.lateAnswer = satInc s.link.counts.lateAnswer) ∧
        UnchangedBut [.report, .table, .odo, .peers, .link, .clear, .startup] s t) ∧
  (∀ (s : State) (slot : Slot), s.running = true → s.report.phase = .awaiting → s.report.checkTimer.isSome →
      s.report.outstanding = some slot →
      Completes .checkTimeout s fun t =>
        let cliff : Bool := ∃ a ∈ s.report.answers, a.answer = .cliff
        let rug : Bool := ∃ a ∈ s.report.answers, a.answer = .darkRug ∧ 8 ≤ a.conf
        (s.table.fifo.length < 8 ∨ (∃ x ∈ s.table.fifo, x.nonCliff = true) →
          t.report = { s.report with phase := .resolved, checkTimer := none }) ∧
        (8 ≤ s.table.fifo.length → (∀ x ∈ s.table.fifo, x.nonCliff = false) →
          t.report.AtRest ∧ t.flags.checking = false) ∧
        ItemEntered (.outcome (if !cliff && rug then .overrule else .confirm) slot) s t ∧
        t.table.records = s.table.records ∧ UnchangedBut [.report, .table, .link, .clear, .startup] s t)

/-- HAZARD_REPORT and CHECK_REQUEST (R53, R97, R112): in RUN, from role SENSE or WHEEL, they enter the FIFO as items; at
a full FIFO a report is discarded and counted, and a request is answered NONE; in any other case the table is left
alone. -/
def Obligations.ReportsAndRequestsEnterTheFifo : Prop :=
  ∀ (s : State) (h : Head), s.Accepts h →
    (∀ d : HazardData, (Payload.hazard d).wf = true →
      (s.running = true → h.role = .sense ∨ h.role = .wheel → Completes (.hazardReport h d) s fun t =>
        ItemEntered (.report { action := d.action, src := h.src, id := d.id, kind := d.kind, x := d.x.toInt,
                               y := d.y.toInt, conf := d.conf.toNat, tag := d.tag }) s t ∧
        (s.table.work ≠ .idle → s.table.fifo.length = 8 →
          t.table = s.table ∧ t.link.counts.tableDiscard = satInc s.link.counts.tableDiscard) ∧
        t.table.records = s.table.records ∧
        UnchangedBut [.table, .odo, .peers, .link, .clear, .startup] s t) ∧
      (s.running = false ∨ h.role = .controller ∨ h.role = .other → Completes (.hazardReport h d) s fun t =>
        UnchangedBut [.odo, .peers, .link, .clear, .startup] s t)) ∧
    (∀ d : CheckRequestData,
      (s.running = true → h.role = .sense ∨ h.role = .wheel → Completes (.checkRequest h d) s fun t =>
        ItemEntered (.lookup h.src d.id d.x.toInt d.y.toInt d.tag) s t ∧
        (s.table.work ≠ .idle → s.table.fifo.length = 8 → s.link.queue.length < 5 →
          t.table = s.table ∧ Queued (.checkAnswer { dest := h.src, id := d.id, answer := .none, conf := 0 }) true t) ∧
        t.table.records = s.table.records ∧
        UnchangedBut [.table, .odo, .peers, .link, .clear, .startup] s t) ∧
      (s.running = false ∨ h.role = .controller ∨ h.role = .other → Completes (.checkRequest h d) s fun t =>
        UnchangedBut [.odo, .peers, .link, .clear, .startup] s t))

/-! ### Peers and received frames -/

/-- A frame of any kind that is taken in (R150, R151, R152, R154, R161, R165, R174): it occupies the first buffer and is
handled, the line is free and the routine yield ends, and its source's entry goes ALIVE with its role and seq; a role
clash starts the hold. In RUN a frame of any kind gives an absent odometry source its station, when its head role is
WHEEL (R34), and a frame from the source that is of another head role, or a boot status frame, makes the Odometry Unit
LOST (R42); odometry frames, completing setup parts and taken rejoin orders act further on it. Verdicts, health reports
and boot status frames do nothing more, but that MISSING_PEER is judged (R157). -/
def Obligations.AcceptedFramesUpdateTheirPeer : Prop :=
  ∀ (s : State) (f : Frame), s.Takes f →
    (Completes (frameCommand f) s fun t =>
      EntryUpdated f s t ∧ t.link.rx = [f] ∧ (∃ h, t.link.handling = some h ∧ h.timer = 8) ∧
      t.link.yield = false ∧ (s.link.onLine = none → t.link.line = .idle 0) ∧
      (s.RoleClashes f → t.peers.roleHold = some 1000000) ∧
      (¬ s.RoleClashes f → t.peers.roleHold = s.peers.roleHold) ∧
      t.peers.posHold = s.peers.posHold ∧ t.link.counts.duplicate = s.link.counts.duplicate ∧
      t.link.counts.overrun = s.link.counts.overrun ∧ t.link.counts.malformed = s.link.counts.malformed) ∧
    (f.payload.isOdometry = false → (∀ d, f.payload = .setup d → s.running = true) →
      (∀ p, f.payload = .rejoin p → p ≠ s.startup.pos ∨ f.head.role ≠ .controller) →
      Completes (frameCommand f) s fun t =>
        (s.running = false → t.odo = s.odo) ∧
        (s.running = true → s.odo.source = some f.head.src →
          (f.head.role ≠ .wheel → t.odo.IsLost ∧ t.SourceRenewed) ∧
          (f.head.role = .wheel → f.payload.isBoot = true → t.odo.IsLost ∧ t.odo.source = some f.head.src) ∧
          (f.head.role = .wheel → f.payload.isBoot = false → t.odo = s.odo)) ∧
        (s.running = true → s.odo.source = none → f.head.role = .wheel →
          t.odo = { s.odo with source := some f.head.src }) ∧
        (s.odo.source ≠ some f.head.src → s.odo.source ≠ none ∨ f.head.role ≠ .wheel → t.odo = s.odo)) ∧
    (∀ c : Instr, c = frameCommand f →
      ((∃ d, c = .verdict f.head d) ∨ (∃ d, c = .healthReport f.head d) ∨ (∃ d, c = .bootStatus f.head d)) →
      Completes c s fun t =>
        (s.running = true → s.peers.missingTimer = none →
          (t.peers.missing = true ↔ ∃ p : Pos, p ≠ s.startup.pos ∧ t.peers.entries[p].expected = true ∧
            t.peers.entries[p].state ≠ .alive)) ∧
        UnchangedBut [.peers, .odo, .link, .clear, .startup] s t)

/-- What becomes of a received frame that is not taken in at once (R153, R174, R175, R179): a station that does not
receive only follows the line; a full pair of buffers is an overrun; a second frame waits in its buffer; a repeated
seq is a duplicate; a frame from the own position starts the POS_CLASH hold and updates no entry.
FRAME_HANDLING_END (R174): the buffer is freed, and a second buffered frame is handed on. -/
def Obligations.FramesAreBufferedInOrder : Prop :=
  (∀ (s : State) (f : Frame), f.payload.wf = true →
      Completes (frameCommand f) s fun t =>
        (s.receiving = false → UnchangedBut [.link] s t ∧ t.link.rx = s.link.rx ∧
          t.link.handling = s.link.handling ∧ t.link.counts = s.link.counts) ∧
        (s.receiving = true → 2 ≤ s.link.rx.length →
          UnchangedBut [.link] s t ∧ t.link.rx = s.link.rx ∧
          t.link.counts = { s.link.counts with overrun := satInc s.link.counts.overrun }) ∧
        (s.receiving = true → s.link.rx.length = 1 →
          UnchangedBut [.link] s t ∧ t.link.rx = s.link.rx ++ [f] ∧ t.link.handling = s.link.handling ∧
          t.link.counts = s.link.counts) ∧
        (s.receiving = true → s.link.rx = [] → s.isRepeat f = true →
          UnchangedBut [.link] s t ∧ t.link.rx = [] ∧ t.link.handling = none ∧
          t.link.counts = { s.link.counts with duplicate := satInc s.link.counts.duplicate }) ∧
        (s.receiving = true → s.link.rx = [] → s.isRepeat f = false → f.head.src = s.startup.pos →
          t.peers.posHold = some 1000000 ∧ t.flags.posClash = true ∧ t.link.rx = [f] ∧
          (f.payload.isBoot = false → t.peers.entries = s.peers.entries) ∧ OthersKept f.head.src s t ∧
          UnchangedBut [.peers, .link, .clear, .startup] s t) ∧
        (s.onLink = true → s.link.onLine = none → t.link.line = .idle 0 ∧ t.link.yield = false)) ∧
  (∀ (s : State) (h : Handling) (g : Frame) (rest : List Frame), s.receiving = true → s.link.handling = some h →
      h.wait = .no → s.link.rx = g :: rest →
      Completes .frameHandlingEnd s fun t =>
        (rest = [] → t.link = { s.link with rx := [], handling := none } ∧ UnchangedBut [.link] s t) ∧
        (∀ f, rest = [f] → f.head.src ≠ s.startup.pos → s.isRepeat f = false →
          EntryUpdated f s t ∧ t.link.rx = [f] ∧ ∃ k, t.link.handling = some k ∧ k.timer = 8) ∧
        (∀ f, rest = [f] → s.isRepeat f = true →
          t.link.rx = [] ∧ t.link.handling = none ∧ t.link.counts.duplicate = satInc s.link.counts.duplicate ∧
          UnchangedBut [.link] s t))

/-- PEER_SILENT and PEER_LOST (R151, R155, R157): an ALIVE entry goes SILENT, its silence timer running on; a SILENT
entry goes LOST, its timer stopped, its role and last seq kept. A LOST odometry source makes the Odometry Unit LOST
and is given up (R42); a LOST awaited peer leaves the awaited set (R103). That an expiry command does not look at
the time left is the model's choice (log 3). -/
def Obligations.PeersFallSilentAndLost : Prop :=
  ∀ (s : State) (p : Pos), s.receiving = true → s.peers.entries[p].silence.isSome →
    (s.peers.entries[p].state = .alive → Completes (.peerSilent p) s fun t =>
      t.peers.entries[p] = { s.peers.entries[p] with state := .silent } ∧ OthersKept p s t ∧
      UnchangedBut [.peers, .clear, .link, .startup] s t) ∧
    (s.peers.entries[p].state = .silent → Completes (.peerLost p) s fun t =>
      t.peers.entries[p] = { s.peers.entries[p] with state := .lost, silence := none } ∧ OthersKept p s t ∧
      (s.running = true → s.odo.source = some p → t.odo.IsLost ∧ t.SourceRenewed) ∧
      (s.odo.source ≠ some p → t.odo = s.odo) ∧
      (s.report.phase = .awaiting → p ∈ s.report.awaited → s.report.awaited.filter (· ≠ p) ≠ [] →
        t.report = { s.report with awaited := s.report.awaited.filter (· ≠ p) }) ∧
      (s.report.phase = .awaiting → p ∈ s.report.awaited → s.report.awaited.filter (· ≠ p) = [] →
        s.report.outstanding.isSome → s.table.fifo.length < 8 → t.report.phase = .resolved) ∧
      t.table.records = s.table.records ∧
      UnchangedBut [.peers, .odo, .report, .table, .clear, .link, .startup] s t)

/-! ### The link -/

/-- What happens on the line with no own attempt on it (R161, R164, R165, R173): frames that end or are refused free
the line and end the routine yield, and are counted at a receiving station; a 0 bit opens a frame after 12 idle bit
times and is noise before; ROUTINE_YIELD_EXPIRY ends the routine yield, and falls due after 76 bit times of idle line.
That `waited` is an operand, that ROUTINE_YIELD_EXPIRY does not look at the idle time itself, and that a frame's end
frees a line on which State saw no frame, are the model's choices (logs 4, 3, 35). -/
def Obligations.LineEventsAreFollowed : Prop :=
  ∀ s : State, s.onLink = true → s.link.onLine = none →
    let free := { s.link with line := .idle 0, yield := false }
    (Completes .frameAbandoned s fun t => t.link = free ∧ UnchangedBut [.link] s t) ∧
    (∀ n : BitVec 4, 12 < n.toNat → Completes (.rxLengthMalformed n) s fun t =>
      UnchangedBut [.link] s t ∧
      (s.receiving = true → t.link =
        { free with counts := { s.link.counts with malformed := satInc s.link.counts.malformed } }) ∧
      (s.receiving = false → t.link = free)) ∧
    (∀ bytes, Completes (.rxFrameRejected bytes) s fun t =>
      (s.receiving = true → checkFrame bytes = .crcError → UnchangedBut [.link] s t ∧ t.link =
        { free with counts := { s.link.counts with crcError := satInc s.link.counts.crcError } }) ∧
      (s.receiving = true → checkFrame bytes = .malformed → UnchangedBut [.link] s t ∧ t.link =
        { free with counts := { s.link.counts with malformed := satInc s.link.counts.malformed } }) ∧
      (s.receiving = false → UnchangedBut [.link] s t ∧ t.link = free)) ∧
    (∀ waited, Completes (.startBit waited) s fun t =>
      UnchangedBut [.link] s t ∧ t.link = { s.link with line := t.link.line } ∧
      (s.link.line = .busy → t.link.line = .busy) ∧
      (s.link.line = .low → t.link.line = if 12 ≤ waited - 1 then .busy else .low) ∧
      (∀ n, s.link.line = .idle n → t.link.line = if 12 ≤ n + waited then .busy else .low)) ∧
    (.routineYieldExpiry ∈ s.due ↔ s.link.yield = true ∧ ∃ n, s.link.line = .idle n ∧ 76 ≤ n) ∧
    (s.link.yield = true → s.link.line ≠ .busy → Completes .routineYieldExpiry s fun t =>
      UnchangedBut [.link] s t ∧ t.link = { s.link with yield := false })

/-- TX_ATTEMPT_START (R162, R163, R165, R166): the head entry goes on the line; at its first attempt it takes the own
seq counter's value, which rises by 1, and its CRC is formed over its head and payload; a retry keeps both. The attempt
falls due after the access delay of 12 + 4·(class base + position) bit times. That the command does not look at the idle
time itself is the model's choice (log 3), and that the delay also counts from the queue's last new start its reading of
R179 (log 36). -/
def Obligations.AttemptsStartWithTheHead : Prop :=
  ∀ (s : State) (e : TxEntry) (rest : List TxEntry), s.onLink = true → s.link.onLine = none →
    s.link.line ≠ .busy → s.link.queue = e :: rest → e.urgent = true ∨ s.link.yield = false →
    (.txAttemptStart ∈ s.due ↔ ∃ n, s.link.line = .idle n ∧
      12 + 4 * ((if e.urgent then 0 else 8) + s.startup.pos.val) ≤ n ∧
      12 + 4 * ((if e.urgent then 0 else 8) + s.startup.pos.val) ≤ s.link.access) ∧
    Completes .txAttemptStart s fun t =>
      let seq := e.seq.getD s.link.seq
      let role : HeadRole := if s.startup.role = .sense then .sense else .wheel
      let frame : Frame :=
        { head := { src := s.startup.pos, urgent := e.urgent, seq := seq, role := role }, payload := e.payload }
      t.link = { s.link with
        queue := rest
        onLine := some { entry := { e with seq := some seq, crc := some (e.crc.getD (crc16 (frameBody frame))) },
                         retry := true }
        txTimer := some (10 * (frameBytes frame).length)
        seq := if e.seq = none then s.link.seq + 1 else s.link.seq
        line := .busy } ∧
      UnchangedBut [.link] s t

/-- TX_MISMATCH (R167, R168, R172, R183): the attempt ends; below its limit of 4, or 2 for a routine frame, the frame
returns as the oldest of its class with its seq and CRC; to a full queue it returns as a new entry of its class would
come, an urgent one in place of the youngest routine entry, and any other is discarded and counted; at the limit it is
discarded and counted, and the loopback frame's discard fails self-test, in which fewer than 6 boot frames are queued
(log 17); a frame whose retry a rejoin order took is discarded uncounted (R178). The place of a raised entry, the end of
such an uncounted frame and the idle time from a stop on are the model's readings (logs 13, 24, 34). That the frame which
a full queue takes keeps its seq, its CRC and its attempt count is the model's choice (log 38). -/
def Obligations.StoppedAttemptsReturnOrEnd : Prop :=
  ∀ (s : State) (o : OnLine), s.link.onLine = some o → s.link.QueueOk →
    let limit := if o.entry.urgent || o.entry.payload.isLoopback then 4 else 2
    let back := { o.entry with attempts := o.entry.attempts + 1 }
    let ended := fun t : State => t.startup = { s.startup with bootPending :=
      if o.entry.payload.isBoot = true ∧ s.startup.bootPending = some o.entry.order then none
      else s.startup.bootPending }
    Completes .txMismatch s fun t =>
      AttemptEnded o s t ∧
      (o.retry = true → o.entry.attempts + 1 < limit → s.link.queue.length < 6 →
        queuedLike s.link.queue o.entry.payload = none →
        t.link.queue = (if o.entry.urgent then back :: s.link.queue
          else s.link.queue.takeWhile (·.urgent) ++ back :: s.link.queue.dropWhile (·.urgent)) ∧
        t.link.counts = s.link.counts ∧ UnchangedBut [.link] s t) ∧
      (o.retry = true → o.entry.attempts + 1 < limit → 6 ≤ s.link.queue.length →
        queuedLike s.link.queue o.entry.payload = none →
        t.link.counts = { s.link.counts with txFail := satInc s.link.counts.txFail } ∧
        UnchangedBut [.link, .startup] s t ∧
        (o.entry.urgent = false ∨ (∀ e ∈ s.link.queue, e.urgent = true) →
          t.link.queue = s.link.queue ∧ ended t) ∧
        (∀ urgents routines v, o.entry.urgent = true → s.link.queue = urgents ++ routines ++ [v] →
          (∀ e ∈ urgents, e.urgent = true) → (∀ e ∈ routines, e.urgent = false) → v.urgent = false →
          (∀ e ∈ urgents ++ routines, e ≠ v) →
          t.link.queue = urgents ++ back :: routines ∧
          t.startup = { s.startup with bootPending :=
            if v.payload.isBoot = true ∧ s.startup.bootPending = some v.order then none
            else s.startup.bootPending })) ∧
      (∀ q, o.retry = true → o.entry.attempts + 1 < limit → queuedLike s.link.queue o.entry.payload = some q →
        t.link.queue.length = s.link.queue.length ∧ t.link.counts = s.link.counts ∧
        (o.entry.urgent = false ∨ q.urgent = true → t.link.queue = s.link.queue) ∧
        (o.entry.urgent = true → { q with urgent := true } ∈ t.link.queue) ∧ UnchangedBut [.link] s t) ∧
      (o.retry = true → limit ≤ o.entry.attempts + 1 →
        ¬ (o.entry.payload.isLoopback = true ∧ s.inStep .s5 = true) →
        t.link.queue = s.link.queue ∧ t.link.counts.txFail = satInc s.link.counts.txFail ∧ ended t ∧
        UnchangedBut [.link, .startup] s t) ∧
      (o.retry = true → limit ≤ o.entry.attempts + 1 → o.entry.payload.isLoopback = true →
        s.inStep .s5 = true → (s.link.queue.filter fun e => e.payload.isBoot).length < 6 →
        FaultEntered .link s t ∧ t.link.counts.txFail = satInc s.link.counts.txFail) ∧
      (o.retry = false → t.link.queue = s.link.queue ∧ t.link.counts = s.link.counts ∧ ended t ∧
        UnchangedBut [.link, .startup] s t)

/-- TX_COMPLETE (R169): the frame's life ends. A boot status frame's end is reported (R185), and the loopback
frame's passes step 5 (R183); an odometry frame takes its error count off and, in RUN, is applied as a received one
would be (R32); any other frame does nothing more. That the error count is taken off outside RUN too is the model's
reading (log 12). -/
def Obligations.CleanCompletionsEndTheFrame : Prop :=
  ∀ (s : State) (o : OnLine), s.link.onLine = some o →
    Completes .txComplete s fun t =>
      AttemptEnded o s t ∧
      (o.entry.payload.isBoot = false → o.entry.payload.isOdometry = false →
        t.link.queue = s.link.queue ∧ t.link.counts = s.link.counts ∧ UnchangedBut [.link] s t) ∧
      (o.entry.payload.isBoot = true → ¬ (o.entry.payload.isLoopback = true ∧ s.inStep .s5 = true) →
        t.startup = { s.startup with bootPending :=
          if s.startup.bootPending = some o.entry.order then none else s.startup.bootPending } ∧
        t.link.queue = s.link.queue ∧ UnchangedBut [.link, .startup] s t) ∧
      (o.entry.payload.isLoopback = true → s.inStep .s5 = true → s.link.queue.length < 6 →
        t.inStep .s4 = true ∧ t.femit = true ∧ t.receiving = true ∧ t.startup.loopTimer = none ∧
        t.startup.code = some .c4 ∧ BootQueued .c4 s t ∧ UnchangedBut [.link, .startup] s t) ∧
      (∀ d, o.entry.payload = .odometry d →
        t.enc = { s.enc with errors := BitVec.ofNat 8 (s.enc.errors.toNat - d.errors.toNat) } ∧
        (s.running = true → s.odo.source = some s.startup.pos →
          t.odo = s.odo.apply s.setup (o.entry.seq.getD 0) d.left d.right ∧
          (t.table.carryFlag = true ∨ ∃ c, t.table.work = .carrying c)) ∧
        (s.running = false → t.odo = s.odo ∧ t.table = s.table) ∧
        UnchangedBut [.enc, .odo, .table, .link, .clear, .startup] s t)

/-- HEALTH_TIMER_EXPIRY (R177): the timer reloads; the report takes the twelve counts as they stand, which become 0
as it enters the queue; at a full queue it is discarded and counted, and the counts are kept. That an expiry command
does not look at the time left is the model's choice (log 3). -/
def Obligations.HealthReportsTakeTheCounts : Prop :=
  ∀ s : State, s.running = true → s.link.healthTimer.isSome →
    Completes .healthTimerExpiry s fun t =>
      t.link.healthTimer = some 1000000 ∧ UnchangedBut [.link] s t ∧
      (s.link.queue.length < 6 →
        t.link.queue = s.link.queue ++ [newEntry (.health s.link.counts) false s.link.nextOrder] ∧
        t.link.counts = Counts.zero) ∧
      (6 ≤ s.link.queue.length →
        t.link.queue = s.link.queue ∧
        t.link.counts = { s.link.counts with txFail := satInc s.link.counts.txFail })

/-! ### Clearance and the STOP line -/

/-- VERDICT_TIMER_EXPIRY (R116, R117, R118, R120, R121, R122, R124, R129, R130, R132): a recompute, which takes the clear
distances and the flags CLIFF_NEAR and RUG_AHEAD from the table, judges the own stop condition and acts on the driver.
At 0 of the timer it hands on a verdict with the fields as they then stand, which is urgent exactly when STOP_OWN differs
from the last verdict's; with a timer that another verdict has restarted meanwhile it hands one on only when a row of
R130 other than the last holds. -/
def Obligations.VerdictTimerRecomputes : Prop :=
  ∀ (s : State) (l : VerdictData), s.running = true → s.clear.verdictTimer.isSome → s.clear.last = some l →
    s.StopHeld →
    Completes .verdictTimerExpiry s fun t =>
      let now : VerdictData := { ahead := BitVec.ofNat 11 t.clear.ahead, behind := BitVec.ofNat 11 t.clear.behind,
                                 flags := t.flags, floorClass := s.floor.accepted, wall := s.wall.result }
      let moved := fun (d : Nat) (last : BitVec 11) => 16 ≤ max (d - last.toNat) (last.toNat - d)
      let news := t.clear.driver ≠ l.flags.stopOwn ∨ moved t.clear.ahead l.ahead ∨ moved t.clear.behind l.behind ∨
        t.flags ≠ l.flags ∨ s.floor.accepted ≠ l.floorClass
      let sent := t.clear.last = some now ∧ t.clear.verdictTimer = some 100000 ∧
        (s.link.queue.length < 6 → (∀ e ∈ s.link.queue, e.payload.isVerdict = false) →
          Queued (.verdict now) (t.clear.driver != l.flags.stopOwn) t)
      LeastGap (fun r => if 0 < r.x then some (r.x - s.setup.xf).toNat else none) s.setup s.peers.mode
        s.table.records t.clear.ahead ∧
      LeastGap (fun r => if r.x < 0 then some (-r.x - s.setup.xr).toNat else none) s.setup s.peers.mode
        s.table.records t.clear.behind ∧
      (t.flags.cliffNear = true ↔ CliffIsNear s.setup s.table.records) ∧
      (t.flags.rugAhead = true ↔ RugIsAhead s.setup s.table.records) ∧
      (t.clear.ownStop = true ↔ StopTerms s t) ∧
      (t.clear.ownStop = true → t.clear.driver = true) ∧
      (t.clear.ownStop = true → s.clear.ownStop = false → t.clear.hold = some 30000) ∧
      (t.clear.ownStop = false ∨ s.clear.ownStop = true → t.clear.hold = s.clear.hold) ∧
      (t.clear.ownStop = false → t.clear.driver = (s.clear.driver && s.clear.hold.isSome)) ∧
      t.flags.stopOwn = t.clear.driver ∧
      (s.clear.verdictTimer = some 0 → sent) ∧
      (s.clear.verdictTimer ≠ some 0 → (news → sent) ∧
        (¬ news → t.clear.last = s.clear.last ∧ t.clear.verdictTimer = s.clear.verdictTimer ∧ t.link = s.link)) ∧
      UnchangedBut [.clear, .link, .startup] s t

/-- STOP_HOLD_EXPIRY (R124, R130): the timer stops; with the condition not met the driver is released, and a last
verdict with STOP_OWN raised earns an urgent one with it lowered; with the condition met the driver stays.
STOP_LINE_CHANGE (R126, R130): in RUN a changed level is accepted and taken into the flags, which earns a verdict
when the last one showed the other level; the own stop condition, judged anew by its terms (R121 to R123, R127), does
not read it. That outside RUN only the pin changes is the model's reading (log 20), as is that the expiry judges a verdict
without a recompute (log 27, from R127). That an expiry command does not look at the time left is the model's choice
(log 3). -/
def Obligations.StopLineAndHoldAreFollowed : Prop :=
  (∀ s : State, s.running = true → s.clear.hold.isSome →
      Completes .stopHoldExpiry s fun t =>
        t.clear.hold = none ∧ t.clear.ownStop = s.clear.ownStop ∧ t.clear.ahead = s.clear.ahead ∧
        t.clear.behind = s.clear.behind ∧ t.clear.line = s.clear.line ∧
        (s.clear.ownStop = false → t.clear.driver = false) ∧
        (s.clear.ownStop = true → t.clear.driver = s.clear.driver ∧ t.link = s.link ∧ t.clear.last = s.clear.last) ∧
        (∀ l, s.clear.ownStop = false → s.clear.driver = true → s.clear.last = some l → l.flags.stopOwn = true →
          (t.clear.last.map fun v => v.flags.stopOwn) = some false ∧ t.clear.verdictTimer = some 100000 ∧
          (s.link.queue.length < 6 → ∃ e ∈ t.link.queue, e.urgent = true ∧
            ∃ v, e.payload = .verdict v ∧ v.flags.stopOwn = false)) ∧
        UnchangedBut [.clear, .link, .startup] s t) ∧
  (∀ (s : State) (level : Bool), Completes (.stopLineChange level) s fun t =>
      t.pins = { s.pins with stopLine := t.pins.stopLine } ∧
      (s.running = false ∨ level = s.clear.line.accepted → UnchangedBut [.pins] s t) ∧
      (s.running = true → level ≠ s.clear.line.accepted →
        t.clear.line.accepted = level ∧ t.flags.stopLine = level ∧
        (t.clear.ownStop = true ↔ StopTerms s t) ∧
        (∀ l, s.clear.last = some l → l.flags.stopLine ≠ level →
          (t.clear.last.map fun v => v.flags.stopLine) = some level ∧ t.clear.verdictTimer = some 100000) ∧
        UnchangedBut [.pins, .clear, .link, .startup] s t))

/-! ### The beacon -/

/-- BEACON_EDGE (R137 to R145): the decoder's table of transitions. `w` is the width the edge ends, and `aborts` an
abort, which an edge into MARK hands to IDLE. A complete byte that is a code opens the sighting window or joins it.
BEACON_SPACE_TIMEOUT (R142, R143): a space phase aborts to IDLE. SIGHTING_WINDOW_EXPIRY (R145, R147): the window
closes, and its code set makes one dock observation, 150 mm along the wall axis with HALO and 600 mm without. The
decoder works in RUN only (R136); that outside RUN BEACON_EDGE changes the pin alone is the model's reading (log 20).
That `waited` is an operand is the model's choice (log 4). That an expiry command does not look at the time left is the
model's choice (log 3). -/
def Obligations.BeaconCodesAreDecoded : Prop :=
  (∀ (s : State) (mark : Bool) (waited : Nat), Completes (.beaconEdge mark waited) s fun t =>
      let b := s.beacon
      let w := min 255 (b.width + waited)
      let goes := fun (d : Decode) (code : List Bool) =>
        t.beacon.decode = d ∧ t.beacon.code = code ∧ t.link = s.link ∧ t.beacon.window = b.window ∧
        t.beacon.set = b.set
      let aborts := t.beacon.decode = (if mark then .startMark else .idle) ∧ t.beacon.code = [] ∧
        t.link = { s.link with
          counts := { s.link.counts with beaconAbort := satInc s.link.counts.beaconAbort } } ∧
        t.beacon.window = b.window ∧ t.beacon.set = b.set
      t.pins = { s.pins with beaconMark := mark } ∧
      (s.running = false ∨ mark = b.mark → UnchangedBut [.pins] s t) ∧
      (s.running = true → mark ≠ b.mark →
        UnchangedBut [.pins, .beacon, .link] s t ∧ t.beacon.mark = mark ∧ t.beacon.width = 0 ∧
        (b.decode = .idle → if mark then goes .startMark [] else goes .idle b.code) ∧
        (b.decode = .startMark → mark = false → if 48 ≤ w ∧ w ≤ 72 then goes .startSpace b.code else aborts) ∧
        (b.decode = .startSpace → mark = true → if 6 ≤ w ∧ w ≤ 18 then goes (.bitMark 0) b.code else aborts) ∧
        (∀ n, b.decode = .bitSpace n → mark = true →
          if 6 ≤ w ∧ w ≤ 18 then goes (.bitMark (n + 1)) b.code else aborts) ∧
        (∀ n, b.decode = .bitMark n → mark = false →
          (¬ (12 ≤ w ∧ w ≤ 28) → ¬ (32 ≤ w ∧ w ≤ 48) → aborts) ∧
          (n < 7 → 12 ≤ w → w ≤ 28 → goes (.bitSpace n) (b.code ++ [false])) ∧
          (n < 7 → 32 ≤ w → w ≤ 48 → goes (.bitSpace n) (b.code ++ [true])) ∧
          (∀ bit : Bool, n = 7 → (bit = false ∧ 12 ≤ w ∧ w ≤ 28 ∨ bit = true ∧ 32 ≤ w ∧ w ≤ 48) →
            t.beacon.decode = .idle ∧
            let byte := b.code ++ [bit]
            let left := byte = [false, true, false, true, false, false, false, true]
            let right := byte = [false, true, false, true, false, false, true, false]
            let halo := byte = [false, true, false, true, false, true, false, false]
            (b.code.length = 7 → left ∨ right ∨ halo →
              t.link = s.link ∧
              t.beacon.window = (if b.window = none then some 120000 else b.window) ∧
              (t.beacon.set.left = true ↔ left ∨ (b.window ≠ none ∧ b.set.left = true)) ∧
              (t.beacon.set.right = true ↔ right ∨ (b.window ≠ none ∧ b.set.right = true)) ∧
              (t.beacon.set.halo = true ↔ halo ∨ (b.window ≠ none ∧ b.set.halo = true))) ∧
            (b.code.length = 7 → ¬ (left ∨ right ∨ halo) →
              t.link.counts.beaconAbort = satInc s.link.counts.beaconAbort ∧ t.beacon.window = b.window ∧
              t.beacon.set = b.set))))) ∧
  (∀ s : State, s.running = true →
      (s.beacon.decode = .startSpace ∨ (∃ n, s.beacon.decode = .bitSpace n) → Completes .beaconSpaceTimeout s fun t =>
        t.beacon.decode = .idle ∧ t.beacon.code = [] ∧ t.beacon.mark = s.beacon.mark ∧
        t.beacon.window = s.beacon.window ∧ t.beacon.set = s.beacon.set ∧
        t.link = { s.link with counts := { s.link.counts with beaconAbort := satInc s.link.counts.beaconAbort } } ∧
        UnchangedBut [.beacon, .link] s t) ∧
      (s.beacon.window.isSome → Completes .sightingWindowExpiry s fun t =>
        let d : Int := if s.beacon.set.halo then 150 else 600
        t.beacon = { s.beacon with window := none, set := { left := false, right := false, halo := false } } ∧
        ItemEntered (.own (.dock s.beacon.set) .beacon (s.setup.mx + roundDiv (d * s.setup.ax) 16384)
          (s.setup.my + roundDiv (d * s.setup.ay) 16384) s.odo.tag) s t ∧
        t.table.records = s.table.records ∧ UnchangedBut [.beacon, .table, .link] s t))

/-- The report frames of a completion (R66, R93, R94, R96), of items other than lookups. An own record that is a CLIFF or
CONFIRMED is reported once an item has changed it, and its add is an ADD frame, urgent for a CLIFF. A reported record
that changes kind or shade, or a CLIFF that becomes CONFIRMED, earns an UPDATE frame, urgent when the record is or was a
CLIFF. A reported record that own clearing retires earns a WITHDRAW frame with its values, urgent for a CLIFF. A merge of
an own OBSTACLE or DOCK observation into a reported record re-sends it as an ADD when its report age is 20 or more, and
not before. The frames carry the table tag, as R93 says (log 32). -/
def Obligations.ReportEventsAreMade : Prop :=
  ∀ (s : State) (item : Item), s.running = true → s.table.work = .serving item → item.isLookup = false → s.TableOk →
    Completes item.serveCommand s fun t =>
      (∀ i r, t.at i = some r → r.own.isSome → r.kind = .cliff ∨ 8 ≤ r.conf →
        (r.reported = true ∨ s.at i = some r) ∧
        (r.reported = true → (∀ o, s.at i = some o → o.reported = false) →
          Reported .add r (r.kind = .cliff) s t)) ∧
      (∀ i o r, s.at i = some o → o.reported = true → t.at i = some r → r.reported = true →
        (∃ j, freeIn s.table.good s.table.records j = true) →
        (o.kind = .cliff → item.serveCommand ≠ .serveFloorEvidence) →
        (r.kind ≠ o.kind ∧ ¬ ((∃ z, r.kind = .dock z) ∧ ∃ z, o.kind = .dock z)) ∨
          (r.kind = .cliff ∧ o.conf < 8 ∧ 8 ≤ r.conf) →
        Reported .update r (r.kind = .cliff ∨ o.kind = .cliff) s t) ∧
      (∀ i o, item.serveCommand = .serveFloorEvidence ∨ item.serveCommand = .serveWallClear →
        s.at i = some o → o.reported = true → t.at i = none → Reported .withdraw o (o.kind = .cliff) s t) ∧
      (∀ kind origin x y tag r, item = .own kind origin x y tag → kind = .obstacle ∨ kind.isDock = true →
        let p := (s.reconcile tag).point x y
        max p.1.natAbs p.2.natAbs ≤ 1500 →
        NearestOf s.table.records (fun q => q.kind.sameKind kind) p.1 p.2 (if kind = .obstacle then 40 else 200) r →
        r.reported = true →
        (∀ u, 20 ≤ s.report.ages[r.slot] → t.at r.slot = some u → Reported .add u false s t) ∧
        (s.report.ages[r.slot] < 20 → t.report.ages[r.slot] = s.report.ages[r.slot]))
end

