-- ==== Sys2Proof/Laws/State.lean ====
section
/-! SUPPORT. One lemma per field per block update of State, and the update of a block read back. -/

namespace Sys2Proof.Machine

@[simp] theorem State.setPins_pins (s : State) (v : Pins) : (s.setPins v).pins = v := rfl
@[simp] theorem State.setPins_startup (s : State) (v : Pins) : (s.setPins v).startup = s.startup := rfl
@[simp] theorem State.setPins_floor (s : State) (v : Pins) : (s.setPins v).floor = s.floor := rfl
@[simp] theorem State.setPins_wall (s : State) (v : Pins) : (s.setPins v).wall = s.wall := rfl
@[simp] theorem State.setPins_bump (s : State) (v : Pins) : (s.setPins v).bump = s.bump := rfl
@[simp] theorem State.setPins_drop (s : State) (v : Pins) : (s.setPins v).drop = s.drop := rfl
@[simp] theorem State.setPins_enc (s : State) (v : Pins) : (s.setPins v).enc = s.enc := rfl
@[simp] theorem State.setPins_odo (s : State) (v : Pins) : (s.setPins v).odo = s.odo := rfl
@[simp] theorem State.setPins_table (s : State) (v : Pins) : (s.setPins v).table = s.table := rfl
@[simp] theorem State.setPins_report (s : State) (v : Pins) : (s.setPins v).report = s.report := rfl
@[simp] theorem State.setPins_clear (s : State) (v : Pins) : (s.setPins v).clear = s.clear := rfl
@[simp] theorem State.setPins_beacon (s : State) (v : Pins) : (s.setPins v).beacon = s.beacon := rfl
@[simp] theorem State.setPins_peers (s : State) (v : Pins) : (s.setPins v).peers = s.peers := rfl
@[simp] theorem State.setPins_link (s : State) (v : Pins) : (s.setPins v).link = s.link := rfl
@[simp] theorem State.setPins_choices (s : State) (v : Pins) : (s.setPins v).choices = s.choices := rfl
@[simp] theorem State.setPins_pending (s : State) (v : Pins) : (s.setPins v).pending = s.pending := rfl
@[simp] theorem State.setPins_self (s : State) : s.setPins s.pins = s := rfl
@[simp] theorem State.setPins_twice (s : State) (v w : Pins) :
    (s.setPins v).setPins w = s.setPins w := rfl
@[simp] theorem State.setStartup_pins (s : State) (v : Startup) : (s.setStartup v).pins = s.pins := rfl
@[simp] theorem State.setStartup_startup (s : State) (v : Startup) : (s.setStartup v).startup = v := rfl
@[simp] theorem State.setStartup_floor (s : State) (v : Startup) : (s.setStartup v).floor = s.floor := rfl
@[simp] theorem State.setStartup_wall (s : State) (v : Startup) : (s.setStartup v).wall = s.wall := rfl
@[simp] theorem State.setStartup_bump (s : State) (v : Startup) : (s.setStartup v).bump = s.bump := rfl
@[simp] theorem State.setStartup_drop (s : State) (v : Startup) : (s.setStartup v).drop = s.drop := rfl
@[simp] theorem State.setStartup_enc (s : State) (v : Startup) : (s.setStartup v).enc = s.enc := rfl
@[simp] theorem State.setStartup_odo (s : State) (v : Startup) : (s.setStartup v).odo = s.odo := rfl
@[simp] theorem State.setStartup_table (s : State) (v : Startup) : (s.setStartup v).table = s.table := rfl
@[simp] theorem State.setStartup_report (s : State) (v : Startup) : (s.setStartup v).report = s.report := rfl
@[simp] theorem State.setStartup_clear (s : State) (v : Startup) : (s.setStartup v).clear = s.clear := rfl
@[simp] theorem State.setStartup_beacon (s : State) (v : Startup) : (s.setStartup v).beacon = s.beacon := rfl
@[simp] theorem State.setStartup_peers (s : State) (v : Startup) : (s.setStartup v).peers = s.peers := rfl
@[simp] theorem State.setStartup_link (s : State) (v : Startup) : (s.setStartup v).link = s.link := rfl
@[simp] theorem State.setStartup_choices (s : State) (v : Startup) : (s.setStartup v).choices = s.choices := rfl
@[simp] theorem State.setStartup_pending (s : State) (v : Startup) : (s.setStartup v).pending = s.pending := rfl
@[simp] theorem State.setStartup_self (s : State) : s.setStartup s.startup = s := rfl
@[simp] theorem State.setStartup_twice (s : State) (v w : Startup) :
    (s.setStartup v).setStartup w = s.setStartup w := rfl
@[simp] theorem State.setFloor_pins (s : State) (v : FloorChannel) : (s.setFloor v).pins = s.pins := rfl
@[simp] theorem State.setFloor_startup (s : State) (v : FloorChannel) : (s.setFloor v).startup = s.startup := rfl
@[simp] theorem State.setFloor_floor (s : State) (v : FloorChannel) : (s.setFloor v).floor = v := rfl
@[simp] theorem State.setFloor_wall (s : State) (v : FloorChannel) : (s.setFloor v).wall = s.wall := rfl
@[simp] theorem State.setFloor_bump (s : State) (v : FloorChannel) : (s.setFloor v).bump = s.bump := rfl
@[simp] theorem State.setFloor_drop (s : State) (v : FloorChannel) : (s.setFloor v).drop = s.drop := rfl
@[simp] theorem State.setFloor_enc (s : State) (v : FloorChannel) : (s.setFloor v).enc = s.enc := rfl
@[simp] theorem State.setFloor_odo (s : State) (v : FloorChannel) : (s.setFloor v).odo = s.odo := rfl
@[simp] theorem State.setFloor_table (s : State) (v : FloorChannel) : (s.setFloor v).table = s.table := rfl
@[simp] theorem State.setFloor_report (s : State) (v : FloorChannel) : (s.setFloor v).report = s.report := rfl
@[simp] theorem State.setFloor_clear (s : State) (v : FloorChannel) : (s.setFloor v).clear = s.clear := rfl
@[simp] theorem State.setFloor_beacon (s : State) (v : FloorChannel) : (s.setFloor v).beacon = s.beacon := rfl
@[simp] theorem State.setFloor_peers (s : State) (v : FloorChannel) : (s.setFloor v).peers = s.peers := rfl
@[simp] theorem State.setFloor_link (s : State) (v : FloorChannel) : (s.setFloor v).link = s.link := rfl
@[simp] theorem State.setFloor_choices (s : State) (v : FloorChannel) : (s.setFloor v).choices = s.choices := rfl
@[simp] theorem State.setFloor_pending (s : State) (v : FloorChannel) : (s.setFloor v).pending = s.pending := rfl
@[simp] theorem State.setFloor_self (s : State) : s.setFloor s.floor = s := rfl
@[simp] theorem State.setFloor_twice (s : State) (v w : FloorChannel) :
    (s.setFloor v).setFloor w = s.setFloor w := rfl
@[simp] theorem State.setWall_pins (s : State) (v : WallChannel) : (s.setWall v).pins = s.pins := rfl
@[simp] theorem State.setWall_startup (s : State) (v : WallChannel) : (s.setWall v).startup = s.startup := rfl
@[simp] theorem State.setWall_floor (s : State) (v : WallChannel) : (s.setWall v).floor = s.floor := rfl
@[simp] theorem State.setWall_wall (s : State) (v : WallChannel) : (s.setWall v).wall = v := rfl
@[simp] theorem State.setWall_bump (s : State) (v : WallChannel) : (s.setWall v).bump = s.bump := rfl
@[simp] theorem State.setWall_drop (s : State) (v : WallChannel) : (s.setWall v).drop = s.drop := rfl
@[simp] theorem State.setWall_enc (s : State) (v : WallChannel) : (s.setWall v).enc = s.enc := rfl
@[simp] theorem State.setWall_odo (s : State) (v : WallChannel) : (s.setWall v).odo = s.odo := rfl
@[simp] theorem State.setWall_table (s : State) (v : WallChannel) : (s.setWall v).table = s.table := rfl
@[simp] theorem State.setWall_report (s : State) (v : WallChannel) : (s.setWall v).report = s.report := rfl
@[simp] theorem State.setWall_clear (s : State) (v : WallChannel) : (s.setWall v).clear = s.clear := rfl
@[simp] theorem State.setWall_beacon (s : State) (v : WallChannel) : (s.setWall v).beacon = s.beacon := rfl
@[simp] theorem State.setWall_peers (s : State) (v : WallChannel) : (s.setWall v).peers = s.peers := rfl
@[simp] theorem State.setWall_link (s : State) (v : WallChannel) : (s.setWall v).link = s.link := rfl
@[simp] theorem State.setWall_choices (s : State) (v : WallChannel) : (s.setWall v).choices = s.choices := rfl
@[simp] theorem State.setWall_pending (s : State) (v : WallChannel) : (s.setWall v).pending = s.pending := rfl
@[simp] theorem State.setWall_self (s : State) : s.setWall s.wall = s := rfl
@[simp] theorem State.setWall_twice (s : State) (v w : WallChannel) :
    (s.setWall v).setWall w = s.setWall w := rfl
@[simp] theorem State.setBump_pins (s : State) (v : Filter) : (s.setBump v).pins = s.pins := rfl
@[simp] theorem State.setBump_startup (s : State) (v : Filter) : (s.setBump v).startup = s.startup := rfl
@[simp] theorem State.setBump_floor (s : State) (v : Filter) : (s.setBump v).floor = s.floor := rfl
@[simp] theorem State.setBump_wall (s : State) (v : Filter) : (s.setBump v).wall = s.wall := rfl
@[simp] theorem State.setBump_bump (s : State) (v : Filter) : (s.setBump v).bump = v := rfl
@[simp] theorem State.setBump_drop (s : State) (v : Filter) : (s.setBump v).drop = s.drop := rfl
@[simp] theorem State.setBump_enc (s : State) (v : Filter) : (s.setBump v).enc = s.enc := rfl
@[simp] theorem State.setBump_odo (s : State) (v : Filter) : (s.setBump v).odo = s.odo := rfl
@[simp] theorem State.setBump_table (s : State) (v : Filter) : (s.setBump v).table = s.table := rfl
@[simp] theorem State.setBump_report (s : State) (v : Filter) : (s.setBump v).report = s.report := rfl
@[simp] theorem State.setBump_clear (s : State) (v : Filter) : (s.setBump v).clear = s.clear := rfl
@[simp] theorem State.setBump_beacon (s : State) (v : Filter) : (s.setBump v).beacon = s.beacon := rfl
@[simp] theorem State.setBump_peers (s : State) (v : Filter) : (s.setBump v).peers = s.peers := rfl
@[simp] theorem State.setBump_link (s : State) (v : Filter) : (s.setBump v).link = s.link := rfl
@[simp] theorem State.setBump_choices (s : State) (v : Filter) : (s.setBump v).choices = s.choices := rfl
@[simp] theorem State.setBump_pending (s : State) (v : Filter) : (s.setBump v).pending = s.pending := rfl
@[simp] theorem State.setBump_self (s : State) : s.setBump s.bump = s := rfl
@[simp] theorem State.setBump_twice (s : State) (v w : Filter) :
    (s.setBump v).setBump w = s.setBump w := rfl
@[simp] theorem State.setDrop_pins (s : State) (v : Filter) : (s.setDrop v).pins = s.pins := rfl
@[simp] theorem State.setDrop_startup (s : State) (v : Filter) : (s.setDrop v).startup = s.startup := rfl
@[simp] theorem State.setDrop_floor (s : State) (v : Filter) : (s.setDrop v).floor = s.floor := rfl
@[simp] theorem State.setDrop_wall (s : State) (v : Filter) : (s.setDrop v).wall = s.wall := rfl
@[simp] theorem State.setDrop_bump (s : State) (v : Filter) : (s.setDrop v).bump = s.bump := rfl
@[simp] theorem State.setDrop_drop (s : State) (v : Filter) : (s.setDrop v).drop = v := rfl
@[simp] theorem State.setDrop_enc (s : State) (v : Filter) : (s.setDrop v).enc = s.enc := rfl
@[simp] theorem State.setDrop_odo (s : State) (v : Filter) : (s.setDrop v).odo = s.odo := rfl
@[simp] theorem State.setDrop_table (s : State) (v : Filter) : (s.setDrop v).table = s.table := rfl
@[simp] theorem State.setDrop_report (s : State) (v : Filter) : (s.setDrop v).report = s.report := rfl
@[simp] theorem State.setDrop_clear (s : State) (v : Filter) : (s.setDrop v).clear = s.clear := rfl
@[simp] theorem State.setDrop_beacon (s : State) (v : Filter) : (s.setDrop v).beacon = s.beacon := rfl
@[simp] theorem State.setDrop_peers (s : State) (v : Filter) : (s.setDrop v).peers = s.peers := rfl
@[simp] theorem State.setDrop_link (s : State) (v : Filter) : (s.setDrop v).link = s.link := rfl
@[simp] theorem State.setDrop_choices (s : State) (v : Filter) : (s.setDrop v).choices = s.choices := rfl
@[simp] theorem State.setDrop_pending (s : State) (v : Filter) : (s.setDrop v).pending = s.pending := rfl
@[simp] theorem State.setDrop_self (s : State) : s.setDrop s.drop = s := rfl
@[simp] theorem State.setDrop_twice (s : State) (v w : Filter) :
    (s.setDrop v).setDrop w = s.setDrop w := rfl
@[simp] theorem State.setEnc_pins (s : State) (v : Encoder) : (s.setEnc v).pins = s.pins := rfl
@[simp] theorem State.setEnc_startup (s : State) (v : Encoder) : (s.setEnc v).startup = s.startup := rfl
@[simp] theorem State.setEnc_floor (s : State) (v : Encoder) : (s.setEnc v).floor = s.floor := rfl
@[simp] theorem State.setEnc_wall (s : State) (v : Encoder) : (s.setEnc v).wall = s.wall := rfl
@[simp] theorem State.setEnc_bump (s : State) (v : Encoder) : (s.setEnc v).bump = s.bump := rfl
@[simp] theorem State.setEnc_drop (s : State) (v : Encoder) : (s.setEnc v).drop = s.drop := rfl
@[simp] theorem State.setEnc_enc (s : State) (v : Encoder) : (s.setEnc v).enc = v := rfl
@[simp] theorem State.setEnc_odo (s : State) (v : Encoder) : (s.setEnc v).odo = s.odo := rfl
@[simp] theorem State.setEnc_table (s : State) (v : Encoder) : (s.setEnc v).table = s.table := rfl
@[simp] theorem State.setEnc_report (s : State) (v : Encoder) : (s.setEnc v).report = s.report := rfl
@[simp] theorem State.setEnc_clear (s : State) (v : Encoder) : (s.setEnc v).clear = s.clear := rfl
@[simp] theorem State.setEnc_beacon (s : State) (v : Encoder) : (s.setEnc v).beacon = s.beacon := rfl
@[simp] theorem State.setEnc_peers (s : State) (v : Encoder) : (s.setEnc v).peers = s.peers := rfl
@[simp] theorem State.setEnc_link (s : State) (v : Encoder) : (s.setEnc v).link = s.link := rfl
@[simp] theorem State.setEnc_choices (s : State) (v : Encoder) : (s.setEnc v).choices = s.choices := rfl
@[simp] theorem State.setEnc_pending (s : State) (v : Encoder) : (s.setEnc v).pending = s.pending := rfl
@[simp] theorem State.setEnc_self (s : State) : s.setEnc s.enc = s := rfl
@[simp] theorem State.setEnc_twice (s : State) (v w : Encoder) :
    (s.setEnc v).setEnc w = s.setEnc w := rfl
@[simp] theorem State.setOdo_pins (s : State) (v : Odometry) : (s.setOdo v).pins = s.pins := rfl
@[simp] theorem State.setOdo_startup (s : State) (v : Odometry) : (s.setOdo v).startup = s.startup := rfl
@[simp] theorem State.setOdo_floor (s : State) (v : Odometry) : (s.setOdo v).floor = s.floor := rfl
@[simp] theorem State.setOdo_wall (s : State) (v : Odometry) : (s.setOdo v).wall = s.wall := rfl
@[simp] theorem State.setOdo_bump (s : State) (v : Odometry) : (s.setOdo v).bump = s.bump := rfl
@[simp] theorem State.setOdo_drop (s : State) (v : Odometry) : (s.setOdo v).drop = s.drop := rfl
@[simp] theorem State.setOdo_enc (s : State) (v : Odometry) : (s.setOdo v).enc = s.enc := rfl
@[simp] theorem State.setOdo_odo (s : State) (v : Odometry) : (s.setOdo v).odo = v := rfl
@[simp] theorem State.setOdo_table (s : State) (v : Odometry) : (s.setOdo v).table = s.table := rfl
@[simp] theorem State.setOdo_report (s : State) (v : Odometry) : (s.setOdo v).report = s.report := rfl
@[simp] theorem State.setOdo_clear (s : State) (v : Odometry) : (s.setOdo v).clear = s.clear := rfl
@[simp] theorem State.setOdo_beacon (s : State) (v : Odometry) : (s.setOdo v).beacon = s.beacon := rfl
@[simp] theorem State.setOdo_peers (s : State) (v : Odometry) : (s.setOdo v).peers = s.peers := rfl
@[simp] theorem State.setOdo_link (s : State) (v : Odometry) : (s.setOdo v).link = s.link := rfl
@[simp] theorem State.setOdo_choices (s : State) (v : Odometry) : (s.setOdo v).choices = s.choices := rfl
@[simp] theorem State.setOdo_pending (s : State) (v : Odometry) : (s.setOdo v).pending = s.pending := rfl
@[simp] theorem State.setOdo_self (s : State) : s.setOdo s.odo = s := rfl
@[simp] theorem State.setOdo_twice (s : State) (v w : Odometry) :
    (s.setOdo v).setOdo w = s.setOdo w := rfl
@[simp] theorem State.setTable_pins (s : State) (v : TableManager) : (s.setTable v).pins = s.pins := rfl
@[simp] theorem State.setTable_startup (s : State) (v : TableManager) : (s.setTable v).startup = s.startup := rfl
@[simp] theorem State.setTable_floor (s : State) (v : TableManager) : (s.setTable v).floor = s.floor := rfl
@[simp] theorem State.setTable_wall (s : State) (v : TableManager) : (s.setTable v).wall = s.wall := rfl
@[simp] theorem State.setTable_bump (s : State) (v : TableManager) : (s.setTable v).bump = s.bump := rfl
@[simp] theorem State.setTable_drop (s : State) (v : TableManager) : (s.setTable v).drop = s.drop := rfl
@[simp] theorem State.setTable_enc (s : State) (v : TableManager) : (s.setTable v).enc = s.enc := rfl
@[simp] theorem State.setTable_odo (s : State) (v : TableManager) : (s.setTable v).odo = s.odo := rfl
@[simp] theorem State.setTable_table (s : State) (v : TableManager) : (s.setTable v).table = v := rfl
@[simp] theorem State.setTable_report (s : State) (v : TableManager) : (s.setTable v).report = s.report := rfl
@[simp] theorem State.setTable_clear (s : State) (v : TableManager) : (s.setTable v).clear = s.clear := rfl
@[simp] theorem State.setTable_beacon (s : State) (v : TableManager) : (s.setTable v).beacon = s.beacon := rfl
@[simp] theorem State.setTable_peers (s : State) (v : TableManager) : (s.setTable v).peers = s.peers := rfl
@[simp] theorem State.setTable_link (s : State) (v : TableManager) : (s.setTable v).link = s.link := rfl
@[simp] theorem State.setTable_choices (s : State) (v : TableManager) : (s.setTable v).choices = s.choices := rfl
@[simp] theorem State.setTable_pending (s : State) (v : TableManager) : (s.setTable v).pending = s.pending := rfl
@[simp] theorem State.setTable_self (s : State) : s.setTable s.table = s := rfl
@[simp] theorem State.setTable_twice (s : State) (v w : TableManager) :
    (s.setTable v).setTable w = s.setTable w := rfl
@[simp] theorem State.setReport_pins (s : State) (v : ReportHandler) : (s.setReport v).pins = s.pins := rfl
@[simp] theorem State.setReport_startup (s : State) (v : ReportHandler) : (s.setReport v).startup = s.startup := rfl
@[simp] theorem State.setReport_floor (s : State) (v : ReportHandler) : (s.setReport v).floor = s.floor := rfl
@[simp] theorem State.setReport_wall (s : State) (v : ReportHandler) : (s.setReport v).wall = s.wall := rfl
@[simp] theorem State.setReport_bump (s : State) (v : ReportHandler) : (s.setReport v).bump = s.bump := rfl
@[simp] theorem State.setReport_drop (s : State) (v : ReportHandler) : (s.setReport v).drop = s.drop := rfl
@[simp] theorem State.setReport_enc (s : State) (v : ReportHandler) : (s.setReport v).enc = s.enc := rfl
@[simp] theorem State.setReport_odo (s : State) (v : ReportHandler) : (s.setReport v).odo = s.odo := rfl
@[simp] theorem State.setReport_table (s : State) (v : ReportHandler) : (s.setReport v).table = s.table := rfl
@[simp] theorem State.setReport_report (s : State) (v : ReportHandler) : (s.setReport v).report = v := rfl
@[simp] theorem State.setReport_clear (s : State) (v : ReportHandler) : (s.setReport v).clear = s.clear := rfl
@[simp] theorem State.setReport_beacon (s : State) (v : ReportHandler) : (s.setReport v).beacon = s.beacon := rfl
@[simp] theorem State.setReport_peers (s : State) (v : ReportHandler) : (s.setReport v).peers = s.peers := rfl
@[simp] theorem State.setReport_link (s : State) (v : ReportHandler) : (s.setReport v).link = s.link := rfl
@[simp] theorem State.setReport_choices (s : State) (v : ReportHandler) : (s.setReport v).choices = s.choices := rfl
@[simp] theorem State.setReport_pending (s : State) (v : ReportHandler) : (s.setReport v).pending = s.pending := rfl
@[simp] theorem State.setReport_self (s : State) : s.setReport s.report = s := rfl
@[simp] theorem State.setReport_twice (s : State) (v w : ReportHandler) :
    (s.setReport v).setReport w = s.setReport w := rfl
@[simp] theorem State.setClear_pins (s : State) (v : Clearance) : (s.setClear v).pins = s.pins := rfl
@[simp] theorem State.setClear_startup (s : State) (v : Clearance) : (s.setClear v).startup = s.startup := rfl
@[simp] theorem State.setClear_floor (s : State) (v : Clearance) : (s.setClear v).floor = s.floor := rfl
@[simp] theorem State.setClear_wall (s : State) (v : Clearance) : (s.setClear v).wall = s.wall := rfl
@[simp] theorem State.setClear_bump (s : State) (v : Clearance) : (s.setClear v).bump = s.bump := rfl
@[simp] theorem State.setClear_drop (s : State) (v : Clearance) : (s.setClear v).drop = s.drop := rfl
@[simp] theorem State.setClear_enc (s : State) (v : Clearance) : (s.setClear v).enc = s.enc := rfl
@[simp] theorem State.setClear_odo (s : State) (v : Clearance) : (s.setClear v).odo = s.odo := rfl
@[simp] theorem State.setClear_table (s : State) (v : Clearance) : (s.setClear v).table = s.table := rfl
@[simp] theorem State.setClear_report (s : State) (v : Clearance) : (s.setClear v).report = s.report := rfl
@[simp] theorem State.setClear_clear (s : State) (v : Clearance) : (s.setClear v).clear = v := rfl
@[simp] theorem State.setClear_beacon (s : State) (v : Clearance) : (s.setClear v).beacon = s.beacon := rfl
@[simp] theorem State.setClear_peers (s : State) (v : Clearance) : (s.setClear v).peers = s.peers := rfl
@[simp] theorem State.setClear_link (s : State) (v : Clearance) : (s.setClear v).link = s.link := rfl
@[simp] theorem State.setClear_choices (s : State) (v : Clearance) : (s.setClear v).choices = s.choices := rfl
@[simp] theorem State.setClear_pending (s : State) (v : Clearance) : (s.setClear v).pending = s.pending := rfl
@[simp] theorem State.setClear_self (s : State) : s.setClear s.clear = s := rfl
@[simp] theorem State.setClear_twice (s : State) (v w : Clearance) :
    (s.setClear v).setClear w = s.setClear w := rfl
@[simp] theorem State.setBeacon_pins (s : State) (v : Beacon) : (s.setBeacon v).pins = s.pins := rfl
@[simp] theorem State.setBeacon_startup (s : State) (v : Beacon) : (s.setBeacon v).startup = s.startup := rfl
@[simp] theorem State.setBeacon_floor (s : State) (v : Beacon) : (s.setBeacon v).floor = s.floor := rfl
@[simp] theorem State.setBeacon_wall (s : State) (v : Beacon) : (s.setBeacon v).wall = s.wall := rfl
@[simp] theorem State.setBeacon_bump (s : State) (v : Beacon) : (s.setBeacon v).bump = s.bump := rfl
@[simp] theorem State.setBeacon_drop (s : State) (v : Beacon) : (s.setBeacon v).drop = s.drop := rfl
@[simp] theorem State.setBeacon_enc (s : State) (v : Beacon) : (s.setBeacon v).enc = s.enc := rfl
@[simp] theorem State.setBeacon_odo (s : State) (v : Beacon) : (s.setBeacon v).odo = s.odo := rfl
@[simp] theorem State.setBeacon_table (s : State) (v : Beacon) : (s.setBeacon v).table = s.table := rfl
@[simp] theorem State.setBeacon_report (s : State) (v : Beacon) : (s.setBeacon v).report = s.report := rfl
@[simp] theorem State.setBeacon_clear (s : State) (v : Beacon) : (s.setBeacon v).clear = s.clear := rfl
@[simp] theorem State.setBeacon_beacon (s : State) (v : Beacon) : (s.setBeacon v).beacon = v := rfl
@[simp] theorem State.setBeacon_peers (s : State) (v : Beacon) : (s.setBeacon v).peers = s.peers := rfl
@[simp] theorem State.setBeacon_link (s : State) (v : Beacon) : (s.setBeacon v).link = s.link := rfl
@[simp] theorem State.setBeacon_choices (s : State) (v : Beacon) : (s.setBeacon v).choices = s.choices := rfl
@[simp] theorem State.setBeacon_pending (s : State) (v : Beacon) : (s.setBeacon v).pending = s.pending := rfl
@[simp] theorem State.setBeacon_self (s : State) : s.setBeacon s.beacon = s := rfl
@[simp] theorem State.setBeacon_twice (s : State) (v w : Beacon) :
    (s.setBeacon v).setBeacon w = s.setBeacon w := rfl
@[simp] theorem State.setPeers_pins (s : State) (v : PeerMonitor) : (s.setPeers v).pins = s.pins := rfl
@[simp] theorem State.setPeers_startup (s : State) (v : PeerMonitor) : (s.setPeers v).startup = s.startup := rfl
@[simp] theorem State.setPeers_floor (s : State) (v : PeerMonitor) : (s.setPeers v).floor = s.floor := rfl
@[simp] theorem State.setPeers_wall (s : State) (v : PeerMonitor) : (s.setPeers v).wall = s.wall := rfl
@[simp] theorem State.setPeers_bump (s : State) (v : PeerMonitor) : (s.setPeers v).bump = s.bump := rfl
@[simp] theorem State.setPeers_drop (s : State) (v : PeerMonitor) : (s.setPeers v).drop = s.drop := rfl
@[simp] theorem State.setPeers_enc (s : State) (v : PeerMonitor) : (s.setPeers v).enc = s.enc := rfl
@[simp] theorem State.setPeers_odo (s : State) (v : PeerMonitor) : (s.setPeers v).odo = s.odo := rfl
@[simp] theorem State.setPeers_table (s : State) (v : PeerMonitor) : (s.setPeers v).table = s.table := rfl
@[simp] theorem State.setPeers_report (s : State) (v : PeerMonitor) : (s.setPeers v).report = s.report := rfl
@[simp] theorem State.setPeers_clear (s : State) (v : PeerMonitor) : (s.setPeers v).clear = s.clear := rfl
@[simp] theorem State.setPeers_beacon (s : State) (v : PeerMonitor) : (s.setPeers v).beacon = s.beacon := rfl
@[simp] theorem State.setPeers_peers (s : State) (v : PeerMonitor) : (s.setPeers v).peers = v := rfl
@[simp] theorem State.setPeers_link (s : State) (v : PeerMonitor) : (s.setPeers v).link = s.link := rfl
@[simp] theorem State.setPeers_choices (s : State) (v : PeerMonitor) : (s.setPeers v).choices = s.choices := rfl
@[simp] theorem State.setPeers_pending (s : State) (v : PeerMonitor) : (s.setPeers v).pending = s.pending := rfl
@[simp] theorem State.setPeers_self (s : State) : s.setPeers s.peers = s := rfl
@[simp] theorem State.setPeers_twice (s : State) (v w : PeerMonitor) :
    (s.setPeers v).setPeers w = s.setPeers w := rfl
@[simp] theorem State.setLink_pins (s : State) (v : Link) : (s.setLink v).pins = s.pins := rfl
@[simp] theorem State.setLink_startup (s : State) (v : Link) : (s.setLink v).startup = s.startup := rfl
@[simp] theorem State.setLink_floor (s : State) (v : Link) : (s.setLink v).floor = s.floor := rfl
@[simp] theorem State.setLink_wall (s : State) (v : Link) : (s.setLink v).wall = s.wall := rfl
@[simp] theorem State.setLink_bump (s : State) (v : Link) : (s.setLink v).bump = s.bump := rfl
@[simp] theorem State.setLink_drop (s : State) (v : Link) : (s.setLink v).drop = s.drop := rfl
@[simp] theorem State.setLink_enc (s : State) (v : Link) : (s.setLink v).enc = s.enc := rfl
@[simp] theorem State.setLink_odo (s : State) (v : Link) : (s.setLink v).odo = s.odo := rfl
@[simp] theorem State.setLink_table (s : State) (v : Link) : (s.setLink v).table = s.table := rfl
@[simp] theorem State.setLink_report (s : State) (v : Link) : (s.setLink v).report = s.report := rfl
@[simp] theorem State.setLink_clear (s : State) (v : Link) : (s.setLink v).clear = s.clear := rfl
@[simp] theorem State.setLink_beacon (s : State) (v : Link) : (s.setLink v).beacon = s.beacon := rfl
@[simp] theorem State.setLink_peers (s : State) (v : Link) : (s.setLink v).peers = s.peers := rfl
@[simp] theorem State.setLink_link (s : State) (v : Link) : (s.setLink v).link = v := rfl
@[simp] theorem State.setLink_choices (s : State) (v : Link) : (s.setLink v).choices = s.choices := rfl
@[simp] theorem State.setLink_pending (s : State) (v : Link) : (s.setLink v).pending = s.pending := rfl
@[simp] theorem State.setLink_self (s : State) : s.setLink s.link = s := rfl
@[simp] theorem State.setLink_twice (s : State) (v w : Link) :
    (s.setLink v).setLink w = s.setLink w := rfl
@[simp] theorem State.setChoices_pins (s : State) (v : Nat) : (s.setChoices v).pins = s.pins := rfl
@[simp] theorem State.setChoices_startup (s : State) (v : Nat) : (s.setChoices v).startup = s.startup := rfl
@[simp] theorem State.setChoices_floor (s : State) (v : Nat) : (s.setChoices v).floor = s.floor := rfl
@[simp] theorem State.setChoices_wall (s : State) (v : Nat) : (s.setChoices v).wall = s.wall := rfl
@[simp] theorem State.setChoices_bump (s : State) (v : Nat) : (s.setChoices v).bump = s.bump := rfl
@[simp] theorem State.setChoices_drop (s : State) (v : Nat) : (s.setChoices v).drop = s.drop := rfl
@[simp] theorem State.setChoices_enc (s : State) (v : Nat) : (s.setChoices v).enc = s.enc := rfl
@[simp] theorem State.setChoices_odo (s : State) (v : Nat) : (s.setChoices v).odo = s.odo := rfl
@[simp] theorem State.setChoices_table (s : State) (v : Nat) : (s.setChoices v).table = s.table := rfl
@[simp] theorem State.setChoices_report (s : State) (v : Nat) : (s.setChoices v).report = s.report := rfl
@[simp] theorem State.setChoices_clear (s : State) (v : Nat) : (s.setChoices v).clear = s.clear := rfl
@[simp] theorem State.setChoices_beacon (s : State) (v : Nat) : (s.setChoices v).beacon = s.beacon := rfl
@[simp] theorem State.setChoices_peers (s : State) (v : Nat) : (s.setChoices v).peers = s.peers := rfl
@[simp] theorem State.setChoices_link (s : State) (v : Nat) : (s.setChoices v).link = s.link := rfl
@[simp] theorem State.setChoices_choices (s : State) (v : Nat) : (s.setChoices v).choices = v := rfl
@[simp] theorem State.setChoices_pending (s : State) (v : Nat) : (s.setChoices v).pending = s.pending := rfl
@[simp] theorem State.setChoices_self (s : State) : s.setChoices s.choices = s := rfl
@[simp] theorem State.setChoices_twice (s : State) (v w : Nat) :
    (s.setChoices v).setChoices w = s.setChoices w := rfl
@[simp] theorem State.setPending_pins (s : State) (v : List Instr) : (s.setPending v).pins = s.pins := rfl
@[simp] theorem State.setPending_startup (s : State) (v : List Instr) : (s.setPending v).startup = s.startup := rfl
@[simp] theorem State.setPending_floor (s : State) (v : List Instr) : (s.setPending v).floor = s.floor := rfl
@[simp] theorem State.setPending_wall (s : State) (v : List Instr) : (s.setPending v).wall = s.wall := rfl
@[simp] theorem State.setPending_bump (s : State) (v : List Instr) : (s.setPending v).bump = s.bump := rfl
@[simp] theorem State.setPending_drop (s : State) (v : List Instr) : (s.setPending v).drop = s.drop := rfl
@[simp] theorem State.setPending_enc (s : State) (v : List Instr) : (s.setPending v).enc = s.enc := rfl
@[simp] theorem State.setPending_odo (s : State) (v : List Instr) : (s.setPending v).odo = s.odo := rfl
@[simp] theorem State.setPending_table (s : State) (v : List Instr) : (s.setPending v).table = s.table := rfl
@[simp] theorem State.setPending_report (s : State) (v : List Instr) : (s.setPending v).report = s.report := rfl
@[simp] theorem State.setPending_clear (s : State) (v : List Instr) : (s.setPending v).clear = s.clear := rfl
@[simp] theorem State.setPending_beacon (s : State) (v : List Instr) : (s.setPending v).beacon = s.beacon := rfl
@[simp] theorem State.setPending_peers (s : State) (v : List Instr) : (s.setPending v).peers = s.peers := rfl
@[simp] theorem State.setPending_link (s : State) (v : List Instr) : (s.setPending v).link = s.link := rfl
@[simp] theorem State.setPending_choices (s : State) (v : List Instr) : (s.setPending v).choices = s.choices := rfl
@[simp] theorem State.setPending_pending (s : State) (v : List Instr) : (s.setPending v).pending = v := rfl
@[simp] theorem State.setPending_self (s : State) : s.setPending s.pending = s := rfl
@[simp] theorem State.setPending_twice (s : State) (v w : List Instr) :
    (s.setPending v).setPending w = s.setPending w := rfl

end Sys2Proof.Machine
end

