-- ==== Sys2Proof/Laws/Counts.lean ====
section
/-! SUPPORT. Counting raises one count and leaves the others. -/

namespace Sys2Proof.Machine

open Sys2Proof

@[simp] theorem State.count_crcError_crcError (s : State) : (s.count .crcError).link.counts.crcError = satInc s.link.counts.crcError := rfl
@[simp] theorem State.count_crcError_overrun (s : State) : (s.count .crcError).link.counts.overrun = s.link.counts.overrun := rfl
@[simp] theorem State.count_crcError_malformed (s : State) : (s.count .crcError).link.counts.malformed = s.link.counts.malformed := rfl
@[simp] theorem State.count_crcError_txFail (s : State) : (s.count .crcError).link.counts.txFail = s.link.counts.txFail := rfl
@[simp] theorem State.count_crcError_duplicate (s : State) : (s.count .crcError).link.counts.duplicate = s.link.counts.duplicate := rfl
@[simp] theorem State.count_crcError_staleReport (s : State) : (s.count .crcError).link.counts.staleReport = s.link.counts.staleReport := rfl
@[simp] theorem State.count_crcError_lateAnswer (s : State) : (s.count .crcError).link.counts.lateAnswer = s.link.counts.lateAnswer := rfl
@[simp] theorem State.count_crcError_tableDiscard (s : State) : (s.count .crcError).link.counts.tableDiscard = s.link.counts.tableDiscard := rfl
@[simp] theorem State.count_crcError_checkForced (s : State) : (s.count .crcError).link.counts.checkForced = s.link.counts.checkForced := rfl
@[simp] theorem State.count_crcError_beaconAbort (s : State) : (s.count .crcError).link.counts.beaconAbort = s.link.counts.beaconAbort := rfl
@[simp] theorem State.count_crcError_blindedBursts (s : State) : (s.count .crcError).link.counts.blindedBursts = s.link.counts.blindedBursts := rfl
@[simp] theorem State.count_crcError_refusedOrder (s : State) : (s.count .crcError).link.counts.refusedOrder = s.link.counts.refusedOrder := rfl
@[simp] theorem State.count_overrun_crcError (s : State) : (s.count .overrun).link.counts.crcError = s.link.counts.crcError := rfl
@[simp] theorem State.count_overrun_overrun (s : State) : (s.count .overrun).link.counts.overrun = satInc s.link.counts.overrun := rfl
@[simp] theorem State.count_overrun_malformed (s : State) : (s.count .overrun).link.counts.malformed = s.link.counts.malformed := rfl
@[simp] theorem State.count_overrun_txFail (s : State) : (s.count .overrun).link.counts.txFail = s.link.counts.txFail := rfl
@[simp] theorem State.count_overrun_duplicate (s : State) : (s.count .overrun).link.counts.duplicate = s.link.counts.duplicate := rfl
@[simp] theorem State.count_overrun_staleReport (s : State) : (s.count .overrun).link.counts.staleReport = s.link.counts.staleReport := rfl
@[simp] theorem State.count_overrun_lateAnswer (s : State) : (s.count .overrun).link.counts.lateAnswer = s.link.counts.lateAnswer := rfl
@[simp] theorem State.count_overrun_tableDiscard (s : State) : (s.count .overrun).link.counts.tableDiscard = s.link.counts.tableDiscard := rfl
@[simp] theorem State.count_overrun_checkForced (s : State) : (s.count .overrun).link.counts.checkForced = s.link.counts.checkForced := rfl
@[simp] theorem State.count_overrun_beaconAbort (s : State) : (s.count .overrun).link.counts.beaconAbort = s.link.counts.beaconAbort := rfl
@[simp] theorem State.count_overrun_blindedBursts (s : State) : (s.count .overrun).link.counts.blindedBursts = s.link.counts.blindedBursts := rfl
@[simp] theorem State.count_overrun_refusedOrder (s : State) : (s.count .overrun).link.counts.refusedOrder = s.link.counts.refusedOrder := rfl
@[simp] theorem State.count_malformed_crcError (s : State) : (s.count .malformed).link.counts.crcError = s.link.counts.crcError := rfl
@[simp] theorem State.count_malformed_overrun (s : State) : (s.count .malformed).link.counts.overrun = s.link.counts.overrun := rfl
@[simp] theorem State.count_malformed_malformed (s : State) : (s.count .malformed).link.counts.malformed = satInc s.link.counts.malformed := rfl
@[simp] theorem State.count_malformed_txFail (s : State) : (s.count .malformed).link.counts.txFail = s.link.counts.txFail := rfl
@[simp] theorem State.count_malformed_duplicate (s : State) : (s.count .malformed).link.counts.duplicate = s.link.counts.duplicate := rfl
@[simp] theorem State.count_malformed_staleReport (s : State) : (s.count .malformed).link.counts.staleReport = s.link.counts.staleReport := rfl
@[simp] theorem State.count_malformed_lateAnswer (s : State) : (s.count .malformed).link.counts.lateAnswer = s.link.counts.lateAnswer := rfl
@[simp] theorem State.count_malformed_tableDiscard (s : State) : (s.count .malformed).link.counts.tableDiscard = s.link.counts.tableDiscard := rfl
@[simp] theorem State.count_malformed_checkForced (s : State) : (s.count .malformed).link.counts.checkForced = s.link.counts.checkForced := rfl
@[simp] theorem State.count_malformed_beaconAbort (s : State) : (s.count .malformed).link.counts.beaconAbort = s.link.counts.beaconAbort := rfl
@[simp] theorem State.count_malformed_blindedBursts (s : State) : (s.count .malformed).link.counts.blindedBursts = s.link.counts.blindedBursts := rfl
@[simp] theorem State.count_malformed_refusedOrder (s : State) : (s.count .malformed).link.counts.refusedOrder = s.link.counts.refusedOrder := rfl
@[simp] theorem State.count_txFail_crcError (s : State) : (s.count .txFail).link.counts.crcError = s.link.counts.crcError := rfl
@[simp] theorem State.count_txFail_overrun (s : State) : (s.count .txFail).link.counts.overrun = s.link.counts.overrun := rfl
@[simp] theorem State.count_txFail_malformed (s : State) : (s.count .txFail).link.counts.malformed = s.link.counts.malformed := rfl
@[simp] theorem State.count_txFail_txFail (s : State) : (s.count .txFail).link.counts.txFail = satInc s.link.counts.txFail := rfl
@[simp] theorem State.count_txFail_duplicate (s : State) : (s.count .txFail).link.counts.duplicate = s.link.counts.duplicate := rfl
@[simp] theorem State.count_txFail_staleReport (s : State) : (s.count .txFail).link.counts.staleReport = s.link.counts.staleReport := rfl
@[simp] theorem State.count_txFail_lateAnswer (s : State) : (s.count .txFail).link.counts.lateAnswer = s.link.counts.lateAnswer := rfl
@[simp] theorem State.count_txFail_tableDiscard (s : State) : (s.count .txFail).link.counts.tableDiscard = s.link.counts.tableDiscard := rfl
@[simp] theorem State.count_txFail_checkForced (s : State) : (s.count .txFail).link.counts.checkForced = s.link.counts.checkForced := rfl
@[simp] theorem State.count_txFail_beaconAbort (s : State) : (s.count .txFail).link.counts.beaconAbort = s.link.counts.beaconAbort := rfl
@[simp] theorem State.count_txFail_blindedBursts (s : State) : (s.count .txFail).link.counts.blindedBursts = s.link.counts.blindedBursts := rfl
@[simp] theorem State.count_txFail_refusedOrder (s : State) : (s.count .txFail).link.counts.refusedOrder = s.link.counts.refusedOrder := rfl
@[simp] theorem State.count_duplicate_crcError (s : State) : (s.count .duplicate).link.counts.crcError = s.link.counts.crcError := rfl
@[simp] theorem State.count_duplicate_overrun (s : State) : (s.count .duplicate).link.counts.overrun = s.link.counts.overrun := rfl
@[simp] theorem State.count_duplicate_malformed (s : State) : (s.count .duplicate).link.counts.malformed = s.link.counts.malformed := rfl
@[simp] theorem State.count_duplicate_txFail (s : State) : (s.count .duplicate).link.counts.txFail = s.link.counts.txFail := rfl
@[simp] theorem State.count_duplicate_duplicate (s : State) : (s.count .duplicate).link.counts.duplicate = satInc s.link.counts.duplicate := rfl
@[simp] theorem State.count_duplicate_staleReport (s : State) : (s.count .duplicate).link.counts.staleReport = s.link.counts.staleReport := rfl
@[simp] theorem State.count_duplicate_lateAnswer (s : State) : (s.count .duplicate).link.counts.lateAnswer = s.link.counts.lateAnswer := rfl
@[simp] theorem State.count_duplicate_tableDiscard (s : State) : (s.count .duplicate).link.counts.tableDiscard = s.link.counts.tableDiscard := rfl
@[simp] theorem State.count_duplicate_checkForced (s : State) : (s.count .duplicate).link.counts.checkForced = s.link.counts.checkForced := rfl
@[simp] theorem State.count_duplicate_beaconAbort (s : State) : (s.count .duplicate).link.counts.beaconAbort = s.link.counts.beaconAbort := rfl
@[simp] theorem State.count_duplicate_blindedBursts (s : State) : (s.count .duplicate).link.counts.blindedBursts = s.link.counts.blindedBursts := rfl
@[simp] theorem State.count_duplicate_refusedOrder (s : State) : (s.count .duplicate).link.counts.refusedOrder = s.link.counts.refusedOrder := rfl
@[simp] theorem State.count_staleReport_crcError (s : State) : (s.count .staleReport).link.counts.crcError = s.link.counts.crcError := rfl
@[simp] theorem State.count_staleReport_overrun (s : State) : (s.count .staleReport).link.counts.overrun = s.link.counts.overrun := rfl
@[simp] theorem State.count_staleReport_malformed (s : State) : (s.count .staleReport).link.counts.malformed = s.link.counts.malformed := rfl
@[simp] theorem State.count_staleReport_txFail (s : State) : (s.count .staleReport).link.counts.txFail = s.link.counts.txFail := rfl
@[simp] theorem State.count_staleReport_duplicate (s : State) : (s.count .staleReport).link.counts.duplicate = s.link.counts.duplicate := rfl
@[simp] theorem State.count_staleReport_staleReport (s : State) : (s.count .staleReport).link.counts.staleReport = satInc s.link.counts.staleReport := rfl
@[simp] theorem State.count_staleReport_lateAnswer (s : State) : (s.count .staleReport).link.counts.lateAnswer = s.link.counts.lateAnswer := rfl
@[simp] theorem State.count_staleReport_tableDiscard (s : State) : (s.count .staleReport).link.counts.tableDiscard = s.link.counts.tableDiscard := rfl
@[simp] theorem State.count_staleReport_checkForced (s : State) : (s.count .staleReport).link.counts.checkForced = s.link.counts.checkForced := rfl
@[simp] theorem State.count_staleReport_beaconAbort (s : State) : (s.count .staleReport).link.counts.beaconAbort = s.link.counts.beaconAbort := rfl
@[simp] theorem State.count_staleReport_blindedBursts (s : State) : (s.count .staleReport).link.counts.blindedBursts = s.link.counts.blindedBursts := rfl
@[simp] theorem State.count_staleReport_refusedOrder (s : State) : (s.count .staleReport).link.counts.refusedOrder = s.link.counts.refusedOrder := rfl
@[simp] theorem State.count_lateAnswer_crcError (s : State) : (s.count .lateAnswer).link.counts.crcError = s.link.counts.crcError := rfl
@[simp] theorem State.count_lateAnswer_overrun (s : State) : (s.count .lateAnswer).link.counts.overrun = s.link.counts.overrun := rfl
@[simp] theorem State.count_lateAnswer_malformed (s : State) : (s.count .lateAnswer).link.counts.malformed = s.link.counts.malformed := rfl
@[simp] theorem State.count_lateAnswer_txFail (s : State) : (s.count .lateAnswer).link.counts.txFail = s.link.counts.txFail := rfl
@[simp] theorem State.count_lateAnswer_duplicate (s : State) : (s.count .lateAnswer).link.counts.duplicate = s.link.counts.duplicate := rfl
@[simp] theorem State.count_lateAnswer_staleReport (s : State) : (s.count .lateAnswer).link.counts.staleReport = s.link.counts.staleReport := rfl
@[simp] theorem State.count_lateAnswer_lateAnswer (s : State) : (s.count .lateAnswer).link.counts.lateAnswer = satInc s.link.counts.lateAnswer := rfl
@[simp] theorem State.count_lateAnswer_tableDiscard (s : State) : (s.count .lateAnswer).link.counts.tableDiscard = s.link.counts.tableDiscard := rfl
@[simp] theorem State.count_lateAnswer_checkForced (s : State) : (s.count .lateAnswer).link.counts.checkForced = s.link.counts.checkForced := rfl
@[simp] theorem State.count_lateAnswer_beaconAbort (s : State) : (s.count .lateAnswer).link.counts.beaconAbort = s.link.counts.beaconAbort := rfl
@[simp] theorem State.count_lateAnswer_blindedBursts (s : State) : (s.count .lateAnswer).link.counts.blindedBursts = s.link.counts.blindedBursts := rfl
@[simp] theorem State.count_lateAnswer_refusedOrder (s : State) : (s.count .lateAnswer).link.counts.refusedOrder = s.link.counts.refusedOrder := rfl
@[simp] theorem State.count_tableDiscard_crcError (s : State) : (s.count .tableDiscard).link.counts.crcError = s.link.counts.crcError := rfl
@[simp] theorem State.count_tableDiscard_overrun (s : State) : (s.count .tableDiscard).link.counts.overrun = s.link.counts.overrun := rfl
@[simp] theorem State.count_tableDiscard_malformed (s : State) : (s.count .tableDiscard).link.counts.malformed = s.link.counts.malformed := rfl
@[simp] theorem State.count_tableDiscard_txFail (s : State) : (s.count .tableDiscard).link.counts.txFail = s.link.counts.txFail := rfl
@[simp] theorem State.count_tableDiscard_duplicate (s : State) : (s.count .tableDiscard).link.counts.duplicate = s.link.counts.duplicate := rfl
@[simp] theorem State.count_tableDiscard_staleReport (s : State) : (s.count .tableDiscard).link.counts.staleReport = s.link.counts.staleReport := rfl
@[simp] theorem State.count_tableDiscard_lateAnswer (s : State) : (s.count .tableDiscard).link.counts.lateAnswer = s.link.counts.lateAnswer := rfl
@[simp] theorem State.count_tableDiscard_tableDiscard (s : State) : (s.count .tableDiscard).link.counts.tableDiscard = satInc s.link.counts.tableDiscard := rfl
@[simp] theorem State.count_tableDiscard_checkForced (s : State) : (s.count .tableDiscard).link.counts.checkForced = s.link.counts.checkForced := rfl
@[simp] theorem State.count_tableDiscard_beaconAbort (s : State) : (s.count .tableDiscard).link.counts.beaconAbort = s.link.counts.beaconAbort := rfl
@[simp] theorem State.count_tableDiscard_blindedBursts (s : State) : (s.count .tableDiscard).link.counts.blindedBursts = s.link.counts.blindedBursts := rfl
@[simp] theorem State.count_tableDiscard_refusedOrder (s : State) : (s.count .tableDiscard).link.counts.refusedOrder = s.link.counts.refusedOrder := rfl
@[simp] theorem State.count_checkForced_crcError (s : State) : (s.count .checkForced).link.counts.crcError = s.link.counts.crcError := rfl
@[simp] theorem State.count_checkForced_overrun (s : State) : (s.count .checkForced).link.counts.overrun = s.link.counts.overrun := rfl
@[simp] theorem State.count_checkForced_malformed (s : State) : (s.count .checkForced).link.counts.malformed = s.link.counts.malformed := rfl
@[simp] theorem State.count_checkForced_txFail (s : State) : (s.count .checkForced).link.counts.txFail = s.link.counts.txFail := rfl
@[simp] theorem State.count_checkForced_duplicate (s : State) : (s.count .checkForced).link.counts.duplicate = s.link.counts.duplicate := rfl
@[simp] theorem State.count_checkForced_staleReport (s : State) : (s.count .checkForced).link.counts.staleReport = s.link.counts.staleReport := rfl
@[simp] theorem State.count_checkForced_lateAnswer (s : State) : (s.count .checkForced).link.counts.lateAnswer = s.link.counts.lateAnswer := rfl
@[simp] theorem State.count_checkForced_tableDiscard (s : State) : (s.count .checkForced).link.counts.tableDiscard = s.link.counts.tableDiscard := rfl
@[simp] theorem State.count_checkForced_checkForced (s : State) : (s.count .checkForced).link.counts.checkForced = satInc s.link.counts.checkForced := rfl
@[simp] theorem State.count_checkForced_beaconAbort (s : State) : (s.count .checkForced).link.counts.beaconAbort = s.link.counts.beaconAbort := rfl
@[simp] theorem State.count_checkForced_blindedBursts (s : State) : (s.count .checkForced).link.counts.blindedBursts = s.link.counts.blindedBursts := rfl
@[simp] theorem State.count_checkForced_refusedOrder (s : State) : (s.count .checkForced).link.counts.refusedOrder = s.link.counts.refusedOrder := rfl
@[simp] theorem State.count_beaconAbort_crcError (s : State) : (s.count .beaconAbort).link.counts.crcError = s.link.counts.crcError := rfl
@[simp] theorem State.count_beaconAbort_overrun (s : State) : (s.count .beaconAbort).link.counts.overrun = s.link.counts.overrun := rfl
@[simp] theorem State.count_beaconAbort_malformed (s : State) : (s.count .beaconAbort).link.counts.malformed = s.link.counts.malformed := rfl
@[simp] theorem State.count_beaconAbort_txFail (s : State) : (s.count .beaconAbort).link.counts.txFail = s.link.counts.txFail := rfl
@[simp] theorem State.count_beaconAbort_duplicate (s : State) : (s.count .beaconAbort).link.counts.duplicate = s.link.counts.duplicate := rfl
@[simp] theorem State.count_beaconAbort_staleReport (s : State) : (s.count .beaconAbort).link.counts.staleReport = s.link.counts.staleReport := rfl
@[simp] theorem State.count_beaconAbort_lateAnswer (s : State) : (s.count .beaconAbort).link.counts.lateAnswer = s.link.counts.lateAnswer := rfl
@[simp] theorem State.count_beaconAbort_tableDiscard (s : State) : (s.count .beaconAbort).link.counts.tableDiscard = s.link.counts.tableDiscard := rfl
@[simp] theorem State.count_beaconAbort_checkForced (s : State) : (s.count .beaconAbort).link.counts.checkForced = s.link.counts.checkForced := rfl
@[simp] theorem State.count_beaconAbort_beaconAbort (s : State) : (s.count .beaconAbort).link.counts.beaconAbort = satInc s.link.counts.beaconAbort := rfl
@[simp] theorem State.count_beaconAbort_blindedBursts (s : State) : (s.count .beaconAbort).link.counts.blindedBursts = s.link.counts.blindedBursts := rfl
@[simp] theorem State.count_beaconAbort_refusedOrder (s : State) : (s.count .beaconAbort).link.counts.refusedOrder = s.link.counts.refusedOrder := rfl
@[simp] theorem State.count_blindedBursts_crcError (s : State) : (s.count .blindedBursts).link.counts.crcError = s.link.counts.crcError := rfl
@[simp] theorem State.count_blindedBursts_overrun (s : State) : (s.count .blindedBursts).link.counts.overrun = s.link.counts.overrun := rfl
@[simp] theorem State.count_blindedBursts_malformed (s : State) : (s.count .blindedBursts).link.counts.malformed = s.link.counts.malformed := rfl
@[simp] theorem State.count_blindedBursts_txFail (s : State) : (s.count .blindedBursts).link.counts.txFail = s.link.counts.txFail := rfl
@[simp] theorem State.count_blindedBursts_duplicate (s : State) : (s.count .blindedBursts).link.counts.duplicate = s.link.counts.duplicate := rfl
@[simp] theorem State.count_blindedBursts_staleReport (s : State) : (s.count .blindedBursts).link.counts.staleReport = s.link.counts.staleReport := rfl
@[simp] theorem State.count_blindedBursts_lateAnswer (s : State) : (s.count .blindedBursts).link.counts.lateAnswer = s.link.counts.lateAnswer := rfl
@[simp] theorem State.count_blindedBursts_tableDiscard (s : State) : (s.count .blindedBursts).link.counts.tableDiscard = s.link.counts.tableDiscard := rfl
@[simp] theorem State.count_blindedBursts_checkForced (s : State) : (s.count .blindedBursts).link.counts.checkForced = s.link.counts.checkForced := rfl
@[simp] theorem State.count_blindedBursts_beaconAbort (s : State) : (s.count .blindedBursts).link.counts.beaconAbort = s.link.counts.beaconAbort := rfl
@[simp] theorem State.count_blindedBursts_blindedBursts (s : State) : (s.count .blindedBursts).link.counts.blindedBursts = satInc s.link.counts.blindedBursts := rfl
@[simp] theorem State.count_blindedBursts_refusedOrder (s : State) : (s.count .blindedBursts).link.counts.refusedOrder = s.link.counts.refusedOrder := rfl
@[simp] theorem State.count_refusedOrder_crcError (s : State) : (s.count .refusedOrder).link.counts.crcError = s.link.counts.crcError := rfl
@[simp] theorem State.count_refusedOrder_overrun (s : State) : (s.count .refusedOrder).link.counts.overrun = s.link.counts.overrun := rfl
@[simp] theorem State.count_refusedOrder_malformed (s : State) : (s.count .refusedOrder).link.counts.malformed = s.link.counts.malformed := rfl
@[simp] theorem State.count_refusedOrder_txFail (s : State) : (s.count .refusedOrder).link.counts.txFail = s.link.counts.txFail := rfl
@[simp] theorem State.count_refusedOrder_duplicate (s : State) : (s.count .refusedOrder).link.counts.duplicate = s.link.counts.duplicate := rfl
@[simp] theorem State.count_refusedOrder_staleReport (s : State) : (s.count .refusedOrder).link.counts.staleReport = s.link.counts.staleReport := rfl
@[simp] theorem State.count_refusedOrder_lateAnswer (s : State) : (s.count .refusedOrder).link.counts.lateAnswer = s.link.counts.lateAnswer := rfl
@[simp] theorem State.count_refusedOrder_tableDiscard (s : State) : (s.count .refusedOrder).link.counts.tableDiscard = s.link.counts.tableDiscard := rfl
@[simp] theorem State.count_refusedOrder_checkForced (s : State) : (s.count .refusedOrder).link.counts.checkForced = s.link.counts.checkForced := rfl
@[simp] theorem State.count_refusedOrder_beaconAbort (s : State) : (s.count .refusedOrder).link.counts.beaconAbort = s.link.counts.beaconAbort := rfl
@[simp] theorem State.count_refusedOrder_blindedBursts (s : State) : (s.count .refusedOrder).link.counts.blindedBursts = s.link.counts.blindedBursts := rfl
@[simp] theorem State.count_refusedOrder_refusedOrder (s : State) : (s.count .refusedOrder).link.counts.refusedOrder = satInc s.link.counts.refusedOrder := rfl

end Sys2Proof.Machine
end

