-- ==== Sys2Proof/Laws/OpsFrame.lean ====
section
/-! SUPPORT. The blocks that the shared operations leave unchanged. -/

namespace Sys2Proof.Machine

open Sys2Proof

@[simp] theorem State.count_pins (s : State) (i : CountId) : (s.count i).pins = s.pins := rfl
@[simp] theorem State.count_startup (s : State) (i : CountId) : (s.count i).startup = s.startup := rfl
@[simp] theorem State.count_floor (s : State) (i : CountId) : (s.count i).floor = s.floor := rfl
@[simp] theorem State.count_wall (s : State) (i : CountId) : (s.count i).wall = s.wall := rfl
@[simp] theorem State.count_bump (s : State) (i : CountId) : (s.count i).bump = s.bump := rfl
@[simp] theorem State.count_drop (s : State) (i : CountId) : (s.count i).drop = s.drop := rfl
@[simp] theorem State.count_enc (s : State) (i : CountId) : (s.count i).enc = s.enc := rfl
@[simp] theorem State.count_odo (s : State) (i : CountId) : (s.count i).odo = s.odo := rfl
@[simp] theorem State.count_table (s : State) (i : CountId) : (s.count i).table = s.table := rfl
@[simp] theorem State.count_report (s : State) (i : CountId) : (s.count i).report = s.report := rfl
@[simp] theorem State.count_clear (s : State) (i : CountId) : (s.count i).clear = s.clear := rfl
@[simp] theorem State.count_beacon (s : State) (i : CountId) : (s.count i).beacon = s.beacon := rfl
@[simp] theorem State.count_peers (s : State) (i : CountId) : (s.count i).peers = s.peers := rfl
@[simp] theorem State.count_choices (s : State) (i : CountId) : (s.count i).choices = s.choices := rfl
@[simp] theorem State.count_pending (s : State) (i : CountId) : (s.count i).pending = s.pending := rfl
@[simp] theorem State.bootEnded_pins (s : State) (e : TxEntry) : (s.bootEnded e).pins = s.pins := by
  unfold State.bootEnded; split <;> simp
@[simp] theorem State.bootEnded_floor (s : State) (e : TxEntry) : (s.bootEnded e).floor = s.floor := by
  unfold State.bootEnded; split <;> simp
@[simp] theorem State.bootEnded_wall (s : State) (e : TxEntry) : (s.bootEnded e).wall = s.wall := by
  unfold State.bootEnded; split <;> simp
@[simp] theorem State.bootEnded_bump (s : State) (e : TxEntry) : (s.bootEnded e).bump = s.bump := by
  unfold State.bootEnded; split <;> simp
@[simp] theorem State.bootEnded_drop (s : State) (e : TxEntry) : (s.bootEnded e).drop = s.drop := by
  unfold State.bootEnded; split <;> simp
@[simp] theorem State.bootEnded_enc (s : State) (e : TxEntry) : (s.bootEnded e).enc = s.enc := by
  unfold State.bootEnded; split <;> simp
@[simp] theorem State.bootEnded_odo (s : State) (e : TxEntry) : (s.bootEnded e).odo = s.odo := by
  unfold State.bootEnded; split <;> simp
@[simp] theorem State.bootEnded_table (s : State) (e : TxEntry) : (s.bootEnded e).table = s.table := by
  unfold State.bootEnded; split <;> simp
@[simp] theorem State.bootEnded_report (s : State) (e : TxEntry) : (s.bootEnded e).report = s.report := by
  unfold State.bootEnded; split <;> simp
@[simp] theorem State.bootEnded_clear (s : State) (e : TxEntry) : (s.bootEnded e).clear = s.clear := by
  unfold State.bootEnded; split <;> simp
@[simp] theorem State.bootEnded_beacon (s : State) (e : TxEntry) : (s.bootEnded e).beacon = s.beacon := by
  unfold State.bootEnded; split <;> simp
@[simp] theorem State.bootEnded_peers (s : State) (e : TxEntry) : (s.bootEnded e).peers = s.peers := by
  unfold State.bootEnded; split <;> simp
@[simp] theorem State.bootEnded_link (s : State) (e : TxEntry) : (s.bootEnded e).link = s.link := by
  unfold State.bootEnded; split <;> simp
@[simp] theorem State.bootEnded_choices (s : State) (e : TxEntry) : (s.bootEnded e).choices = s.choices := by
  unfold State.bootEnded; split <;> simp
@[simp] theorem State.bootEnded_pending (s : State) (e : TxEntry) : (s.bootEnded e).pending = s.pending := by
  unfold State.bootEnded; split <;> simp
@[simp] theorem State.loseFrame_pins (s : State) (e : TxEntry) : (s.loseFrame e).pins = s.pins := by simp [State.loseFrame]
@[simp] theorem State.loseFrame_floor (s : State) (e : TxEntry) : (s.loseFrame e).floor = s.floor := by simp [State.loseFrame]
@[simp] theorem State.loseFrame_wall (s : State) (e : TxEntry) : (s.loseFrame e).wall = s.wall := by simp [State.loseFrame]
@[simp] theorem State.loseFrame_bump (s : State) (e : TxEntry) : (s.loseFrame e).bump = s.bump := by simp [State.loseFrame]
@[simp] theorem State.loseFrame_drop (s : State) (e : TxEntry) : (s.loseFrame e).drop = s.drop := by simp [State.loseFrame]
@[simp] theorem State.loseFrame_enc (s : State) (e : TxEntry) : (s.loseFrame e).enc = s.enc := by simp [State.loseFrame]
@[simp] theorem State.loseFrame_odo (s : State) (e : TxEntry) : (s.loseFrame e).odo = s.odo := by simp [State.loseFrame]
@[simp] theorem State.loseFrame_table (s : State) (e : TxEntry) : (s.loseFrame e).table = s.table := by simp [State.loseFrame]
@[simp] theorem State.loseFrame_report (s : State) (e : TxEntry) : (s.loseFrame e).report = s.report := by simp [State.loseFrame]
@[simp] theorem State.loseFrame_clear (s : State) (e : TxEntry) : (s.loseFrame e).clear = s.clear := by simp [State.loseFrame]
@[simp] theorem State.loseFrame_beacon (s : State) (e : TxEntry) : (s.loseFrame e).beacon = s.beacon := by simp [State.loseFrame]
@[simp] theorem State.loseFrame_peers (s : State) (e : TxEntry) : (s.loseFrame e).peers = s.peers := by simp [State.loseFrame]
@[simp] theorem State.loseFrame_choices (s : State) (e : TxEntry) : (s.loseFrame e).choices = s.choices := by simp [State.loseFrame]
@[simp] theorem State.loseFrame_pending (s : State) (e : TxEntry) : (s.loseFrame e).pending = s.pending := by simp [State.loseFrame]
@[simp] theorem State.placeAtFull_pins (s : State) (e : TxEntry) : (s.placeAtFull e).pins = s.pins := by
  unfold State.placeAtFull; (repeat' split) <;> simp
@[simp] theorem State.placeAtFull_floor (s : State) (e : TxEntry) : (s.placeAtFull e).floor = s.floor := by
  unfold State.placeAtFull; (repeat' split) <;> simp
@[simp] theorem State.placeAtFull_wall (s : State) (e : TxEntry) : (s.placeAtFull e).wall = s.wall := by
  unfold State.placeAtFull; (repeat' split) <;> simp
@[simp] theorem State.placeAtFull_bump (s : State) (e : TxEntry) : (s.placeAtFull e).bump = s.bump := by
  unfold State.placeAtFull; (repeat' split) <;> simp
@[simp] theorem State.placeAtFull_drop (s : State) (e : TxEntry) : (s.placeAtFull e).drop = s.drop := by
  unfold State.placeAtFull; (repeat' split) <;> simp
@[simp] theorem State.placeAtFull_enc (s : State) (e : TxEntry) : (s.placeAtFull e).enc = s.enc := by
  unfold State.placeAtFull; (repeat' split) <;> simp
@[simp] theorem State.placeAtFull_odo (s : State) (e : TxEntry) : (s.placeAtFull e).odo = s.odo := by
  unfold State.placeAtFull; (repeat' split) <;> simp
@[simp] theorem State.placeAtFull_table (s : State) (e : TxEntry) : (s.placeAtFull e).table = s.table := by
  unfold State.placeAtFull; (repeat' split) <;> simp
@[simp] theorem State.placeAtFull_report (s : State) (e : TxEntry) : (s.placeAtFull e).report = s.report := by
  unfold State.placeAtFull; (repeat' split) <;> simp
@[simp] theorem State.placeAtFull_clear (s : State) (e : TxEntry) : (s.placeAtFull e).clear = s.clear := by
  unfold State.placeAtFull; (repeat' split) <;> simp
@[simp] theorem State.placeAtFull_beacon (s : State) (e : TxEntry) : (s.placeAtFull e).beacon = s.beacon := by
  unfold State.placeAtFull; (repeat' split) <;> simp
@[simp] theorem State.placeAtFull_peers (s : State) (e : TxEntry) : (s.placeAtFull e).peers = s.peers := by
  unfold State.placeAtFull; (repeat' split) <;> simp
@[simp] theorem State.placeAtFull_choices (s : State) (e : TxEntry) : (s.placeAtFull e).choices = s.choices := by
  unfold State.placeAtFull; (repeat' split) <;> simp
@[simp] theorem State.placeAtFull_pending (s : State) (e : TxEntry) : (s.placeAtFull e).pending = s.pending := by
  unfold State.placeAtFull; (repeat' split) <;> simp
@[simp] theorem State.enqueue_pins (s : State) (p : Payload) (u : Bool) : (s.enqueue p u).pins = s.pins := by
  unfold State.enqueue; dsimp only; (repeat' split) <;> simp
@[simp] theorem State.enqueue_floor (s : State) (p : Payload) (u : Bool) : (s.enqueue p u).floor = s.floor := by
  unfold State.enqueue; dsimp only; (repeat' split) <;> simp
@[simp] theorem State.enqueue_wall (s : State) (p : Payload) (u : Bool) : (s.enqueue p u).wall = s.wall := by
  unfold State.enqueue; dsimp only; (repeat' split) <;> simp
@[simp] theorem State.enqueue_bump (s : State) (p : Payload) (u : Bool) : (s.enqueue p u).bump = s.bump := by
  unfold State.enqueue; dsimp only; (repeat' split) <;> simp
@[simp] theorem State.enqueue_drop (s : State) (p : Payload) (u : Bool) : (s.enqueue p u).drop = s.drop := by
  unfold State.enqueue; dsimp only; (repeat' split) <;> simp
@[simp] theorem State.enqueue_enc (s : State) (p : Payload) (u : Bool) : (s.enqueue p u).enc = s.enc := by
  unfold State.enqueue; dsimp only; (repeat' split) <;> simp
@[simp] theorem State.enqueue_odo (s : State) (p : Payload) (u : Bool) : (s.enqueue p u).odo = s.odo := by
  unfold State.enqueue; dsimp only; (repeat' split) <;> simp
@[simp] theorem State.enqueue_table (s : State) (p : Payload) (u : Bool) : (s.enqueue p u).table = s.table := by
  unfold State.enqueue; dsimp only; (repeat' split) <;> simp
@[simp] theorem State.enqueue_report (s : State) (p : Payload) (u : Bool) : (s.enqueue p u).report = s.report := by
  unfold State.enqueue; dsimp only; (repeat' split) <;> simp
@[simp] theorem State.enqueue_clear (s : State) (p : Payload) (u : Bool) : (s.enqueue p u).clear = s.clear := by
  unfold State.enqueue; dsimp only; (repeat' split) <;> simp
@[simp] theorem State.enqueue_beacon (s : State) (p : Payload) (u : Bool) : (s.enqueue p u).beacon = s.beacon := by
  unfold State.enqueue; dsimp only; (repeat' split) <;> simp
@[simp] theorem State.enqueue_peers (s : State) (p : Payload) (u : Bool) : (s.enqueue p u).peers = s.peers := by
  unfold State.enqueue; dsimp only; (repeat' split) <;> simp
@[simp] theorem State.enqueue_choices (s : State) (p : Payload) (u : Bool) : (s.enqueue p u).choices = s.choices := by
  unfold State.enqueue; dsimp only; (repeat' split) <;> simp
@[simp] theorem State.enqueue_pending (s : State) (p : Payload) (u : Bool) : (s.enqueue p u).pending = s.pending := by
  unfold State.enqueue; dsimp only; (repeat' split) <;> simp
@[simp] theorem State.formBoot_pins (s : State) (c : ProgressCode) : (s.formBoot c).pins = s.pins := by simp [State.formBoot]
@[simp] theorem State.formBoot_floor (s : State) (c : ProgressCode) : (s.formBoot c).floor = s.floor := by simp [State.formBoot]
@[simp] theorem State.formBoot_wall (s : State) (c : ProgressCode) : (s.formBoot c).wall = s.wall := by simp [State.formBoot]
@[simp] theorem State.formBoot_bump (s : State) (c : ProgressCode) : (s.formBoot c).bump = s.bump := by simp [State.formBoot]
@[simp] theorem State.formBoot_drop (s : State) (c : ProgressCode) : (s.formBoot c).drop = s.drop := by simp [State.formBoot]
@[simp] theorem State.formBoot_enc (s : State) (c : ProgressCode) : (s.formBoot c).enc = s.enc := by simp [State.formBoot]
@[simp] theorem State.formBoot_odo (s : State) (c : ProgressCode) : (s.formBoot c).odo = s.odo := by simp [State.formBoot]
@[simp] theorem State.formBoot_table (s : State) (c : ProgressCode) : (s.formBoot c).table = s.table := by simp [State.formBoot]
@[simp] theorem State.formBoot_report (s : State) (c : ProgressCode) : (s.formBoot c).report = s.report := by simp [State.formBoot]
@[simp] theorem State.formBoot_clear (s : State) (c : ProgressCode) : (s.formBoot c).clear = s.clear := by simp [State.formBoot]
@[simp] theorem State.formBoot_beacon (s : State) (c : ProgressCode) : (s.formBoot c).beacon = s.beacon := by simp [State.formBoot]
@[simp] theorem State.formBoot_peers (s : State) (c : ProgressCode) : (s.formBoot c).peers = s.peers := by simp [State.formBoot]
@[simp] theorem State.formBoot_choices (s : State) (c : ProgressCode) : (s.formBoot c).choices = s.choices := by simp [State.formBoot]
@[simp] theorem State.formBoot_pending (s : State) (c : ProgressCode) : (s.formBoot c).pending = s.pending := by simp [State.formBoot]
@[simp] theorem State.formPendingBoot_pins (s : State) (c : ProgressCode) : (s.formPendingBoot c).pins = s.pins := by simp [State.formPendingBoot]
@[simp] theorem State.formPendingBoot_floor (s : State) (c : ProgressCode) : (s.formPendingBoot c).floor = s.floor := by simp [State.formPendingBoot]
@[simp] theorem State.formPendingBoot_wall (s : State) (c : ProgressCode) : (s.formPendingBoot c).wall = s.wall := by simp [State.formPendingBoot]
@[simp] theorem State.formPendingBoot_bump (s : State) (c : ProgressCode) : (s.formPendingBoot c).bump = s.bump := by simp [State.formPendingBoot]
@[simp] theorem State.formPendingBoot_drop (s : State) (c : ProgressCode) : (s.formPendingBoot c).drop = s.drop := by simp [State.formPendingBoot]
@[simp] theorem State.formPendingBoot_enc (s : State) (c : ProgressCode) : (s.formPendingBoot c).enc = s.enc := by simp [State.formPendingBoot]
@[simp] theorem State.formPendingBoot_odo (s : State) (c : ProgressCode) : (s.formPendingBoot c).odo = s.odo := by simp [State.formPendingBoot]
@[simp] theorem State.formPendingBoot_table (s : State) (c : ProgressCode) : (s.formPendingBoot c).table = s.table := by simp [State.formPendingBoot]
@[simp] theorem State.formPendingBoot_report (s : State) (c : ProgressCode) : (s.formPendingBoot c).report = s.report := by simp [State.formPendingBoot]
@[simp] theorem State.formPendingBoot_clear (s : State) (c : ProgressCode) : (s.formPendingBoot c).clear = s.clear := by simp [State.formPendingBoot]
@[simp] theorem State.formPendingBoot_beacon (s : State) (c : ProgressCode) : (s.formPendingBoot c).beacon = s.beacon := by simp [State.formPendingBoot]
@[simp] theorem State.formPendingBoot_peers (s : State) (c : ProgressCode) : (s.formPendingBoot c).peers = s.peers := by simp [State.formPendingBoot]
@[simp] theorem State.formPendingBoot_choices (s : State) (c : ProgressCode) : (s.formPendingBoot c).choices = s.choices := by simp [State.formPendingBoot]
@[simp] theorem State.formPendingBoot_pending (s : State) (c : ProgressCode) : (s.formPendingBoot c).pending = s.pending := by simp [State.formPendingBoot]
@[simp] theorem State.setRecords_pins (s : State) (rs : List Record) : (s.setRecords rs).pins = s.pins := rfl
@[simp] theorem State.setRecords_startup (s : State) (rs : List Record) : (s.setRecords rs).startup = s.startup := rfl
@[simp] theorem State.setRecords_floor (s : State) (rs : List Record) : (s.setRecords rs).floor = s.floor := rfl
@[simp] theorem State.setRecords_wall (s : State) (rs : List Record) : (s.setRecords rs).wall = s.wall := rfl
@[simp] theorem State.setRecords_bump (s : State) (rs : List Record) : (s.setRecords rs).bump = s.bump := rfl
@[simp] theorem State.setRecords_drop (s : State) (rs : List Record) : (s.setRecords rs).drop = s.drop := rfl
@[simp] theorem State.setRecords_enc (s : State) (rs : List Record) : (s.setRecords rs).enc = s.enc := rfl
@[simp] theorem State.setRecords_odo (s : State) (rs : List Record) : (s.setRecords rs).odo = s.odo := rfl
@[simp] theorem State.setRecords_report (s : State) (rs : List Record) : (s.setRecords rs).report = s.report := rfl
@[simp] theorem State.setRecords_clear (s : State) (rs : List Record) : (s.setRecords rs).clear = s.clear := rfl
@[simp] theorem State.setRecords_beacon (s : State) (rs : List Record) : (s.setRecords rs).beacon = s.beacon := rfl
@[simp] theorem State.setRecords_peers (s : State) (rs : List Record) : (s.setRecords rs).peers = s.peers := rfl
@[simp] theorem State.setRecords_link (s : State) (rs : List Record) : (s.setRecords rs).link = s.link := rfl
@[simp] theorem State.setRecords_choices (s : State) (rs : List Record) : (s.setRecords rs).choices = s.choices := rfl
@[simp] theorem State.setRecords_pending (s : State) (rs : List Record) : (s.setRecords rs).pending = s.pending := rfl
@[simp] theorem State.putRecord_pins (s : State) (r : Record) : (s.putRecord r).pins = s.pins := rfl
@[simp] theorem State.putRecord_startup (s : State) (r : Record) : (s.putRecord r).startup = s.startup := rfl
@[simp] theorem State.putRecord_floor (s : State) (r : Record) : (s.putRecord r).floor = s.floor := rfl
@[simp] theorem State.putRecord_wall (s : State) (r : Record) : (s.putRecord r).wall = s.wall := rfl
@[simp] theorem State.putRecord_bump (s : State) (r : Record) : (s.putRecord r).bump = s.bump := rfl
@[simp] theorem State.putRecord_drop (s : State) (r : Record) : (s.putRecord r).drop = s.drop := rfl
@[simp] theorem State.putRecord_enc (s : State) (r : Record) : (s.putRecord r).enc = s.enc := rfl
@[simp] theorem State.putRecord_odo (s : State) (r : Record) : (s.putRecord r).odo = s.odo := rfl
@[simp] theorem State.putRecord_report (s : State) (r : Record) : (s.putRecord r).report = s.report := rfl
@[simp] theorem State.putRecord_clear (s : State) (r : Record) : (s.putRecord r).clear = s.clear := rfl
@[simp] theorem State.putRecord_beacon (s : State) (r : Record) : (s.putRecord r).beacon = s.beacon := rfl
@[simp] theorem State.putRecord_peers (s : State) (r : Record) : (s.putRecord r).peers = s.peers := rfl
@[simp] theorem State.putRecord_link (s : State) (r : Record) : (s.putRecord r).link = s.link := rfl
@[simp] theorem State.putRecord_choices (s : State) (r : Record) : (s.putRecord r).choices = s.choices := rfl
@[simp] theorem State.putRecord_pending (s : State) (r : Record) : (s.putRecord r).pending = s.pending := rfl
@[simp] theorem State.markCheck_pins (s : State) (i : Slot) (m : CheckMark) : (s.markCheck i m).pins = s.pins := by
  unfold State.markCheck; split <;> simp
@[simp] theorem State.markCheck_startup (s : State) (i : Slot) (m : CheckMark) : (s.markCheck i m).startup = s.startup := by
  unfold State.markCheck; split <;> simp
@[simp] theorem State.markCheck_floor (s : State) (i : Slot) (m : CheckMark) : (s.markCheck i m).floor = s.floor := by
  unfold State.markCheck; split <;> simp
@[simp] theorem State.markCheck_wall (s : State) (i : Slot) (m : CheckMark) : (s.markCheck i m).wall = s.wall := by
  unfold State.markCheck; split <;> simp
@[simp] theorem State.markCheck_bump (s : State) (i : Slot) (m : CheckMark) : (s.markCheck i m).bump = s.bump := by
  unfold State.markCheck; split <;> simp
@[simp] theorem State.markCheck_drop (s : State) (i : Slot) (m : CheckMark) : (s.markCheck i m).drop = s.drop := by
  unfold State.markCheck; split <;> simp
@[simp] theorem State.markCheck_enc (s : State) (i : Slot) (m : CheckMark) : (s.markCheck i m).enc = s.enc := by
  unfold State.markCheck; split <;> simp
@[simp] theorem State.markCheck_odo (s : State) (i : Slot) (m : CheckMark) : (s.markCheck i m).odo = s.odo := by
  unfold State.markCheck; split <;> simp
@[simp] theorem State.markCheck_report (s : State) (i : Slot) (m : CheckMark) : (s.markCheck i m).report = s.report := by
  unfold State.markCheck; split <;> simp
@[simp] theorem State.markCheck_clear (s : State) (i : Slot) (m : CheckMark) : (s.markCheck i m).clear = s.clear := by
  unfold State.markCheck; split <;> simp
@[simp] theorem State.markCheck_beacon (s : State) (i : Slot) (m : CheckMark) : (s.markCheck i m).beacon = s.beacon := by
  unfold State.markCheck; split <;> simp
@[simp] theorem State.markCheck_peers (s : State) (i : Slot) (m : CheckMark) : (s.markCheck i m).peers = s.peers := by
  unfold State.markCheck; split <;> simp
@[simp] theorem State.markCheck_link (s : State) (i : Slot) (m : CheckMark) : (s.markCheck i m).link = s.link := by
  unfold State.markCheck; split <;> simp
@[simp] theorem State.markCheck_choices (s : State) (i : Slot) (m : CheckMark) : (s.markCheck i m).choices = s.choices := by
  unfold State.markCheck; split <;> simp
@[simp] theorem State.markCheck_pending (s : State) (i : Slot) (m : CheckMark) : (s.markCheck i m).pending = s.pending := by
  unfold State.markCheck; split <;> simp
@[simp] theorem State.sendReport_pins (s : State) (a : Action) (r : Record) (w : Bool) : (s.sendReport a r w).pins = s.pins := by simp [State.sendReport]
@[simp] theorem State.sendReport_floor (s : State) (a : Action) (r : Record) (w : Bool) : (s.sendReport a r w).floor = s.floor := by simp [State.sendReport]
@[simp] theorem State.sendReport_wall (s : State) (a : Action) (r : Record) (w : Bool) : (s.sendReport a r w).wall = s.wall := by simp [State.sendReport]
@[simp] theorem State.sendReport_bump (s : State) (a : Action) (r : Record) (w : Bool) : (s.sendReport a r w).bump = s.bump := by simp [State.sendReport]
@[simp] theorem State.sendReport_drop (s : State) (a : Action) (r : Record) (w : Bool) : (s.sendReport a r w).drop = s.drop := by simp [State.sendReport]
@[simp] theorem State.sendReport_enc (s : State) (a : Action) (r : Record) (w : Bool) : (s.sendReport a r w).enc = s.enc := by simp [State.sendReport]
@[simp] theorem State.sendReport_odo (s : State) (a : Action) (r : Record) (w : Bool) : (s.sendReport a r w).odo = s.odo := by simp [State.sendReport]
@[simp] theorem State.sendReport_table (s : State) (a : Action) (r : Record) (w : Bool) : (s.sendReport a r w).table = s.table := by simp [State.sendReport]
@[simp] theorem State.sendReport_clear (s : State) (a : Action) (r : Record) (w : Bool) : (s.sendReport a r w).clear = s.clear := by simp [State.sendReport]
@[simp] theorem State.sendReport_beacon (s : State) (a : Action) (r : Record) (w : Bool) : (s.sendReport a r w).beacon = s.beacon := by simp [State.sendReport]
@[simp] theorem State.sendReport_peers (s : State) (a : Action) (r : Record) (w : Bool) : (s.sendReport a r w).peers = s.peers := by simp [State.sendReport]
@[simp] theorem State.sendReport_choices (s : State) (a : Action) (r : Record) (w : Bool) : (s.sendReport a r w).choices = s.choices := by simp [State.sendReport]
@[simp] theorem State.sendReport_pending (s : State) (a : Action) (r : Record) (w : Bool) : (s.sendReport a r w).pending = s.pending := by simp [State.sendReport]
@[simp] theorem State.sendAnswer_pins (s : State) (d : Pos) (i : BitVec 4) (a : Answer) (c : Nat) : (s.sendAnswer d i a c).pins = s.pins := by simp [State.sendAnswer]
@[simp] theorem State.sendAnswer_floor (s : State) (d : Pos) (i : BitVec 4) (a : Answer) (c : Nat) : (s.sendAnswer d i a c).floor = s.floor := by simp [State.sendAnswer]
@[simp] theorem State.sendAnswer_wall (s : State) (d : Pos) (i : BitVec 4) (a : Answer) (c : Nat) : (s.sendAnswer d i a c).wall = s.wall := by simp [State.sendAnswer]
@[simp] theorem State.sendAnswer_bump (s : State) (d : Pos) (i : BitVec 4) (a : Answer) (c : Nat) : (s.sendAnswer d i a c).bump = s.bump := by simp [State.sendAnswer]
@[simp] theorem State.sendAnswer_drop (s : State) (d : Pos) (i : BitVec 4) (a : Answer) (c : Nat) : (s.sendAnswer d i a c).drop = s.drop := by simp [State.sendAnswer]
@[simp] theorem State.sendAnswer_enc (s : State) (d : Pos) (i : BitVec 4) (a : Answer) (c : Nat) : (s.sendAnswer d i a c).enc = s.enc := by simp [State.sendAnswer]
@[simp] theorem State.sendAnswer_odo (s : State) (d : Pos) (i : BitVec 4) (a : Answer) (c : Nat) : (s.sendAnswer d i a c).odo = s.odo := by simp [State.sendAnswer]
@[simp] theorem State.sendAnswer_table (s : State) (d : Pos) (i : BitVec 4) (a : Answer) (c : Nat) : (s.sendAnswer d i a c).table = s.table := by simp [State.sendAnswer]
@[simp] theorem State.sendAnswer_report (s : State) (d : Pos) (i : BitVec 4) (a : Answer) (c : Nat) : (s.sendAnswer d i a c).report = s.report := by simp [State.sendAnswer]
@[simp] theorem State.sendAnswer_clear (s : State) (d : Pos) (i : BitVec 4) (a : Answer) (c : Nat) : (s.sendAnswer d i a c).clear = s.clear := by simp [State.sendAnswer]
@[simp] theorem State.sendAnswer_beacon (s : State) (d : Pos) (i : BitVec 4) (a : Answer) (c : Nat) : (s.sendAnswer d i a c).beacon = s.beacon := by simp [State.sendAnswer]
@[simp] theorem State.sendAnswer_peers (s : State) (d : Pos) (i : BitVec 4) (a : Answer) (c : Nat) : (s.sendAnswer d i a c).peers = s.peers := by simp [State.sendAnswer]
@[simp] theorem State.sendAnswer_choices (s : State) (d : Pos) (i : BitVec 4) (a : Answer) (c : Nat) : (s.sendAnswer d i a c).choices = s.choices := by simp [State.sendAnswer]
@[simp] theorem State.sendAnswer_pending (s : State) (d : Pos) (i : BitVec 4) (a : Answer) (c : Nat) : (s.sendAnswer d i a c).pending = s.pending := by simp [State.sendAnswer]
@[simp] theorem State.pushOverNonCliff_pins (s : State) (i : Item) : (s.pushOverNonCliff i).pins = s.pins := by
  unfold State.pushOverNonCliff; (repeat' split) <;> simp
@[simp] theorem State.pushOverNonCliff_startup (s : State) (i : Item) : (s.pushOverNonCliff i).startup = s.startup := by
  unfold State.pushOverNonCliff; (repeat' split) <;> simp
@[simp] theorem State.pushOverNonCliff_floor (s : State) (i : Item) : (s.pushOverNonCliff i).floor = s.floor := by
  unfold State.pushOverNonCliff; (repeat' split) <;> simp
@[simp] theorem State.pushOverNonCliff_wall (s : State) (i : Item) : (s.pushOverNonCliff i).wall = s.wall := by
  unfold State.pushOverNonCliff; (repeat' split) <;> simp
@[simp] theorem State.pushOverNonCliff_bump (s : State) (i : Item) : (s.pushOverNonCliff i).bump = s.bump := by
  unfold State.pushOverNonCliff; (repeat' split) <;> simp
@[simp] theorem State.pushOverNonCliff_drop (s : State) (i : Item) : (s.pushOverNonCliff i).drop = s.drop := by
  unfold State.pushOverNonCliff; (repeat' split) <;> simp
@[simp] theorem State.pushOverNonCliff_enc (s : State) (i : Item) : (s.pushOverNonCliff i).enc = s.enc := by
  unfold State.pushOverNonCliff; (repeat' split) <;> simp
@[simp] theorem State.pushOverNonCliff_odo (s : State) (i : Item) : (s.pushOverNonCliff i).odo = s.odo := by
  unfold State.pushOverNonCliff; (repeat' split) <;> simp
@[simp] theorem State.pushOverNonCliff_clear (s : State) (i : Item) : (s.pushOverNonCliff i).clear = s.clear := by
  unfold State.pushOverNonCliff; (repeat' split) <;> simp
@[simp] theorem State.pushOverNonCliff_beacon (s : State) (i : Item) : (s.pushOverNonCliff i).beacon = s.beacon := by
  unfold State.pushOverNonCliff; (repeat' split) <;> simp
@[simp] theorem State.pushOverNonCliff_peers (s : State) (i : Item) : (s.pushOverNonCliff i).peers = s.peers := by
  unfold State.pushOverNonCliff; (repeat' split) <;> simp
@[simp] theorem State.pushOverNonCliff_choices (s : State) (i : Item) : (s.pushOverNonCliff i).choices = s.choices := by
  unfold State.pushOverNonCliff; (repeat' split) <;> simp
@[simp] theorem State.pushOverNonCliff_pending (s : State) (i : Item) : (s.pushOverNonCliff i).pending = s.pending := by
  unfold State.pushOverNonCliff; (repeat' split) <;> simp
@[simp] theorem State.pushItem_pins (s : State) (i : Item) : (s.pushItem i).pins = s.pins := by
  unfold State.pushItem; (repeat' split) <;> simp
@[simp] theorem State.pushItem_floor (s : State) (i : Item) : (s.pushItem i).floor = s.floor := by
  unfold State.pushItem; (repeat' split) <;> simp
@[simp] theorem State.pushItem_wall (s : State) (i : Item) : (s.pushItem i).wall = s.wall := by
  unfold State.pushItem; (repeat' split) <;> simp
@[simp] theorem State.pushItem_bump (s : State) (i : Item) : (s.pushItem i).bump = s.bump := by
  unfold State.pushItem; (repeat' split) <;> simp
@[simp] theorem State.pushItem_drop (s : State) (i : Item) : (s.pushItem i).drop = s.drop := by
  unfold State.pushItem; (repeat' split) <;> simp
@[simp] theorem State.pushItem_enc (s : State) (i : Item) : (s.pushItem i).enc = s.enc := by
  unfold State.pushItem; (repeat' split) <;> simp
@[simp] theorem State.pushItem_odo (s : State) (i : Item) : (s.pushItem i).odo = s.odo := by
  unfold State.pushItem; (repeat' split) <;> simp
@[simp] theorem State.pushItem_clear (s : State) (i : Item) : (s.pushItem i).clear = s.clear := by
  unfold State.pushItem; (repeat' split) <;> simp
@[simp] theorem State.pushItem_beacon (s : State) (i : Item) : (s.pushItem i).beacon = s.beacon := by
  unfold State.pushItem; (repeat' split) <;> simp
@[simp] theorem State.pushItem_peers (s : State) (i : Item) : (s.pushItem i).peers = s.peers := by
  unfold State.pushItem; (repeat' split) <;> simp
@[simp] theorem State.pushItem_choices (s : State) (i : Item) : (s.pushItem i).choices = s.choices := by
  unfold State.pushItem; (repeat' split) <;> simp
@[simp] theorem State.pushItem_pending (s : State) (i : Item) : (s.pushItem i).pending = s.pending := by
  unfold State.pushItem; (repeat' split) <;> simp
@[simp] theorem State.startCarry_pins (s : State) : s.startCarry.pins = s.pins := rfl
@[simp] theorem State.startCarry_startup (s : State) : s.startCarry.startup = s.startup := rfl
@[simp] theorem State.startCarry_floor (s : State) : s.startCarry.floor = s.floor := rfl
@[simp] theorem State.startCarry_wall (s : State) : s.startCarry.wall = s.wall := rfl
@[simp] theorem State.startCarry_bump (s : State) : s.startCarry.bump = s.bump := rfl
@[simp] theorem State.startCarry_drop (s : State) : s.startCarry.drop = s.drop := rfl
@[simp] theorem State.startCarry_enc (s : State) : s.startCarry.enc = s.enc := rfl
@[simp] theorem State.startCarry_odo (s : State) : s.startCarry.odo = s.odo := rfl
@[simp] theorem State.startCarry_report (s : State) : s.startCarry.report = s.report := rfl
@[simp] theorem State.startCarry_clear (s : State) : s.startCarry.clear = s.clear := rfl
@[simp] theorem State.startCarry_beacon (s : State) : s.startCarry.beacon = s.beacon := rfl
@[simp] theorem State.startCarry_peers (s : State) : s.startCarry.peers = s.peers := rfl
@[simp] theorem State.startCarry_choices (s : State) : s.startCarry.choices = s.choices := rfl
@[simp] theorem State.startCarry_pending (s : State) : s.startCarry.pending = s.pending := rfl
@[simp] theorem State.takeWork_pins (s : State) : s.takeWork.pins = s.pins := by
  unfold State.takeWork; dsimp only; (repeat' split) <;> simp
@[simp] theorem State.takeWork_startup (s : State) : s.takeWork.startup = s.startup := by
  unfold State.takeWork; dsimp only; (repeat' split) <;> simp
@[simp] theorem State.takeWork_floor (s : State) : s.takeWork.floor = s.floor := by
  unfold State.takeWork; dsimp only; (repeat' split) <;> simp
@[simp] theorem State.takeWork_wall (s : State) : s.takeWork.wall = s.wall := by
  unfold State.takeWork; dsimp only; (repeat' split) <;> simp
@[simp] theorem State.takeWork_bump (s : State) : s.takeWork.bump = s.bump := by
  unfold State.takeWork; dsimp only; (repeat' split) <;> simp
@[simp] theorem State.takeWork_drop (s : State) : s.takeWork.drop = s.drop := by
  unfold State.takeWork; dsimp only; (repeat' split) <;> simp
@[simp] theorem State.takeWork_enc (s : State) : s.takeWork.enc = s.enc := by
  unfold State.takeWork; dsimp only; (repeat' split) <;> simp
@[simp] theorem State.takeWork_odo (s : State) : s.takeWork.odo = s.odo := by
  unfold State.takeWork; dsimp only; (repeat' split) <;> simp
@[simp] theorem State.takeWork_report (s : State) : s.takeWork.report = s.report := by
  unfold State.takeWork; dsimp only; (repeat' split) <;> simp
@[simp] theorem State.takeWork_clear (s : State) : s.takeWork.clear = s.clear := by
  unfold State.takeWork; dsimp only; (repeat' split) <;> simp
@[simp] theorem State.takeWork_beacon (s : State) : s.takeWork.beacon = s.beacon := by
  unfold State.takeWork; dsimp only; (repeat' split) <;> simp
@[simp] theorem State.takeWork_peers (s : State) : s.takeWork.peers = s.peers := by
  unfold State.takeWork; dsimp only; (repeat' split) <;> simp
@[simp] theorem State.takeWork_choices (s : State) : s.takeWork.choices = s.choices := by
  unfold State.takeWork; dsimp only; (repeat' split) <;> simp
@[simp] theorem State.takeWork_pending (s : State) : s.takeWork.pending = s.pending := by
  unfold State.takeWork; dsimp only; (repeat' split) <;> simp
@[simp] theorem State.kick_pins (s : State) : s.kick.pins = s.pins := by
  unfold State.kick; split <;> simp
@[simp] theorem State.kick_startup (s : State) : s.kick.startup = s.startup := by
  unfold State.kick; split <;> simp
@[simp] theorem State.kick_floor (s : State) : s.kick.floor = s.floor := by
  unfold State.kick; split <;> simp
@[simp] theorem State.kick_wall (s : State) : s.kick.wall = s.wall := by
  unfold State.kick; split <;> simp
@[simp] theorem State.kick_bump (s : State) : s.kick.bump = s.bump := by
  unfold State.kick; split <;> simp
@[simp] theorem State.kick_drop (s : State) : s.kick.drop = s.drop := by
  unfold State.kick; split <;> simp
@[simp] theorem State.kick_enc (s : State) : s.kick.enc = s.enc := by
  unfold State.kick; split <;> simp
@[simp] theorem State.kick_odo (s : State) : s.kick.odo = s.odo := by
  unfold State.kick; split <;> simp
@[simp] theorem State.kick_report (s : State) : s.kick.report = s.report := by
  unfold State.kick; split <;> simp
@[simp] theorem State.kick_clear (s : State) : s.kick.clear = s.clear := by
  unfold State.kick; split <;> simp
@[simp] theorem State.kick_beacon (s : State) : s.kick.beacon = s.beacon := by
  unfold State.kick; split <;> simp
@[simp] theorem State.kick_peers (s : State) : s.kick.peers = s.peers := by
  unfold State.kick; split <;> simp
@[simp] theorem State.kick_choices (s : State) : s.kick.choices = s.choices := by
  unfold State.kick; split <;> simp
@[simp] theorem State.kick_pending (s : State) : s.kick.pending = s.pending := by
  unfold State.kick; split <;> simp
@[simp] theorem State.observe_pins (s : State) (i : Item) : (s.observe i).pins = s.pins := by simp [State.observe]
@[simp] theorem State.observe_floor (s : State) (i : Item) : (s.observe i).floor = s.floor := by simp [State.observe]
@[simp] theorem State.observe_wall (s : State) (i : Item) : (s.observe i).wall = s.wall := by simp [State.observe]
@[simp] theorem State.observe_bump (s : State) (i : Item) : (s.observe i).bump = s.bump := by simp [State.observe]
@[simp] theorem State.observe_drop (s : State) (i : Item) : (s.observe i).drop = s.drop := by simp [State.observe]
@[simp] theorem State.observe_enc (s : State) (i : Item) : (s.observe i).enc = s.enc := by simp [State.observe]
@[simp] theorem State.observe_odo (s : State) (i : Item) : (s.observe i).odo = s.odo := by simp [State.observe]
@[simp] theorem State.observe_clear (s : State) (i : Item) : (s.observe i).clear = s.clear := by simp [State.observe]
@[simp] theorem State.observe_beacon (s : State) (i : Item) : (s.observe i).beacon = s.beacon := by simp [State.observe]
@[simp] theorem State.observe_peers (s : State) (i : Item) : (s.observe i).peers = s.peers := by simp [State.observe]
@[simp] theorem State.observe_choices (s : State) (i : Item) : (s.observe i).choices = s.choices := by simp [State.observe]
@[simp] theorem State.observe_pending (s : State) (i : Item) : (s.observe i).pending = s.pending := by simp [State.observe]
@[simp] theorem State.judgeVerdict_pins (s : State) : s.judgeVerdict.pins = s.pins := by
  unfold State.judgeVerdict; split <;> simp
@[simp] theorem State.judgeVerdict_floor (s : State) : s.judgeVerdict.floor = s.floor := by
  unfold State.judgeVerdict; split <;> simp
@[simp] theorem State.judgeVerdict_wall (s : State) : s.judgeVerdict.wall = s.wall := by
  unfold State.judgeVerdict; split <;> simp
@[simp] theorem State.judgeVerdict_bump (s : State) : s.judgeVerdict.bump = s.bump := by
  unfold State.judgeVerdict; split <;> simp
@[simp] theorem State.judgeVerdict_drop (s : State) : s.judgeVerdict.drop = s.drop := by
  unfold State.judgeVerdict; split <;> simp
@[simp] theorem State.judgeVerdict_enc (s : State) : s.judgeVerdict.enc = s.enc := by
  unfold State.judgeVerdict; split <;> simp
@[simp] theorem State.judgeVerdict_odo (s : State) : s.judgeVerdict.odo = s.odo := by
  unfold State.judgeVerdict; split <;> simp
@[simp] theorem State.judgeVerdict_table (s : State) : s.judgeVerdict.table = s.table := by
  unfold State.judgeVerdict; split <;> simp
@[simp] theorem State.judgeVerdict_report (s : State) : s.judgeVerdict.report = s.report := by
  unfold State.judgeVerdict; split <;> simp
@[simp] theorem State.judgeVerdict_beacon (s : State) : s.judgeVerdict.beacon = s.beacon := by
  unfold State.judgeVerdict; split <;> simp
@[simp] theorem State.judgeVerdict_peers (s : State) : s.judgeVerdict.peers = s.peers := by
  unfold State.judgeVerdict; split <;> simp
@[simp] theorem State.judgeVerdict_choices (s : State) : s.judgeVerdict.choices = s.choices := by
  unfold State.judgeVerdict; split <;> simp
@[simp] theorem State.judgeVerdict_pending (s : State) : s.judgeVerdict.pending = s.pending := by
  unfold State.judgeVerdict; split <;> simp
@[simp] theorem State.reclear_pins (s : State) : s.reclear.pins = s.pins := rfl
@[simp] theorem State.reclear_startup (s : State) : s.reclear.startup = s.startup := rfl
@[simp] theorem State.reclear_floor (s : State) : s.reclear.floor = s.floor := rfl
@[simp] theorem State.reclear_wall (s : State) : s.reclear.wall = s.wall := rfl
@[simp] theorem State.reclear_bump (s : State) : s.reclear.bump = s.bump := rfl
@[simp] theorem State.reclear_drop (s : State) : s.reclear.drop = s.drop := rfl
@[simp] theorem State.reclear_enc (s : State) : s.reclear.enc = s.enc := rfl
@[simp] theorem State.reclear_odo (s : State) : s.reclear.odo = s.odo := rfl
@[simp] theorem State.reclear_table (s : State) : s.reclear.table = s.table := rfl
@[simp] theorem State.reclear_report (s : State) : s.reclear.report = s.report := rfl
@[simp] theorem State.reclear_beacon (s : State) : s.reclear.beacon = s.beacon := rfl
@[simp] theorem State.reclear_peers (s : State) : s.reclear.peers = s.peers := rfl
@[simp] theorem State.reclear_link (s : State) : s.reclear.link = s.link := rfl
@[simp] theorem State.reclear_choices (s : State) : s.reclear.choices = s.choices := rfl
@[simp] theorem State.reclear_pending (s : State) : s.reclear.pending = s.pending := rfl
@[simp] theorem State.recompute_pins (s : State) : s.recompute.pins = s.pins := by
  unfold State.recompute; split <;> simp
@[simp] theorem State.recompute_floor (s : State) : s.recompute.floor = s.floor := by
  unfold State.recompute; split <;> simp
@[simp] theorem State.recompute_wall (s : State) : s.recompute.wall = s.wall := by
  unfold State.recompute; split <;> simp
@[simp] theorem State.recompute_bump (s : State) : s.recompute.bump = s.bump := by
  unfold State.recompute; split <;> simp
@[simp] theorem State.recompute_drop (s : State) : s.recompute.drop = s.drop := by
  unfold State.recompute; split <;> simp
@[simp] theorem State.recompute_enc (s : State) : s.recompute.enc = s.enc := by
  unfold State.recompute; split <;> simp
@[simp] theorem State.recompute_odo (s : State) : s.recompute.odo = s.odo := by
  unfold State.recompute; split <;> simp
@[simp] theorem State.recompute_table (s : State) : s.recompute.table = s.table := by
  unfold State.recompute; split <;> simp
@[simp] theorem State.recompute_report (s : State) : s.recompute.report = s.report := by
  unfold State.recompute; split <;> simp
@[simp] theorem State.recompute_beacon (s : State) : s.recompute.beacon = s.beacon := by
  unfold State.recompute; split <;> simp
@[simp] theorem State.recompute_peers (s : State) : s.recompute.peers = s.peers := by
  unfold State.recompute; split <;> simp
@[simp] theorem State.recompute_choices (s : State) : s.recompute.choices = s.choices := by
  unfold State.recompute; split <;> simp
@[simp] theorem State.recompute_pending (s : State) : s.recompute.pending = s.pending := by
  unfold State.recompute; split <;> simp
@[simp] theorem State.notify_pins (s : State) (b : State) (w : Bool) : (s.notify b w).pins = s.pins := by
  unfold State.notify; split <;> simp
@[simp] theorem State.notify_floor (s : State) (b : State) (w : Bool) : (s.notify b w).floor = s.floor := by
  unfold State.notify; split <;> simp
@[simp] theorem State.notify_wall (s : State) (b : State) (w : Bool) : (s.notify b w).wall = s.wall := by
  unfold State.notify; split <;> simp
@[simp] theorem State.notify_bump (s : State) (b : State) (w : Bool) : (s.notify b w).bump = s.bump := by
  unfold State.notify; split <;> simp
@[simp] theorem State.notify_drop (s : State) (b : State) (w : Bool) : (s.notify b w).drop = s.drop := by
  unfold State.notify; split <;> simp
@[simp] theorem State.notify_enc (s : State) (b : State) (w : Bool) : (s.notify b w).enc = s.enc := by
  unfold State.notify; split <;> simp
@[simp] theorem State.notify_odo (s : State) (b : State) (w : Bool) : (s.notify b w).odo = s.odo := by
  unfold State.notify; split <;> simp
@[simp] theorem State.notify_table (s : State) (b : State) (w : Bool) : (s.notify b w).table = s.table := by
  unfold State.notify; split <;> simp
@[simp] theorem State.notify_report (s : State) (b : State) (w : Bool) : (s.notify b w).report = s.report := by
  unfold State.notify; split <;> simp
@[simp] theorem State.notify_beacon (s : State) (b : State) (w : Bool) : (s.notify b w).beacon = s.beacon := by
  unfold State.notify; split <;> simp
@[simp] theorem State.notify_peers (s : State) (b : State) (w : Bool) : (s.notify b w).peers = s.peers := by
  unfold State.notify; split <;> simp
@[simp] theorem State.notify_choices (s : State) (b : State) (w : Bool) : (s.notify b w).choices = s.choices := by
  unfold State.notify; split <;> simp
@[simp] theorem State.notify_pending (s : State) (b : State) (w : Bool) : (s.notify b w).pending = s.pending := by
  unfold State.notify; split <;> simp

@[simp] theorem State.handing_pins (s : State) (f : State → State) : (s.handing f).pins = (f s).pins := by simp [State.handing]
@[simp] theorem State.handing_floor (s : State) (f : State → State) : (s.handing f).floor = (f s).floor := by simp [State.handing]
@[simp] theorem State.handing_wall (s : State) (f : State → State) : (s.handing f).wall = (f s).wall := by simp [State.handing]
@[simp] theorem State.handing_bump (s : State) (f : State → State) : (s.handing f).bump = (f s).bump := by simp [State.handing]
@[simp] theorem State.handing_drop (s : State) (f : State → State) : (s.handing f).drop = (f s).drop := by simp [State.handing]
@[simp] theorem State.handing_enc (s : State) (f : State → State) : (s.handing f).enc = (f s).enc := by simp [State.handing]
@[simp] theorem State.handing_odo (s : State) (f : State → State) : (s.handing f).odo = (f s).odo := by simp [State.handing]
@[simp] theorem State.handing_table (s : State) (f : State → State) : (s.handing f).table = (f s).table := by simp [State.handing]
@[simp] theorem State.handing_report (s : State) (f : State → State) : (s.handing f).report = (f s).report := by simp [State.handing]
@[simp] theorem State.handing_beacon (s : State) (f : State → State) : (s.handing f).beacon = (f s).beacon := by simp [State.handing]
@[simp] theorem State.handing_peers (s : State) (f : State → State) : (s.handing f).peers = (f s).peers := by simp [State.handing]
@[simp] theorem State.handing_choices (s : State) (f : State → State) : (s.handing f).choices = (f s).choices := by simp [State.handing]
@[simp] theorem State.handing_pending (s : State) (f : State → State) : (s.handing f).pending = (f s).pending := by simp [State.handing]

end Sys2Proof.Machine
end

