-- ==== Sys2Proof/Laws/FieldsFrame.lean ====
section
/-! SUPPORT. The fields of the Start-up Controller and of the Link Controller that the shared operations leave unchanged. -/

namespace Sys2Proof.Machine

open Sys2Proof

@[simp] theorem State.bootEnded_startup_node (s : State) (e : TxEntry) : (s.bootEnded e).startup.node = s.startup.node := by
  unfold State.bootEnded; split <;> simp
@[simp] theorem State.bootEnded_startup_step (s : State) (e : TxEntry) : (s.bootEnded e).startup.step = s.startup.step := by
  unfold State.bootEnded; split <;> simp
@[simp] theorem State.bootEnded_startup_pos (s : State) (e : TxEntry) : (s.bootEnded e).startup.pos = s.startup.pos := by
  unfold State.bootEnded; split <;> simp
@[simp] theorem State.bootEnded_startup_role (s : State) (e : TxEntry) : (s.bootEnded e).startup.role = s.startup.role := by
  unfold State.bootEnded; split <;> simp
@[simp] theorem State.bootEnded_startup_usable (s : State) (e : TxEntry) : (s.bootEnded e).startup.usable = s.startup.usable := by
  unfold State.bootEnded; split <;> simp
@[simp] theorem State.bootEnded_startup_floorEmitter (s : State) (e : TxEntry) : (s.bootEnded e).startup.floorEmitter = s.startup.floorEmitter := by
  unfold State.bootEnded; split <;> simp
@[simp] theorem State.bootEnded_startup_wallEmitter (s : State) (e : TxEntry) : (s.bootEnded e).startup.wallEmitter = s.startup.wallEmitter := by
  unfold State.bootEnded; split <;> simp
@[simp] theorem State.bootEnded_startup_cause (s : State) (e : TxEntry) : (s.bootEnded e).startup.cause = s.startup.cause := by
  unfold State.bootEnded; split <;> simp
@[simp] theorem State.bootEnded_startup_code (s : State) (e : TxEntry) : (s.bootEnded e).startup.code = s.startup.code := by
  unfold State.bootEnded; split <;> simp
@[simp] theorem State.bootEnded_startup_part0 (s : State) (e : TxEntry) : (s.bootEnded e).startup.part0 = s.startup.part0 := by
  unfold State.bootEnded; split <;> simp
@[simp] theorem State.bootEnded_startup_part1 (s : State) (e : TxEntry) : (s.bootEnded e).startup.part1 = s.startup.part1 := by
  unfold State.bootEnded; split <;> simp
@[simp] theorem State.bootEnded_startup_part2 (s : State) (e : TxEntry) : (s.bootEnded e).startup.part2 = s.startup.part2 := by
  unfold State.bootEnded; split <;> simp
@[simp] theorem State.bootEnded_startup_part3 (s : State) (e : TxEntry) : (s.bootEnded e).startup.part3 = s.startup.part3 := by
  unfold State.bootEnded; split <;> simp
@[simp] theorem State.bootEnded_startup_setup (s : State) (e : TxEntry) : (s.bootEnded e).startup.setup = s.startup.setup := by
  unfold State.bootEnded; split <;> simp
@[simp] theorem State.bootEnded_startup_bootTimer (s : State) (e : TxEntry) : (s.bootEnded e).startup.bootTimer = s.startup.bootTimer := by
  unfold State.bootEnded; split <;> simp
@[simp] theorem State.bootEnded_startup_loopTimer (s : State) (e : TxEntry) : (s.bootEnded e).startup.loopTimer = s.startup.loopTimer := by
  unfold State.bootEnded; split <;> simp
@[simp] theorem State.bootEnded_startup_led (s : State) (e : TxEntry) : (s.bootEnded e).startup.led = s.startup.led := by
  unfold State.bootEnded; split <;> simp
@[simp] theorem State.bootEnded_startup_ledTimer (s : State) (e : TxEntry) : (s.bootEnded e).startup.ledTimer = s.startup.ledTimer := by
  unfold State.bootEnded; split <;> simp
@[simp] theorem State.count_link_onLine (s : State) (i : CountId) : (s.count i).link.onLine = s.link.onLine := rfl
@[simp] theorem State.count_link_txTimer (s : State) (i : CountId) : (s.count i).link.txTimer = s.link.txTimer := rfl
@[simp] theorem State.count_link_seq (s : State) (i : CountId) : (s.count i).link.seq = s.link.seq := rfl
@[simp] theorem State.count_link_yield (s : State) (i : CountId) : (s.count i).link.yield = s.link.yield := rfl
@[simp] theorem State.count_link_access (s : State) (i : CountId) : (s.count i).link.access = s.link.access := rfl
@[simp] theorem State.count_link_line (s : State) (i : CountId) : (s.count i).link.line = s.link.line := rfl
@[simp] theorem State.count_link_rx (s : State) (i : CountId) : (s.count i).link.rx = s.link.rx := rfl
@[simp] theorem State.count_link_handling (s : State) (i : CountId) : (s.count i).link.handling = s.link.handling := rfl
@[simp] theorem State.count_link_healthTimer (s : State) (i : CountId) : (s.count i).link.healthTimer = s.link.healthTimer := rfl
@[simp] theorem State.count_link_queue (s : State) (i : CountId) : (s.count i).link.queue = s.link.queue := rfl
@[simp] theorem State.count_link_nextOrder (s : State) (i : CountId) : (s.count i).link.nextOrder = s.link.nextOrder := rfl
@[simp] theorem State.loseFrame_startup_node (s : State) (e : TxEntry) : (s.loseFrame e).startup.node = s.startup.node := by simp [State.loseFrame]
@[simp] theorem State.loseFrame_startup_step (s : State) (e : TxEntry) : (s.loseFrame e).startup.step = s.startup.step := by simp [State.loseFrame]
@[simp] theorem State.loseFrame_startup_pos (s : State) (e : TxEntry) : (s.loseFrame e).startup.pos = s.startup.pos := by simp [State.loseFrame]
@[simp] theorem State.loseFrame_startup_role (s : State) (e : TxEntry) : (s.loseFrame e).startup.role = s.startup.role := by simp [State.loseFrame]
@[simp] theorem State.loseFrame_startup_usable (s : State) (e : TxEntry) : (s.loseFrame e).startup.usable = s.startup.usable := by simp [State.loseFrame]
@[simp] theorem State.loseFrame_startup_floorEmitter (s : State) (e : TxEntry) : (s.loseFrame e).startup.floorEmitter = s.startup.floorEmitter := by simp [State.loseFrame]
@[simp] theorem State.loseFrame_startup_wallEmitter (s : State) (e : TxEntry) : (s.loseFrame e).startup.wallEmitter = s.startup.wallEmitter := by simp [State.loseFrame]
@[simp] theorem State.loseFrame_startup_cause (s : State) (e : TxEntry) : (s.loseFrame e).startup.cause = s.startup.cause := by simp [State.loseFrame]
@[simp] theorem State.loseFrame_startup_code (s : State) (e : TxEntry) : (s.loseFrame e).startup.code = s.startup.code := by simp [State.loseFrame]
@[simp] theorem State.loseFrame_startup_part0 (s : State) (e : TxEntry) : (s.loseFrame e).startup.part0 = s.startup.part0 := by simp [State.loseFrame]
@[simp] theorem State.loseFrame_startup_part1 (s : State) (e : TxEntry) : (s.loseFrame e).startup.part1 = s.startup.part1 := by simp [State.loseFrame]
@[simp] theorem State.loseFrame_startup_part2 (s : State) (e : TxEntry) : (s.loseFrame e).startup.part2 = s.startup.part2 := by simp [State.loseFrame]
@[simp] theorem State.loseFrame_startup_part3 (s : State) (e : TxEntry) : (s.loseFrame e).startup.part3 = s.startup.part3 := by simp [State.loseFrame]
@[simp] theorem State.loseFrame_startup_setup (s : State) (e : TxEntry) : (s.loseFrame e).startup.setup = s.startup.setup := by simp [State.loseFrame]
@[simp] theorem State.loseFrame_startup_bootTimer (s : State) (e : TxEntry) : (s.loseFrame e).startup.bootTimer = s.startup.bootTimer := by simp [State.loseFrame]
@[simp] theorem State.loseFrame_startup_loopTimer (s : State) (e : TxEntry) : (s.loseFrame e).startup.loopTimer = s.startup.loopTimer := by simp [State.loseFrame]
@[simp] theorem State.loseFrame_startup_led (s : State) (e : TxEntry) : (s.loseFrame e).startup.led = s.startup.led := by simp [State.loseFrame]
@[simp] theorem State.loseFrame_startup_ledTimer (s : State) (e : TxEntry) : (s.loseFrame e).startup.ledTimer = s.startup.ledTimer := by simp [State.loseFrame]
@[simp] theorem State.loseFrame_link_onLine (s : State) (e : TxEntry) : (s.loseFrame e).link.onLine = s.link.onLine := by simp [State.loseFrame]
@[simp] theorem State.loseFrame_link_txTimer (s : State) (e : TxEntry) : (s.loseFrame e).link.txTimer = s.link.txTimer := by simp [State.loseFrame]
@[simp] theorem State.loseFrame_link_seq (s : State) (e : TxEntry) : (s.loseFrame e).link.seq = s.link.seq := by simp [State.loseFrame]
@[simp] theorem State.loseFrame_link_yield (s : State) (e : TxEntry) : (s.loseFrame e).link.yield = s.link.yield := by simp [State.loseFrame]
@[simp] theorem State.loseFrame_link_access (s : State) (e : TxEntry) : (s.loseFrame e).link.access = s.link.access := by simp [State.loseFrame]
@[simp] theorem State.loseFrame_link_line (s : State) (e : TxEntry) : (s.loseFrame e).link.line = s.link.line := by simp [State.loseFrame]
@[simp] theorem State.loseFrame_link_rx (s : State) (e : TxEntry) : (s.loseFrame e).link.rx = s.link.rx := by simp [State.loseFrame]
@[simp] theorem State.loseFrame_link_handling (s : State) (e : TxEntry) : (s.loseFrame e).link.handling = s.link.handling := by simp [State.loseFrame]
@[simp] theorem State.loseFrame_link_healthTimer (s : State) (e : TxEntry) : (s.loseFrame e).link.healthTimer = s.link.healthTimer := by simp [State.loseFrame]
@[simp] theorem State.loseFrame_link_counts_crcError (s : State) (e : TxEntry) : (s.loseFrame e).link.counts.crcError = s.link.counts.crcError := by simp [State.loseFrame]
@[simp] theorem State.loseFrame_link_counts_overrun (s : State) (e : TxEntry) : (s.loseFrame e).link.counts.overrun = s.link.counts.overrun := by simp [State.loseFrame]
@[simp] theorem State.loseFrame_link_counts_malformed (s : State) (e : TxEntry) : (s.loseFrame e).link.counts.malformed = s.link.counts.malformed := by simp [State.loseFrame]
@[simp] theorem State.loseFrame_link_counts_duplicate (s : State) (e : TxEntry) : (s.loseFrame e).link.counts.duplicate = s.link.counts.duplicate := by simp [State.loseFrame]
@[simp] theorem State.loseFrame_link_counts_staleReport (s : State) (e : TxEntry) : (s.loseFrame e).link.counts.staleReport = s.link.counts.staleReport := by simp [State.loseFrame]
@[simp] theorem State.loseFrame_link_counts_lateAnswer (s : State) (e : TxEntry) : (s.loseFrame e).link.counts.lateAnswer = s.link.counts.lateAnswer := by simp [State.loseFrame]
@[simp] theorem State.loseFrame_link_counts_tableDiscard (s : State) (e : TxEntry) : (s.loseFrame e).link.counts.tableDiscard = s.link.counts.tableDiscard := by simp [State.loseFrame]
@[simp] theorem State.loseFrame_link_counts_checkForced (s : State) (e : TxEntry) : (s.loseFrame e).link.counts.checkForced = s.link.counts.checkForced := by simp [State.loseFrame]
@[simp] theorem State.loseFrame_link_counts_beaconAbort (s : State) (e : TxEntry) : (s.loseFrame e).link.counts.beaconAbort = s.link.counts.beaconAbort := by simp [State.loseFrame]
@[simp] theorem State.loseFrame_link_counts_blindedBursts (s : State) (e : TxEntry) : (s.loseFrame e).link.counts.blindedBursts = s.link.counts.blindedBursts := by simp [State.loseFrame]
@[simp] theorem State.loseFrame_link_counts_refusedOrder (s : State) (e : TxEntry) : (s.loseFrame e).link.counts.refusedOrder = s.link.counts.refusedOrder := by simp [State.loseFrame]
@[simp] theorem State.placeAtFull_startup_node (s : State) (e : TxEntry) : (s.placeAtFull e).startup.node = s.startup.node := by
  unfold State.placeAtFull; split
  · split <;> simp
  · simp
@[simp] theorem State.placeAtFull_startup_step (s : State) (e : TxEntry) : (s.placeAtFull e).startup.step = s.startup.step := by
  unfold State.placeAtFull; split
  · split <;> simp
  · simp
@[simp] theorem State.placeAtFull_startup_pos (s : State) (e : TxEntry) : (s.placeAtFull e).startup.pos = s.startup.pos := by
  unfold State.placeAtFull; split
  · split <;> simp
  · simp
@[simp] theorem State.placeAtFull_startup_role (s : State) (e : TxEntry) : (s.placeAtFull e).startup.role = s.startup.role := by
  unfold State.placeAtFull; split
  · split <;> simp
  · simp
@[simp] theorem State.placeAtFull_startup_usable (s : State) (e : TxEntry) : (s.placeAtFull e).startup.usable = s.startup.usable := by
  unfold State.placeAtFull; split
  · split <;> simp
  · simp
@[simp] theorem State.placeAtFull_startup_floorEmitter (s : State) (e : TxEntry) : (s.placeAtFull e).startup.floorEmitter = s.startup.floorEmitter := by
  unfold State.placeAtFull; split
  · split <;> simp
  · simp
@[simp] theorem State.placeAtFull_startup_wallEmitter (s : State) (e : TxEntry) : (s.placeAtFull e).startup.wallEmitter = s.startup.wallEmitter := by
  unfold State.placeAtFull; split
  · split <;> simp
  · simp
@[simp] theorem State.placeAtFull_startup_cause (s : State) (e : TxEntry) : (s.placeAtFull e).startup.cause = s.startup.cause := by
  unfold State.placeAtFull; split
  · split <;> simp
  · simp
@[simp] theorem State.placeAtFull_startup_code (s : State) (e : TxEntry) : (s.placeAtFull e).startup.code = s.startup.code := by
  unfold State.placeAtFull; split
  · split <;> simp
  · simp
@[simp] theorem State.placeAtFull_startup_part0 (s : State) (e : TxEntry) : (s.placeAtFull e).startup.part0 = s.startup.part0 := by
  unfold State.placeAtFull; split
  · split <;> simp
  · simp
@[simp] theorem State.placeAtFull_startup_part1 (s : State) (e : TxEntry) : (s.placeAtFull e).startup.part1 = s.startup.part1 := by
  unfold State.placeAtFull; split
  · split <;> simp
  · simp
@[simp] theorem State.placeAtFull_startup_part2 (s : State) (e : TxEntry) : (s.placeAtFull e).startup.part2 = s.startup.part2 := by
  unfold State.placeAtFull; split
  · split <;> simp
  · simp
@[simp] theorem State.placeAtFull_startup_part3 (s : State) (e : TxEntry) : (s.placeAtFull e).startup.part3 = s.startup.part3 := by
  unfold State.placeAtFull; split
  · split <;> simp
  · simp
@[simp] theorem State.placeAtFull_startup_setup (s : State) (e : TxEntry) : (s.placeAtFull e).startup.setup = s.startup.setup := by
  unfold State.placeAtFull; split
  · split <;> simp
  · simp
@[simp] theorem State.placeAtFull_startup_bootTimer (s : State) (e : TxEntry) : (s.placeAtFull e).startup.bootTimer = s.startup.bootTimer := by
  unfold State.placeAtFull; split
  · split <;> simp
  · simp
@[simp] theorem State.placeAtFull_startup_loopTimer (s : State) (e : TxEntry) : (s.placeAtFull e).startup.loopTimer = s.startup.loopTimer := by
  unfold State.placeAtFull; split
  · split <;> simp
  · simp
@[simp] theorem State.placeAtFull_startup_led (s : State) (e : TxEntry) : (s.placeAtFull e).startup.led = s.startup.led := by
  unfold State.placeAtFull; split
  · split <;> simp
  · simp
@[simp] theorem State.placeAtFull_startup_ledTimer (s : State) (e : TxEntry) : (s.placeAtFull e).startup.ledTimer = s.startup.ledTimer := by
  unfold State.placeAtFull; split
  · split <;> simp
  · simp
@[simp] theorem State.placeAtFull_link_onLine (s : State) (e : TxEntry) : (s.placeAtFull e).link.onLine = s.link.onLine := by
  unfold State.placeAtFull; split
  · split <;> simp
  · simp
@[simp] theorem State.placeAtFull_link_txTimer (s : State) (e : TxEntry) : (s.placeAtFull e).link.txTimer = s.link.txTimer := by
  unfold State.placeAtFull; split
  · split <;> simp
  · simp
@[simp] theorem State.placeAtFull_link_seq (s : State) (e : TxEntry) : (s.placeAtFull e).link.seq = s.link.seq := by
  unfold State.placeAtFull; split
  · split <;> simp
  · simp
@[simp] theorem State.placeAtFull_link_yield (s : State) (e : TxEntry) : (s.placeAtFull e).link.yield = s.link.yield := by
  unfold State.placeAtFull; split
  · split <;> simp
  · simp
@[simp] theorem State.placeAtFull_link_access (s : State) (e : TxEntry) : (s.placeAtFull e).link.access = s.link.access := by
  unfold State.placeAtFull; split
  · split <;> simp
  · simp
@[simp] theorem State.placeAtFull_link_line (s : State) (e : TxEntry) : (s.placeAtFull e).link.line = s.link.line := by
  unfold State.placeAtFull; split
  · split <;> simp
  · simp
@[simp] theorem State.placeAtFull_link_rx (s : State) (e : TxEntry) : (s.placeAtFull e).link.rx = s.link.rx := by
  unfold State.placeAtFull; split
  · split <;> simp
  · simp
@[simp] theorem State.placeAtFull_link_handling (s : State) (e : TxEntry) : (s.placeAtFull e).link.handling = s.link.handling := by
  unfold State.placeAtFull; split
  · split <;> simp
  · simp
@[simp] theorem State.placeAtFull_link_healthTimer (s : State) (e : TxEntry) : (s.placeAtFull e).link.healthTimer = s.link.healthTimer := by
  unfold State.placeAtFull; split
  · split <;> simp
  · simp
@[simp] theorem State.placeAtFull_link_counts_crcError (s : State) (e : TxEntry) : (s.placeAtFull e).link.counts.crcError = s.link.counts.crcError := by
  unfold State.placeAtFull; split
  · split <;> simp
  · simp
@[simp] theorem State.placeAtFull_link_counts_overrun (s : State) (e : TxEntry) : (s.placeAtFull e).link.counts.overrun = s.link.counts.overrun := by
  unfold State.placeAtFull; split
  · split <;> simp
  · simp
@[simp] theorem State.placeAtFull_link_counts_malformed (s : State) (e : TxEntry) : (s.placeAtFull e).link.counts.malformed = s.link.counts.malformed := by
  unfold State.placeAtFull; split
  · split <;> simp
  · simp
@[simp] theorem State.placeAtFull_link_counts_duplicate (s : State) (e : TxEntry) : (s.placeAtFull e).link.counts.duplicate = s.link.counts.duplicate := by
  unfold State.placeAtFull; split
  · split <;> simp
  · simp
@[simp] theorem State.placeAtFull_link_counts_staleReport (s : State) (e : TxEntry) : (s.placeAtFull e).link.counts.staleReport = s.link.counts.staleReport := by
  unfold State.placeAtFull; split
  · split <;> simp
  · simp
@[simp] theorem State.placeAtFull_link_counts_lateAnswer (s : State) (e : TxEntry) : (s.placeAtFull e).link.counts.lateAnswer = s.link.counts.lateAnswer := by
  unfold State.placeAtFull; split
  · split <;> simp
  · simp
@[simp] theorem State.placeAtFull_link_counts_tableDiscard (s : State) (e : TxEntry) : (s.placeAtFull e).link.counts.tableDiscard = s.link.counts.tableDiscard := by
  unfold State.placeAtFull; split
  · split <;> simp
  · simp
@[simp] theorem State.placeAtFull_link_counts_checkForced (s : State) (e : TxEntry) : (s.placeAtFull e).link.counts.checkForced = s.link.counts.checkForced := by
  unfold State.placeAtFull; split
  · split <;> simp
  · simp
@[simp] theorem State.placeAtFull_link_counts_beaconAbort (s : State) (e : TxEntry) : (s.placeAtFull e).link.counts.beaconAbort = s.link.counts.beaconAbort := by
  unfold State.placeAtFull; split
  · split <;> simp
  · simp
@[simp] theorem State.placeAtFull_link_counts_blindedBursts (s : State) (e : TxEntry) : (s.placeAtFull e).link.counts.blindedBursts = s.link.counts.blindedBursts := by
  unfold State.placeAtFull; split
  · split <;> simp
  · simp
@[simp] theorem State.placeAtFull_link_counts_refusedOrder (s : State) (e : TxEntry) : (s.placeAtFull e).link.counts.refusedOrder = s.link.counts.refusedOrder := by
  unfold State.placeAtFull; split
  · split <;> simp
  · simp
@[simp] theorem State.enqueue_startup_node (s : State) (p : Payload) (u : Bool) : (s.enqueue p u).startup.node = s.startup.node := by
  unfold State.enqueue; dsimp only; (repeat' split) <;> simp
@[simp] theorem State.enqueue_startup_step (s : State) (p : Payload) (u : Bool) : (s.enqueue p u).startup.step = s.startup.step := by
  unfold State.enqueue; dsimp only; (repeat' split) <;> simp
@[simp] theorem State.enqueue_startup_pos (s : State) (p : Payload) (u : Bool) : (s.enqueue p u).startup.pos = s.startup.pos := by
  unfold State.enqueue; dsimp only; (repeat' split) <;> simp
@[simp] theorem State.enqueue_startup_role (s : State) (p : Payload) (u : Bool) : (s.enqueue p u).startup.role = s.startup.role := by
  unfold State.enqueue; dsimp only; (repeat' split) <;> simp
@[simp] theorem State.enqueue_startup_usable (s : State) (p : Payload) (u : Bool) : (s.enqueue p u).startup.usable = s.startup.usable := by
  unfold State.enqueue; dsimp only; (repeat' split) <;> simp
@[simp] theorem State.enqueue_startup_floorEmitter (s : State) (p : Payload) (u : Bool) : (s.enqueue p u).startup.floorEmitter = s.startup.floorEmitter := by
  unfold State.enqueue; dsimp only; (repeat' split) <;> simp
@[simp] theorem State.enqueue_startup_wallEmitter (s : State) (p : Payload) (u : Bool) : (s.enqueue p u).startup.wallEmitter = s.startup.wallEmitter := by
  unfold State.enqueue; dsimp only; (repeat' split) <;> simp
@[simp] theorem State.enqueue_startup_cause (s : State) (p : Payload) (u : Bool) : (s.enqueue p u).startup.cause = s.startup.cause := by
  unfold State.enqueue; dsimp only; (repeat' split) <;> simp
@[simp] theorem State.enqueue_startup_code (s : State) (p : Payload) (u : Bool) : (s.enqueue p u).startup.code = s.startup.code := by
  unfold State.enqueue; dsimp only; (repeat' split) <;> simp
@[simp] theorem State.enqueue_startup_part0 (s : State) (p : Payload) (u : Bool) : (s.enqueue p u).startup.part0 = s.startup.part0 := by
  unfold State.enqueue; dsimp only; (repeat' split) <;> simp
@[simp] theorem State.enqueue_startup_part1 (s : State) (p : Payload) (u : Bool) : (s.enqueue p u).startup.part1 = s.startup.part1 := by
  unfold State.enqueue; dsimp only; (repeat' split) <;> simp
@[simp] theorem State.enqueue_startup_part2 (s : State) (p : Payload) (u : Bool) : (s.enqueue p u).startup.part2 = s.startup.part2 := by
  unfold State.enqueue; dsimp only; (repeat' split) <;> simp
@[simp] theorem State.enqueue_startup_part3 (s : State) (p : Payload) (u : Bool) : (s.enqueue p u).startup.part3 = s.startup.part3 := by
  unfold State.enqueue; dsimp only; (repeat' split) <;> simp
@[simp] theorem State.enqueue_startup_setup (s : State) (p : Payload) (u : Bool) : (s.enqueue p u).startup.setup = s.startup.setup := by
  unfold State.enqueue; dsimp only; (repeat' split) <;> simp
@[simp] theorem State.enqueue_startup_bootTimer (s : State) (p : Payload) (u : Bool) : (s.enqueue p u).startup.bootTimer = s.startup.bootTimer := by
  unfold State.enqueue; dsimp only; (repeat' split) <;> simp
@[simp] theorem State.enqueue_startup_loopTimer (s : State) (p : Payload) (u : Bool) : (s.enqueue p u).startup.loopTimer = s.startup.loopTimer := by
  unfold State.enqueue; dsimp only; (repeat' split) <;> simp
@[simp] theorem State.enqueue_startup_led (s : State) (p : Payload) (u : Bool) : (s.enqueue p u).startup.led = s.startup.led := by
  unfold State.enqueue; dsimp only; (repeat' split) <;> simp
@[simp] theorem State.enqueue_startup_ledTimer (s : State) (p : Payload) (u : Bool) : (s.enqueue p u).startup.ledTimer = s.startup.ledTimer := by
  unfold State.enqueue; dsimp only; (repeat' split) <;> simp
@[simp] theorem State.enqueue_link_onLine (s : State) (p : Payload) (u : Bool) : (s.enqueue p u).link.onLine = s.link.onLine := by
  unfold State.enqueue; dsimp only; (repeat' split) <;> simp
@[simp] theorem State.enqueue_link_txTimer (s : State) (p : Payload) (u : Bool) : (s.enqueue p u).link.txTimer = s.link.txTimer := by
  unfold State.enqueue; dsimp only; (repeat' split) <;> simp
@[simp] theorem State.enqueue_link_seq (s : State) (p : Payload) (u : Bool) : (s.enqueue p u).link.seq = s.link.seq := by
  unfold State.enqueue; dsimp only; (repeat' split) <;> simp
@[simp] theorem State.enqueue_link_yield (s : State) (p : Payload) (u : Bool) : (s.enqueue p u).link.yield = s.link.yield := by
  unfold State.enqueue; dsimp only; (repeat' split) <;> simp
@[simp] theorem State.enqueue_link_access (s : State) (p : Payload) (u : Bool) : (s.enqueue p u).link.access = s.link.access := by
  unfold State.enqueue; dsimp only; (repeat' split) <;> simp
@[simp] theorem State.enqueue_link_line (s : State) (p : Payload) (u : Bool) : (s.enqueue p u).link.line = s.link.line := by
  unfold State.enqueue; dsimp only; (repeat' split) <;> simp
@[simp] theorem State.enqueue_link_rx (s : State) (p : Payload) (u : Bool) : (s.enqueue p u).link.rx = s.link.rx := by
  unfold State.enqueue; dsimp only; (repeat' split) <;> simp
@[simp] theorem State.enqueue_link_handling (s : State) (p : Payload) (u : Bool) : (s.enqueue p u).link.handling = s.link.handling := by
  unfold State.enqueue; dsimp only; (repeat' split) <;> simp
@[simp] theorem State.enqueue_link_healthTimer (s : State) (p : Payload) (u : Bool) : (s.enqueue p u).link.healthTimer = s.link.healthTimer := by
  unfold State.enqueue; dsimp only; (repeat' split) <;> simp
@[simp] theorem State.enqueue_link_counts_crcError (s : State) (p : Payload) (u : Bool) : (s.enqueue p u).link.counts.crcError = s.link.counts.crcError := by
  unfold State.enqueue; dsimp only; (repeat' split) <;> simp
@[simp] theorem State.enqueue_link_counts_overrun (s : State) (p : Payload) (u : Bool) : (s.enqueue p u).link.counts.overrun = s.link.counts.overrun := by
  unfold State.enqueue; dsimp only; (repeat' split) <;> simp
@[simp] theorem State.enqueue_link_counts_malformed (s : State) (p : Payload) (u : Bool) : (s.enqueue p u).link.counts.malformed = s.link.counts.malformed := by
  unfold State.enqueue; dsimp only; (repeat' split) <;> simp
@[simp] theorem State.enqueue_link_counts_duplicate (s : State) (p : Payload) (u : Bool) : (s.enqueue p u).link.counts.duplicate = s.link.counts.duplicate := by
  unfold State.enqueue; dsimp only; (repeat' split) <;> simp
@[simp] theorem State.enqueue_link_counts_staleReport (s : State) (p : Payload) (u : Bool) : (s.enqueue p u).link.counts.staleReport = s.link.counts.staleReport := by
  unfold State.enqueue; dsimp only; (repeat' split) <;> simp
@[simp] theorem State.enqueue_link_counts_lateAnswer (s : State) (p : Payload) (u : Bool) : (s.enqueue p u).link.counts.lateAnswer = s.link.counts.lateAnswer := by
  unfold State.enqueue; dsimp only; (repeat' split) <;> simp
@[simp] theorem State.enqueue_link_counts_tableDiscard (s : State) (p : Payload) (u : Bool) : (s.enqueue p u).link.counts.tableDiscard = s.link.counts.tableDiscard := by
  unfold State.enqueue; dsimp only; (repeat' split) <;> simp
@[simp] theorem State.enqueue_link_counts_checkForced (s : State) (p : Payload) (u : Bool) : (s.enqueue p u).link.counts.checkForced = s.link.counts.checkForced := by
  unfold State.enqueue; dsimp only; (repeat' split) <;> simp
@[simp] theorem State.enqueue_link_counts_beaconAbort (s : State) (p : Payload) (u : Bool) : (s.enqueue p u).link.counts.beaconAbort = s.link.counts.beaconAbort := by
  unfold State.enqueue; dsimp only; (repeat' split) <;> simp
@[simp] theorem State.enqueue_link_counts_blindedBursts (s : State) (p : Payload) (u : Bool) : (s.enqueue p u).link.counts.blindedBursts = s.link.counts.blindedBursts := by
  unfold State.enqueue; dsimp only; (repeat' split) <;> simp
@[simp] theorem State.enqueue_link_counts_refusedOrder (s : State) (p : Payload) (u : Bool) : (s.enqueue p u).link.counts.refusedOrder = s.link.counts.refusedOrder := by
  unfold State.enqueue; dsimp only; (repeat' split) <;> simp
@[simp] theorem State.sendReport_startup_node (s : State) (a : Action) (r : Record) (w : Bool) : (s.sendReport a r w).startup.node = s.startup.node := by simp [State.sendReport]
@[simp] theorem State.sendReport_startup_step (s : State) (a : Action) (r : Record) (w : Bool) : (s.sendReport a r w).startup.step = s.startup.step := by simp [State.sendReport]
@[simp] theorem State.sendReport_startup_pos (s : State) (a : Action) (r : Record) (w : Bool) : (s.sendReport a r w).startup.pos = s.startup.pos := by simp [State.sendReport]
@[simp] theorem State.sendReport_startup_role (s : State) (a : Action) (r : Record) (w : Bool) : (s.sendReport a r w).startup.role = s.startup.role := by simp [State.sendReport]
@[simp] theorem State.sendReport_startup_usable (s : State) (a : Action) (r : Record) (w : Bool) : (s.sendReport a r w).startup.usable = s.startup.usable := by simp [State.sendReport]
@[simp] theorem State.sendReport_startup_floorEmitter (s : State) (a : Action) (r : Record) (w : Bool) : (s.sendReport a r w).startup.floorEmitter = s.startup.floorEmitter := by simp [State.sendReport]
@[simp] theorem State.sendReport_startup_wallEmitter (s : State) (a : Action) (r : Record) (w : Bool) : (s.sendReport a r w).startup.wallEmitter = s.startup.wallEmitter := by simp [State.sendReport]
@[simp] theorem State.sendReport_startup_cause (s : State) (a : Action) (r : Record) (w : Bool) : (s.sendReport a r w).startup.cause = s.startup.cause := by simp [State.sendReport]
@[simp] theorem State.sendReport_startup_code (s : State) (a : Action) (r : Record) (w : Bool) : (s.sendReport a r w).startup.code = s.startup.code := by simp [State.sendReport]
@[simp] theorem State.sendReport_startup_part0 (s : State) (a : Action) (r : Record) (w : Bool) : (s.sendReport a r w).startup.part0 = s.startup.part0 := by simp [State.sendReport]
@[simp] theorem State.sendReport_startup_part1 (s : State) (a : Action) (r : Record) (w : Bool) : (s.sendReport a r w).startup.part1 = s.startup.part1 := by simp [State.sendReport]
@[simp] theorem State.sendReport_startup_part2 (s : State) (a : Action) (r : Record) (w : Bool) : (s.sendReport a r w).startup.part2 = s.startup.part2 := by simp [State.sendReport]
@[simp] theorem State.sendReport_startup_part3 (s : State) (a : Action) (r : Record) (w : Bool) : (s.sendReport a r w).startup.part3 = s.startup.part3 := by simp [State.sendReport]
@[simp] theorem State.sendReport_startup_setup (s : State) (a : Action) (r : Record) (w : Bool) : (s.sendReport a r w).startup.setup = s.startup.setup := by simp [State.sendReport]
@[simp] theorem State.sendReport_startup_bootTimer (s : State) (a : Action) (r : Record) (w : Bool) : (s.sendReport a r w).startup.bootTimer = s.startup.bootTimer := by simp [State.sendReport]
@[simp] theorem State.sendReport_startup_loopTimer (s : State) (a : Action) (r : Record) (w : Bool) : (s.sendReport a r w).startup.loopTimer = s.startup.loopTimer := by simp [State.sendReport]
@[simp] theorem State.sendReport_startup_led (s : State) (a : Action) (r : Record) (w : Bool) : (s.sendReport a r w).startup.led = s.startup.led := by simp [State.sendReport]
@[simp] theorem State.sendReport_startup_ledTimer (s : State) (a : Action) (r : Record) (w : Bool) : (s.sendReport a r w).startup.ledTimer = s.startup.ledTimer := by simp [State.sendReport]
@[simp] theorem State.sendReport_link_onLine (s : State) (a : Action) (r : Record) (w : Bool) : (s.sendReport a r w).link.onLine = s.link.onLine := by simp [State.sendReport]
@[simp] theorem State.sendReport_link_txTimer (s : State) (a : Action) (r : Record) (w : Bool) : (s.sendReport a r w).link.txTimer = s.link.txTimer := by simp [State.sendReport]
@[simp] theorem State.sendReport_link_seq (s : State) (a : Action) (r : Record) (w : Bool) : (s.sendReport a r w).link.seq = s.link.seq := by simp [State.sendReport]
@[simp] theorem State.sendReport_link_yield (s : State) (a : Action) (r : Record) (w : Bool) : (s.sendReport a r w).link.yield = s.link.yield := by simp [State.sendReport]
@[simp] theorem State.sendReport_link_access (s : State) (a : Action) (r : Record) (w : Bool) : (s.sendReport a r w).link.access = s.link.access := by simp [State.sendReport]
@[simp] theorem State.sendReport_link_line (s : State) (a : Action) (r : Record) (w : Bool) : (s.sendReport a r w).link.line = s.link.line := by simp [State.sendReport]
@[simp] theorem State.sendReport_link_rx (s : State) (a : Action) (r : Record) (w : Bool) : (s.sendReport a r w).link.rx = s.link.rx := by simp [State.sendReport]
@[simp] theorem State.sendReport_link_handling (s : State) (a : Action) (r : Record) (w : Bool) : (s.sendReport a r w).link.handling = s.link.handling := by simp [State.sendReport]
@[simp] theorem State.sendReport_link_healthTimer (s : State) (a : Action) (r : Record) (w : Bool) : (s.sendReport a r w).link.healthTimer = s.link.healthTimer := by simp [State.sendReport]
@[simp] theorem State.sendReport_link_counts_crcError (s : State) (a : Action) (r : Record) (w : Bool) : (s.sendReport a r w).link.counts.crcError = s.link.counts.crcError := by simp [State.sendReport]
@[simp] theorem State.sendReport_link_counts_overrun (s : State) (a : Action) (r : Record) (w : Bool) : (s.sendReport a r w).link.counts.overrun = s.link.counts.overrun := by simp [State.sendReport]
@[simp] theorem State.sendReport_link_counts_malformed (s : State) (a : Action) (r : Record) (w : Bool) : (s.sendReport a r w).link.counts.malformed = s.link.counts.malformed := by simp [State.sendReport]
@[simp] theorem State.sendReport_link_counts_duplicate (s : State) (a : Action) (r : Record) (w : Bool) : (s.sendReport a r w).link.counts.duplicate = s.link.counts.duplicate := by simp [State.sendReport]
@[simp] theorem State.sendReport_link_counts_staleReport (s : State) (a : Action) (r : Record) (w : Bool) : (s.sendReport a r w).link.counts.staleReport = s.link.counts.staleReport := by simp [State.sendReport]
@[simp] theorem State.sendReport_link_counts_lateAnswer (s : State) (a : Action) (r : Record) (w : Bool) : (s.sendReport a r w).link.counts.lateAnswer = s.link.counts.lateAnswer := by simp [State.sendReport]
@[simp] theorem State.sendReport_link_counts_tableDiscard (s : State) (a : Action) (r : Record) (w : Bool) : (s.sendReport a r w).link.counts.tableDiscard = s.link.counts.tableDiscard := by simp [State.sendReport]
@[simp] theorem State.sendReport_link_counts_checkForced (s : State) (a : Action) (r : Record) (w : Bool) : (s.sendReport a r w).link.counts.checkForced = s.link.counts.checkForced := by simp [State.sendReport]
@[simp] theorem State.sendReport_link_counts_beaconAbort (s : State) (a : Action) (r : Record) (w : Bool) : (s.sendReport a r w).link.counts.beaconAbort = s.link.counts.beaconAbort := by simp [State.sendReport]
@[simp] theorem State.sendReport_link_counts_blindedBursts (s : State) (a : Action) (r : Record) (w : Bool) : (s.sendReport a r w).link.counts.blindedBursts = s.link.counts.blindedBursts := by simp [State.sendReport]
@[simp] theorem State.sendReport_link_counts_refusedOrder (s : State) (a : Action) (r : Record) (w : Bool) : (s.sendReport a r w).link.counts.refusedOrder = s.link.counts.refusedOrder := by simp [State.sendReport]
@[simp] theorem State.sendAnswer_startup_node (s : State) (d : Pos) (i : BitVec 4) (a : Answer) (c : Nat) : (s.sendAnswer d i a c).startup.node = s.startup.node := by simp [State.sendAnswer]
@[simp] theorem State.sendAnswer_startup_step (s : State) (d : Pos) (i : BitVec 4) (a : Answer) (c : Nat) : (s.sendAnswer d i a c).startup.step = s.startup.step := by simp [State.sendAnswer]
@[simp] theorem State.sendAnswer_startup_pos (s : State) (d : Pos) (i : BitVec 4) (a : Answer) (c : Nat) : (s.sendAnswer d i a c).startup.pos = s.startup.pos := by simp [State.sendAnswer]
@[simp] theorem State.sendAnswer_startup_role (s : State) (d : Pos) (i : BitVec 4) (a : Answer) (c : Nat) : (s.sendAnswer d i a c).startup.role = s.startup.role := by simp [State.sendAnswer]
@[simp] theorem State.sendAnswer_startup_usable (s : State) (d : Pos) (i : BitVec 4) (a : Answer) (c : Nat) : (s.sendAnswer d i a c).startup.usable = s.startup.usable := by simp [State.sendAnswer]
@[simp] theorem State.sendAnswer_startup_floorEmitter (s : State) (d : Pos) (i : BitVec 4) (a : Answer) (c : Nat) : (s.sendAnswer d i a c).startup.floorEmitter = s.startup.floorEmitter := by simp [State.sendAnswer]
@[simp] theorem State.sendAnswer_startup_wallEmitter (s : State) (d : Pos) (i : BitVec 4) (a : Answer) (c : Nat) : (s.sendAnswer d i a c).startup.wallEmitter = s.startup.wallEmitter := by simp [State.sendAnswer]
@[simp] theorem State.sendAnswer_startup_cause (s : State) (d : Pos) (i : BitVec 4) (a : Answer) (c : Nat) : (s.sendAnswer d i a c).startup.cause = s.startup.cause := by simp [State.sendAnswer]
@[simp] theorem State.sendAnswer_startup_code (s : State) (d : Pos) (i : BitVec 4) (a : Answer) (c : Nat) : (s.sendAnswer d i a c).startup.code = s.startup.code := by simp [State.sendAnswer]
@[simp] theorem State.sendAnswer_startup_part0 (s : State) (d : Pos) (i : BitVec 4) (a : Answer) (c : Nat) : (s.sendAnswer d i a c).startup.part0 = s.startup.part0 := by simp [State.sendAnswer]
@[simp] theorem State.sendAnswer_startup_part1 (s : State) (d : Pos) (i : BitVec 4) (a : Answer) (c : Nat) : (s.sendAnswer d i a c).startup.part1 = s.startup.part1 := by simp [State.sendAnswer]
@[simp] theorem State.sendAnswer_startup_part2 (s : State) (d : Pos) (i : BitVec 4) (a : Answer) (c : Nat) : (s.sendAnswer d i a c).startup.part2 = s.startup.part2 := by simp [State.sendAnswer]
@[simp] theorem State.sendAnswer_startup_part3 (s : State) (d : Pos) (i : BitVec 4) (a : Answer) (c : Nat) : (s.sendAnswer d i a c).startup.part3 = s.startup.part3 := by simp [State.sendAnswer]
@[simp] theorem State.sendAnswer_startup_setup (s : State) (d : Pos) (i : BitVec 4) (a : Answer) (c : Nat) : (s.sendAnswer d i a c).startup.setup = s.startup.setup := by simp [State.sendAnswer]
@[simp] theorem State.sendAnswer_startup_bootTimer (s : State) (d : Pos) (i : BitVec 4) (a : Answer) (c : Nat) : (s.sendAnswer d i a c).startup.bootTimer = s.startup.bootTimer := by simp [State.sendAnswer]
@[simp] theorem State.sendAnswer_startup_loopTimer (s : State) (d : Pos) (i : BitVec 4) (a : Answer) (c : Nat) : (s.sendAnswer d i a c).startup.loopTimer = s.startup.loopTimer := by simp [State.sendAnswer]
@[simp] theorem State.sendAnswer_startup_led (s : State) (d : Pos) (i : BitVec 4) (a : Answer) (c : Nat) : (s.sendAnswer d i a c).startup.led = s.startup.led := by simp [State.sendAnswer]
@[simp] theorem State.sendAnswer_startup_ledTimer (s : State) (d : Pos) (i : BitVec 4) (a : Answer) (c : Nat) : (s.sendAnswer d i a c).startup.ledTimer = s.startup.ledTimer := by simp [State.sendAnswer]
@[simp] theorem State.sendAnswer_link_onLine (s : State) (d : Pos) (i : BitVec 4) (a : Answer) (c : Nat) : (s.sendAnswer d i a c).link.onLine = s.link.onLine := by simp [State.sendAnswer]
@[simp] theorem State.sendAnswer_link_txTimer (s : State) (d : Pos) (i : BitVec 4) (a : Answer) (c : Nat) : (s.sendAnswer d i a c).link.txTimer = s.link.txTimer := by simp [State.sendAnswer]
@[simp] theorem State.sendAnswer_link_seq (s : State) (d : Pos) (i : BitVec 4) (a : Answer) (c : Nat) : (s.sendAnswer d i a c).link.seq = s.link.seq := by simp [State.sendAnswer]
@[simp] theorem State.sendAnswer_link_yield (s : State) (d : Pos) (i : BitVec 4) (a : Answer) (c : Nat) : (s.sendAnswer d i a c).link.yield = s.link.yield := by simp [State.sendAnswer]
@[simp] theorem State.sendAnswer_link_access (s : State) (d : Pos) (i : BitVec 4) (a : Answer) (c : Nat) : (s.sendAnswer d i a c).link.access = s.link.access := by simp [State.sendAnswer]
@[simp] theorem State.sendAnswer_link_line (s : State) (d : Pos) (i : BitVec 4) (a : Answer) (c : Nat) : (s.sendAnswer d i a c).link.line = s.link.line := by simp [State.sendAnswer]
@[simp] theorem State.sendAnswer_link_rx (s : State) (d : Pos) (i : BitVec 4) (a : Answer) (c : Nat) : (s.sendAnswer d i a c).link.rx = s.link.rx := by simp [State.sendAnswer]
@[simp] theorem State.sendAnswer_link_handling (s : State) (d : Pos) (i : BitVec 4) (a : Answer) (c : Nat) : (s.sendAnswer d i a c).link.handling = s.link.handling := by simp [State.sendAnswer]
@[simp] theorem State.sendAnswer_link_healthTimer (s : State) (d : Pos) (i : BitVec 4) (a : Answer) (c : Nat) : (s.sendAnswer d i a c).link.healthTimer = s.link.healthTimer := by simp [State.sendAnswer]
@[simp] theorem State.sendAnswer_link_counts_crcError (s : State) (d : Pos) (i : BitVec 4) (a : Answer) (c : Nat) : (s.sendAnswer d i a c).link.counts.crcError = s.link.counts.crcError := by simp [State.sendAnswer]
@[simp] theorem State.sendAnswer_link_counts_overrun (s : State) (d : Pos) (i : BitVec 4) (a : Answer) (c : Nat) : (s.sendAnswer d i a c).link.counts.overrun = s.link.counts.overrun := by simp [State.sendAnswer]
@[simp] theorem State.sendAnswer_link_counts_malformed (s : State) (d : Pos) (i : BitVec 4) (a : Answer) (c : Nat) : (s.sendAnswer d i a c).link.counts.malformed = s.link.counts.malformed := by simp [State.sendAnswer]
@[simp] theorem State.sendAnswer_link_counts_duplicate (s : State) (d : Pos) (i : BitVec 4) (a : Answer) (c : Nat) : (s.sendAnswer d i a c).link.counts.duplicate = s.link.counts.duplicate := by simp [State.sendAnswer]
@[simp] theorem State.sendAnswer_link_counts_staleReport (s : State) (d : Pos) (i : BitVec 4) (a : Answer) (c : Nat) : (s.sendAnswer d i a c).link.counts.staleReport = s.link.counts.staleReport := by simp [State.sendAnswer]
@[simp] theorem State.sendAnswer_link_counts_lateAnswer (s : State) (d : Pos) (i : BitVec 4) (a : Answer) (c : Nat) : (s.sendAnswer d i a c).link.counts.lateAnswer = s.link.counts.lateAnswer := by simp [State.sendAnswer]
@[simp] theorem State.sendAnswer_link_counts_tableDiscard (s : State) (d : Pos) (i : BitVec 4) (a : Answer) (c : Nat) : (s.sendAnswer d i a c).link.counts.tableDiscard = s.link.counts.tableDiscard := by simp [State.sendAnswer]
@[simp] theorem State.sendAnswer_link_counts_checkForced (s : State) (d : Pos) (i : BitVec 4) (a : Answer) (c : Nat) : (s.sendAnswer d i a c).link.counts.checkForced = s.link.counts.checkForced := by simp [State.sendAnswer]
@[simp] theorem State.sendAnswer_link_counts_beaconAbort (s : State) (d : Pos) (i : BitVec 4) (a : Answer) (c : Nat) : (s.sendAnswer d i a c).link.counts.beaconAbort = s.link.counts.beaconAbort := by simp [State.sendAnswer]
@[simp] theorem State.sendAnswer_link_counts_blindedBursts (s : State) (d : Pos) (i : BitVec 4) (a : Answer) (c : Nat) : (s.sendAnswer d i a c).link.counts.blindedBursts = s.link.counts.blindedBursts := by simp [State.sendAnswer]
@[simp] theorem State.sendAnswer_link_counts_refusedOrder (s : State) (d : Pos) (i : BitVec 4) (a : Answer) (c : Nat) : (s.sendAnswer d i a c).link.counts.refusedOrder = s.link.counts.refusedOrder := by simp [State.sendAnswer]
@[simp] theorem State.judgeVerdict_startup_node (s : State) : s.judgeVerdict.startup.node = s.startup.node := by
  unfold State.judgeVerdict; split <;> simp
@[simp] theorem State.judgeVerdict_startup_step (s : State) : s.judgeVerdict.startup.step = s.startup.step := by
  unfold State.judgeVerdict; split <;> simp
@[simp] theorem State.judgeVerdict_startup_pos (s : State) : s.judgeVerdict.startup.pos = s.startup.pos := by
  unfold State.judgeVerdict; split <;> simp
@[simp] theorem State.judgeVerdict_startup_role (s : State) : s.judgeVerdict.startup.role = s.startup.role := by
  unfold State.judgeVerdict; split <;> simp
@[simp] theorem State.judgeVerdict_startup_usable (s : State) : s.judgeVerdict.startup.usable = s.startup.usable := by
  unfold State.judgeVerdict; split <;> simp
@[simp] theorem State.judgeVerdict_startup_floorEmitter (s : State) : s.judgeVerdict.startup.floorEmitter = s.startup.floorEmitter := by
  unfold State.judgeVerdict; split <;> simp
@[simp] theorem State.judgeVerdict_startup_wallEmitter (s : State) : s.judgeVerdict.startup.wallEmitter = s.startup.wallEmitter := by
  unfold State.judgeVerdict; split <;> simp
@[simp] theorem State.judgeVerdict_startup_cause (s : State) : s.judgeVerdict.startup.cause = s.startup.cause := by
  unfold State.judgeVerdict; split <;> simp
@[simp] theorem State.judgeVerdict_startup_code (s : State) : s.judgeVerdict.startup.code = s.startup.code := by
  unfold State.judgeVerdict; split <;> simp
@[simp] theorem State.judgeVerdict_startup_part0 (s : State) : s.judgeVerdict.startup.part0 = s.startup.part0 := by
  unfold State.judgeVerdict; split <;> simp
@[simp] theorem State.judgeVerdict_startup_part1 (s : State) : s.judgeVerdict.startup.part1 = s.startup.part1 := by
  unfold State.judgeVerdict; split <;> simp
@[simp] theorem State.judgeVerdict_startup_part2 (s : State) : s.judgeVerdict.startup.part2 = s.startup.part2 := by
  unfold State.judgeVerdict; split <;> simp
@[simp] theorem State.judgeVerdict_startup_part3 (s : State) : s.judgeVerdict.startup.part3 = s.startup.part3 := by
  unfold State.judgeVerdict; split <;> simp
@[simp] theorem State.judgeVerdict_startup_setup (s : State) : s.judgeVerdict.startup.setup = s.startup.setup := by
  unfold State.judgeVerdict; split <;> simp
@[simp] theorem State.judgeVerdict_startup_bootTimer (s : State) : s.judgeVerdict.startup.bootTimer = s.startup.bootTimer := by
  unfold State.judgeVerdict; split <;> simp
@[simp] theorem State.judgeVerdict_startup_loopTimer (s : State) : s.judgeVerdict.startup.loopTimer = s.startup.loopTimer := by
  unfold State.judgeVerdict; split <;> simp
@[simp] theorem State.judgeVerdict_startup_led (s : State) : s.judgeVerdict.startup.led = s.startup.led := by
  unfold State.judgeVerdict; split <;> simp
@[simp] theorem State.judgeVerdict_startup_ledTimer (s : State) : s.judgeVerdict.startup.ledTimer = s.startup.ledTimer := by
  unfold State.judgeVerdict; split <;> simp
@[simp] theorem State.judgeVerdict_link_onLine (s : State) : s.judgeVerdict.link.onLine = s.link.onLine := by
  unfold State.judgeVerdict; split <;> simp
@[simp] theorem State.judgeVerdict_link_txTimer (s : State) : s.judgeVerdict.link.txTimer = s.link.txTimer := by
  unfold State.judgeVerdict; split <;> simp
@[simp] theorem State.judgeVerdict_link_seq (s : State) : s.judgeVerdict.link.seq = s.link.seq := by
  unfold State.judgeVerdict; split <;> simp
@[simp] theorem State.judgeVerdict_link_yield (s : State) : s.judgeVerdict.link.yield = s.link.yield := by
  unfold State.judgeVerdict; split <;> simp
@[simp] theorem State.judgeVerdict_link_access (s : State) : s.judgeVerdict.link.access = s.link.access := by
  unfold State.judgeVerdict; split <;> simp
@[simp] theorem State.judgeVerdict_link_line (s : State) : s.judgeVerdict.link.line = s.link.line := by
  unfold State.judgeVerdict; split <;> simp
@[simp] theorem State.judgeVerdict_link_rx (s : State) : s.judgeVerdict.link.rx = s.link.rx := by
  unfold State.judgeVerdict; split <;> simp
@[simp] theorem State.judgeVerdict_link_handling (s : State) : s.judgeVerdict.link.handling = s.link.handling := by
  unfold State.judgeVerdict; split <;> simp
@[simp] theorem State.judgeVerdict_link_healthTimer (s : State) : s.judgeVerdict.link.healthTimer = s.link.healthTimer := by
  unfold State.judgeVerdict; split <;> simp
@[simp] theorem State.judgeVerdict_link_counts_crcError (s : State) : s.judgeVerdict.link.counts.crcError = s.link.counts.crcError := by
  unfold State.judgeVerdict; split <;> simp
@[simp] theorem State.judgeVerdict_link_counts_overrun (s : State) : s.judgeVerdict.link.counts.overrun = s.link.counts.overrun := by
  unfold State.judgeVerdict; split <;> simp
@[simp] theorem State.judgeVerdict_link_counts_malformed (s : State) : s.judgeVerdict.link.counts.malformed = s.link.counts.malformed := by
  unfold State.judgeVerdict; split <;> simp
@[simp] theorem State.judgeVerdict_link_counts_duplicate (s : State) : s.judgeVerdict.link.counts.duplicate = s.link.counts.duplicate := by
  unfold State.judgeVerdict; split <;> simp
@[simp] theorem State.judgeVerdict_link_counts_staleReport (s : State) : s.judgeVerdict.link.counts.staleReport = s.link.counts.staleReport := by
  unfold State.judgeVerdict; split <;> simp
@[simp] theorem State.judgeVerdict_link_counts_lateAnswer (s : State) : s.judgeVerdict.link.counts.lateAnswer = s.link.counts.lateAnswer := by
  unfold State.judgeVerdict; split <;> simp
@[simp] theorem State.judgeVerdict_link_counts_tableDiscard (s : State) : s.judgeVerdict.link.counts.tableDiscard = s.link.counts.tableDiscard := by
  unfold State.judgeVerdict; split <;> simp
@[simp] theorem State.judgeVerdict_link_counts_checkForced (s : State) : s.judgeVerdict.link.counts.checkForced = s.link.counts.checkForced := by
  unfold State.judgeVerdict; split <;> simp
@[simp] theorem State.judgeVerdict_link_counts_beaconAbort (s : State) : s.judgeVerdict.link.counts.beaconAbort = s.link.counts.beaconAbort := by
  unfold State.judgeVerdict; split <;> simp
@[simp] theorem State.judgeVerdict_link_counts_blindedBursts (s : State) : s.judgeVerdict.link.counts.blindedBursts = s.link.counts.blindedBursts := by
  unfold State.judgeVerdict; split <;> simp
@[simp] theorem State.judgeVerdict_link_counts_refusedOrder (s : State) : s.judgeVerdict.link.counts.refusedOrder = s.link.counts.refusedOrder := by
  unfold State.judgeVerdict; split <;> simp
@[simp] theorem State.recompute_startup_node (s : State) : s.recompute.startup.node = s.startup.node := by
  unfold State.recompute; split <;> simp
@[simp] theorem State.recompute_startup_step (s : State) : s.recompute.startup.step = s.startup.step := by
  unfold State.recompute; split <;> simp
@[simp] theorem State.recompute_startup_pos (s : State) : s.recompute.startup.pos = s.startup.pos := by
  unfold State.recompute; split <;> simp
@[simp] theorem State.recompute_startup_role (s : State) : s.recompute.startup.role = s.startup.role := by
  unfold State.recompute; split <;> simp
@[simp] theorem State.recompute_startup_usable (s : State) : s.recompute.startup.usable = s.startup.usable := by
  unfold State.recompute; split <;> simp
@[simp] theorem State.recompute_startup_floorEmitter (s : State) : s.recompute.startup.floorEmitter = s.startup.floorEmitter := by
  unfold State.recompute; split <;> simp
@[simp] theorem State.recompute_startup_wallEmitter (s : State) : s.recompute.startup.wallEmitter = s.startup.wallEmitter := by
  unfold State.recompute; split <;> simp
@[simp] theorem State.recompute_startup_cause (s : State) : s.recompute.startup.cause = s.startup.cause := by
  unfold State.recompute; split <;> simp
@[simp] theorem State.recompute_startup_code (s : State) : s.recompute.startup.code = s.startup.code := by
  unfold State.recompute; split <;> simp
@[simp] theorem State.recompute_startup_part0 (s : State) : s.recompute.startup.part0 = s.startup.part0 := by
  unfold State.recompute; split <;> simp
@[simp] theorem State.recompute_startup_part1 (s : State) : s.recompute.startup.part1 = s.startup.part1 := by
  unfold State.recompute; split <;> simp
@[simp] theorem State.recompute_startup_part2 (s : State) : s.recompute.startup.part2 = s.startup.part2 := by
  unfold State.recompute; split <;> simp
@[simp] theorem State.recompute_startup_part3 (s : State) : s.recompute.startup.part3 = s.startup.part3 := by
  unfold State.recompute; split <;> simp
@[simp] theorem State.recompute_startup_setup (s : State) : s.recompute.startup.setup = s.startup.setup := by
  unfold State.recompute; split <;> simp
@[simp] theorem State.recompute_startup_bootTimer (s : State) : s.recompute.startup.bootTimer = s.startup.bootTimer := by
  unfold State.recompute; split <;> simp
@[simp] theorem State.recompute_startup_loopTimer (s : State) : s.recompute.startup.loopTimer = s.startup.loopTimer := by
  unfold State.recompute; split <;> simp
@[simp] theorem State.recompute_startup_led (s : State) : s.recompute.startup.led = s.startup.led := by
  unfold State.recompute; split <;> simp
@[simp] theorem State.recompute_startup_ledTimer (s : State) : s.recompute.startup.ledTimer = s.startup.ledTimer := by
  unfold State.recompute; split <;> simp
@[simp] theorem State.recompute_link_onLine (s : State) : s.recompute.link.onLine = s.link.onLine := by
  unfold State.recompute; split <;> simp
@[simp] theorem State.recompute_link_txTimer (s : State) : s.recompute.link.txTimer = s.link.txTimer := by
  unfold State.recompute; split <;> simp
@[simp] theorem State.recompute_link_seq (s : State) : s.recompute.link.seq = s.link.seq := by
  unfold State.recompute; split <;> simp
@[simp] theorem State.recompute_link_yield (s : State) : s.recompute.link.yield = s.link.yield := by
  unfold State.recompute; split <;> simp
@[simp] theorem State.recompute_link_access (s : State) : s.recompute.link.access = s.link.access := by
  unfold State.recompute; split <;> simp
@[simp] theorem State.recompute_link_line (s : State) : s.recompute.link.line = s.link.line := by
  unfold State.recompute; split <;> simp
@[simp] theorem State.recompute_link_rx (s : State) : s.recompute.link.rx = s.link.rx := by
  unfold State.recompute; split <;> simp
@[simp] theorem State.recompute_link_handling (s : State) : s.recompute.link.handling = s.link.handling := by
  unfold State.recompute; split <;> simp
@[simp] theorem State.recompute_link_healthTimer (s : State) : s.recompute.link.healthTimer = s.link.healthTimer := by
  unfold State.recompute; split <;> simp
@[simp] theorem State.recompute_link_counts_crcError (s : State) : s.recompute.link.counts.crcError = s.link.counts.crcError := by
  unfold State.recompute; split <;> simp
@[simp] theorem State.recompute_link_counts_overrun (s : State) : s.recompute.link.counts.overrun = s.link.counts.overrun := by
  unfold State.recompute; split <;> simp
@[simp] theorem State.recompute_link_counts_malformed (s : State) : s.recompute.link.counts.malformed = s.link.counts.malformed := by
  unfold State.recompute; split <;> simp
@[simp] theorem State.recompute_link_counts_duplicate (s : State) : s.recompute.link.counts.duplicate = s.link.counts.duplicate := by
  unfold State.recompute; split <;> simp
@[simp] theorem State.recompute_link_counts_staleReport (s : State) : s.recompute.link.counts.staleReport = s.link.counts.staleReport := by
  unfold State.recompute; split <;> simp
@[simp] theorem State.recompute_link_counts_lateAnswer (s : State) : s.recompute.link.counts.lateAnswer = s.link.counts.lateAnswer := by
  unfold State.recompute; split <;> simp
@[simp] theorem State.recompute_link_counts_tableDiscard (s : State) : s.recompute.link.counts.tableDiscard = s.link.counts.tableDiscard := by
  unfold State.recompute; split <;> simp
@[simp] theorem State.recompute_link_counts_checkForced (s : State) : s.recompute.link.counts.checkForced = s.link.counts.checkForced := by
  unfold State.recompute; split <;> simp
@[simp] theorem State.recompute_link_counts_beaconAbort (s : State) : s.recompute.link.counts.beaconAbort = s.link.counts.beaconAbort := by
  unfold State.recompute; split <;> simp
@[simp] theorem State.recompute_link_counts_blindedBursts (s : State) : s.recompute.link.counts.blindedBursts = s.link.counts.blindedBursts := by
  unfold State.recompute; split <;> simp
@[simp] theorem State.recompute_link_counts_refusedOrder (s : State) : s.recompute.link.counts.refusedOrder = s.link.counts.refusedOrder := by
  unfold State.recompute; split <;> simp
@[simp] theorem State.notify_startup_node (s : State) (b : State) (w : Bool) : (s.notify b w).startup.node = s.startup.node := by
  unfold State.notify; split <;> simp
@[simp] theorem State.notify_startup_step (s : State) (b : State) (w : Bool) : (s.notify b w).startup.step = s.startup.step := by
  unfold State.notify; split <;> simp
@[simp] theorem State.notify_startup_pos (s : State) (b : State) (w : Bool) : (s.notify b w).startup.pos = s.startup.pos := by
  unfold State.notify; split <;> simp
@[simp] theorem State.notify_startup_role (s : State) (b : State) (w : Bool) : (s.notify b w).startup.role = s.startup.role := by
  unfold State.notify; split <;> simp
@[simp] theorem State.notify_startup_usable (s : State) (b : State) (w : Bool) : (s.notify b w).startup.usable = s.startup.usable := by
  unfold State.notify; split <;> simp
@[simp] theorem State.notify_startup_floorEmitter (s : State) (b : State) (w : Bool) : (s.notify b w).startup.floorEmitter = s.startup.floorEmitter := by
  unfold State.notify; split <;> simp
@[simp] theorem State.notify_startup_wallEmitter (s : State) (b : State) (w : Bool) : (s.notify b w).startup.wallEmitter = s.startup.wallEmitter := by
  unfold State.notify; split <;> simp
@[simp] theorem State.notify_startup_cause (s : State) (b : State) (w : Bool) : (s.notify b w).startup.cause = s.startup.cause := by
  unfold State.notify; split <;> simp
@[simp] theorem State.notify_startup_code (s : State) (b : State) (w : Bool) : (s.notify b w).startup.code = s.startup.code := by
  unfold State.notify; split <;> simp
@[simp] theorem State.notify_startup_part0 (s : State) (b : State) (w : Bool) : (s.notify b w).startup.part0 = s.startup.part0 := by
  unfold State.notify; split <;> simp
@[simp] theorem State.notify_startup_part1 (s : State) (b : State) (w : Bool) : (s.notify b w).startup.part1 = s.startup.part1 := by
  unfold State.notify; split <;> simp
@[simp] theorem State.notify_startup_part2 (s : State) (b : State) (w : Bool) : (s.notify b w).startup.part2 = s.startup.part2 := by
  unfold State.notify; split <;> simp
@[simp] theorem State.notify_startup_part3 (s : State) (b : State) (w : Bool) : (s.notify b w).startup.part3 = s.startup.part3 := by
  unfold State.notify; split <;> simp
@[simp] theorem State.notify_startup_setup (s : State) (b : State) (w : Bool) : (s.notify b w).startup.setup = s.startup.setup := by
  unfold State.notify; split <;> simp
@[simp] theorem State.notify_startup_bootTimer (s : State) (b : State) (w : Bool) : (s.notify b w).startup.bootTimer = s.startup.bootTimer := by
  unfold State.notify; split <;> simp
@[simp] theorem State.notify_startup_loopTimer (s : State) (b : State) (w : Bool) : (s.notify b w).startup.loopTimer = s.startup.loopTimer := by
  unfold State.notify; split <;> simp
@[simp] theorem State.notify_startup_led (s : State) (b : State) (w : Bool) : (s.notify b w).startup.led = s.startup.led := by
  unfold State.notify; split <;> simp
@[simp] theorem State.notify_startup_ledTimer (s : State) (b : State) (w : Bool) : (s.notify b w).startup.ledTimer = s.startup.ledTimer := by
  unfold State.notify; split <;> simp
@[simp] theorem State.notify_link_onLine (s : State) (b : State) (w : Bool) : (s.notify b w).link.onLine = s.link.onLine := by
  unfold State.notify; split <;> simp
@[simp] theorem State.notify_link_txTimer (s : State) (b : State) (w : Bool) : (s.notify b w).link.txTimer = s.link.txTimer := by
  unfold State.notify; split <;> simp
@[simp] theorem State.notify_link_seq (s : State) (b : State) (w : Bool) : (s.notify b w).link.seq = s.link.seq := by
  unfold State.notify; split <;> simp
@[simp] theorem State.notify_link_yield (s : State) (b : State) (w : Bool) : (s.notify b w).link.yield = s.link.yield := by
  unfold State.notify; split <;> simp
@[simp] theorem State.notify_link_access (s : State) (b : State) (w : Bool) : (s.notify b w).link.access = s.link.access := by
  unfold State.notify; split <;> simp
@[simp] theorem State.notify_link_line (s : State) (b : State) (w : Bool) : (s.notify b w).link.line = s.link.line := by
  unfold State.notify; split <;> simp
@[simp] theorem State.notify_link_rx (s : State) (b : State) (w : Bool) : (s.notify b w).link.rx = s.link.rx := by
  unfold State.notify; split <;> simp
@[simp] theorem State.notify_link_handling (s : State) (b : State) (w : Bool) : (s.notify b w).link.handling = s.link.handling := by
  unfold State.notify; split <;> simp
@[simp] theorem State.notify_link_healthTimer (s : State) (b : State) (w : Bool) : (s.notify b w).link.healthTimer = s.link.healthTimer := by
  unfold State.notify; split <;> simp
@[simp] theorem State.notify_link_counts_crcError (s : State) (b : State) (w : Bool) : (s.notify b w).link.counts.crcError = s.link.counts.crcError := by
  unfold State.notify; split <;> simp
@[simp] theorem State.notify_link_counts_overrun (s : State) (b : State) (w : Bool) : (s.notify b w).link.counts.overrun = s.link.counts.overrun := by
  unfold State.notify; split <;> simp
@[simp] theorem State.notify_link_counts_malformed (s : State) (b : State) (w : Bool) : (s.notify b w).link.counts.malformed = s.link.counts.malformed := by
  unfold State.notify; split <;> simp
@[simp] theorem State.notify_link_counts_duplicate (s : State) (b : State) (w : Bool) : (s.notify b w).link.counts.duplicate = s.link.counts.duplicate := by
  unfold State.notify; split <;> simp
@[simp] theorem State.notify_link_counts_staleReport (s : State) (b : State) (w : Bool) : (s.notify b w).link.counts.staleReport = s.link.counts.staleReport := by
  unfold State.notify; split <;> simp
@[simp] theorem State.notify_link_counts_lateAnswer (s : State) (b : State) (w : Bool) : (s.notify b w).link.counts.lateAnswer = s.link.counts.lateAnswer := by
  unfold State.notify; split <;> simp
@[simp] theorem State.notify_link_counts_tableDiscard (s : State) (b : State) (w : Bool) : (s.notify b w).link.counts.tableDiscard = s.link.counts.tableDiscard := by
  unfold State.notify; split <;> simp
@[simp] theorem State.notify_link_counts_checkForced (s : State) (b : State) (w : Bool) : (s.notify b w).link.counts.checkForced = s.link.counts.checkForced := by
  unfold State.notify; split <;> simp
@[simp] theorem State.notify_link_counts_beaconAbort (s : State) (b : State) (w : Bool) : (s.notify b w).link.counts.beaconAbort = s.link.counts.beaconAbort := by
  unfold State.notify; split <;> simp
@[simp] theorem State.notify_link_counts_blindedBursts (s : State) (b : State) (w : Bool) : (s.notify b w).link.counts.blindedBursts = s.link.counts.blindedBursts := by
  unfold State.notify; split <;> simp
@[simp] theorem State.notify_link_counts_refusedOrder (s : State) (b : State) (w : Bool) : (s.notify b w).link.counts.refusedOrder = s.link.counts.refusedOrder := by
  unfold State.notify; split <;> simp
@[simp] theorem State.startCarry_link_queue (s : State) : s.startCarry.link.queue = s.link.queue := rfl
@[simp] theorem State.startCarry_link_nextOrder (s : State) : s.startCarry.link.nextOrder = s.link.nextOrder := rfl
@[simp] theorem State.startCarry_link_counts (s : State) : s.startCarry.link.counts = s.link.counts := rfl
@[simp] theorem State.startCarry_link_onLine (s : State) : s.startCarry.link.onLine = s.link.onLine := rfl
@[simp] theorem State.startCarry_link_txTimer (s : State) : s.startCarry.link.txTimer = s.link.txTimer := rfl
@[simp] theorem State.startCarry_link_seq (s : State) : s.startCarry.link.seq = s.link.seq := rfl
@[simp] theorem State.startCarry_link_yield (s : State) : s.startCarry.link.yield = s.link.yield := rfl
@[simp] theorem State.startCarry_link_access (s : State) : s.startCarry.link.access = s.link.access := rfl
@[simp] theorem State.startCarry_link_line (s : State) : s.startCarry.link.line = s.link.line := rfl
@[simp] theorem State.startCarry_link_rx (s : State) : s.startCarry.link.rx = s.link.rx := rfl
@[simp] theorem State.startCarry_link_healthTimer (s : State) : s.startCarry.link.healthTimer = s.link.healthTimer := rfl
@[simp] theorem State.pushOverNonCliff_link_queue (s : State) (i : Item) : (s.pushOverNonCliff i).link.queue = s.link.queue := by
  unfold State.pushOverNonCliff; split
  · simp
  · split <;> simp
@[simp] theorem State.pushOverNonCliff_link_nextOrder (s : State) (i : Item) : (s.pushOverNonCliff i).link.nextOrder = s.link.nextOrder := by
  unfold State.pushOverNonCliff; split
  · simp
  · split <;> simp
@[simp] theorem State.pushOverNonCliff_link_onLine (s : State) (i : Item) : (s.pushOverNonCliff i).link.onLine = s.link.onLine := by
  unfold State.pushOverNonCliff; split
  · simp
  · split <;> simp
@[simp] theorem State.pushOverNonCliff_link_txTimer (s : State) (i : Item) : (s.pushOverNonCliff i).link.txTimer = s.link.txTimer := by
  unfold State.pushOverNonCliff; split
  · simp
  · split <;> simp
@[simp] theorem State.pushOverNonCliff_link_seq (s : State) (i : Item) : (s.pushOverNonCliff i).link.seq = s.link.seq := by
  unfold State.pushOverNonCliff; split
  · simp
  · split <;> simp
@[simp] theorem State.pushOverNonCliff_link_yield (s : State) (i : Item) : (s.pushOverNonCliff i).link.yield = s.link.yield := by
  unfold State.pushOverNonCliff; split
  · simp
  · split <;> simp
@[simp] theorem State.pushOverNonCliff_link_access (s : State) (i : Item) : (s.pushOverNonCliff i).link.access = s.link.access := by
  unfold State.pushOverNonCliff; split
  · simp
  · split <;> simp
@[simp] theorem State.pushOverNonCliff_link_line (s : State) (i : Item) : (s.pushOverNonCliff i).link.line = s.link.line := by
  unfold State.pushOverNonCliff; split
  · simp
  · split <;> simp
@[simp] theorem State.pushOverNonCliff_link_rx (s : State) (i : Item) : (s.pushOverNonCliff i).link.rx = s.link.rx := by
  unfold State.pushOverNonCliff; split
  · simp
  · split <;> simp
@[simp] theorem State.pushOverNonCliff_link_handling (s : State) (i : Item) : (s.pushOverNonCliff i).link.handling = s.link.handling := by
  unfold State.pushOverNonCliff; split
  · simp
  · split <;> simp
@[simp] theorem State.pushOverNonCliff_link_healthTimer (s : State) (i : Item) : (s.pushOverNonCliff i).link.healthTimer = s.link.healthTimer := by
  unfold State.pushOverNonCliff; split
  · simp
  · split <;> simp
@[simp] theorem State.pushOverNonCliff_link_counts_crcError (s : State) (i : Item) : (s.pushOverNonCliff i).link.counts.crcError = s.link.counts.crcError := by
  unfold State.pushOverNonCliff; split
  · simp
  · split <;> simp
@[simp] theorem State.pushOverNonCliff_link_counts_overrun (s : State) (i : Item) : (s.pushOverNonCliff i).link.counts.overrun = s.link.counts.overrun := by
  unfold State.pushOverNonCliff; split
  · simp
  · split <;> simp
@[simp] theorem State.pushOverNonCliff_link_counts_malformed (s : State) (i : Item) : (s.pushOverNonCliff i).link.counts.malformed = s.link.counts.malformed := by
  unfold State.pushOverNonCliff; split
  · simp
  · split <;> simp
@[simp] theorem State.pushOverNonCliff_link_counts_duplicate (s : State) (i : Item) : (s.pushOverNonCliff i).link.counts.duplicate = s.link.counts.duplicate := by
  unfold State.pushOverNonCliff; split
  · simp
  · split <;> simp
@[simp] theorem State.pushOverNonCliff_link_counts_staleReport (s : State) (i : Item) : (s.pushOverNonCliff i).link.counts.staleReport = s.link.counts.staleReport := by
  unfold State.pushOverNonCliff; split
  · simp
  · split <;> simp
@[simp] theorem State.pushOverNonCliff_link_counts_lateAnswer (s : State) (i : Item) : (s.pushOverNonCliff i).link.counts.lateAnswer = s.link.counts.lateAnswer := by
  unfold State.pushOverNonCliff; split
  · simp
  · split <;> simp
@[simp] theorem State.pushOverNonCliff_link_counts_checkForced (s : State) (i : Item) : (s.pushOverNonCliff i).link.counts.checkForced = s.link.counts.checkForced := by
  unfold State.pushOverNonCliff; split
  · simp
  · split <;> simp
@[simp] theorem State.pushOverNonCliff_link_counts_beaconAbort (s : State) (i : Item) : (s.pushOverNonCliff i).link.counts.beaconAbort = s.link.counts.beaconAbort := by
  unfold State.pushOverNonCliff; split
  · simp
  · split <;> simp
@[simp] theorem State.pushOverNonCliff_link_counts_blindedBursts (s : State) (i : Item) : (s.pushOverNonCliff i).link.counts.blindedBursts = s.link.counts.blindedBursts := by
  unfold State.pushOverNonCliff; split
  · simp
  · split <;> simp
@[simp] theorem State.pushOverNonCliff_link_counts_refusedOrder (s : State) (i : Item) : (s.pushOverNonCliff i).link.counts.refusedOrder = s.link.counts.refusedOrder := by
  unfold State.pushOverNonCliff; split
  · simp
  · split <;> simp
@[simp] theorem State.takeWork_link_queue (s : State) : s.takeWork.link.queue = s.link.queue := by
  unfold State.takeWork; dsimp only; (repeat' split) <;> simp
@[simp] theorem State.takeWork_link_nextOrder (s : State) : s.takeWork.link.nextOrder = s.link.nextOrder := by
  unfold State.takeWork; dsimp only; (repeat' split) <;> simp
@[simp] theorem State.takeWork_link_counts (s : State) : s.takeWork.link.counts = s.link.counts := by
  unfold State.takeWork; dsimp only; (repeat' split) <;> simp
@[simp] theorem State.takeWork_link_onLine (s : State) : s.takeWork.link.onLine = s.link.onLine := by
  unfold State.takeWork; dsimp only; (repeat' split) <;> simp
@[simp] theorem State.takeWork_link_txTimer (s : State) : s.takeWork.link.txTimer = s.link.txTimer := by
  unfold State.takeWork; dsimp only; (repeat' split) <;> simp
@[simp] theorem State.takeWork_link_seq (s : State) : s.takeWork.link.seq = s.link.seq := by
  unfold State.takeWork; dsimp only; (repeat' split) <;> simp
@[simp] theorem State.takeWork_link_yield (s : State) : s.takeWork.link.yield = s.link.yield := by
  unfold State.takeWork; dsimp only; (repeat' split) <;> simp
@[simp] theorem State.takeWork_link_access (s : State) : s.takeWork.link.access = s.link.access := by
  unfold State.takeWork; dsimp only; (repeat' split) <;> simp
@[simp] theorem State.takeWork_link_line (s : State) : s.takeWork.link.line = s.link.line := by
  unfold State.takeWork; dsimp only; (repeat' split) <;> simp
@[simp] theorem State.takeWork_link_rx (s : State) : s.takeWork.link.rx = s.link.rx := by
  unfold State.takeWork; dsimp only; (repeat' split) <;> simp
@[simp] theorem State.takeWork_link_healthTimer (s : State) : s.takeWork.link.healthTimer = s.link.healthTimer := by
  unfold State.takeWork; dsimp only; (repeat' split) <;> simp
@[simp] theorem State.kick_link_queue (s : State) : s.kick.link.queue = s.link.queue := by
  unfold State.kick; split <;> simp
@[simp] theorem State.kick_link_nextOrder (s : State) : s.kick.link.nextOrder = s.link.nextOrder := by
  unfold State.kick; split <;> simp
@[simp] theorem State.kick_link_counts (s : State) : s.kick.link.counts = s.link.counts := by
  unfold State.kick; split <;> simp
@[simp] theorem State.kick_link_onLine (s : State) : s.kick.link.onLine = s.link.onLine := by
  unfold State.kick; split <;> simp
@[simp] theorem State.kick_link_txTimer (s : State) : s.kick.link.txTimer = s.link.txTimer := by
  unfold State.kick; split <;> simp
@[simp] theorem State.kick_link_seq (s : State) : s.kick.link.seq = s.link.seq := by
  unfold State.kick; split <;> simp
@[simp] theorem State.kick_link_yield (s : State) : s.kick.link.yield = s.link.yield := by
  unfold State.kick; split <;> simp
@[simp] theorem State.kick_link_access (s : State) : s.kick.link.access = s.link.access := by
  unfold State.kick; split <;> simp
@[simp] theorem State.kick_link_line (s : State) : s.kick.link.line = s.link.line := by
  unfold State.kick; split <;> simp
@[simp] theorem State.kick_link_rx (s : State) : s.kick.link.rx = s.link.rx := by
  unfold State.kick; split <;> simp
@[simp] theorem State.kick_link_healthTimer (s : State) : s.kick.link.healthTimer = s.link.healthTimer := by
  unfold State.kick; split <;> simp
@[simp] theorem State.pushItem_startup_node (s : State) (i : Item) : (s.pushItem i).startup.node = s.startup.node := by
  unfold State.pushItem; (repeat' split) <;> simp
@[simp] theorem State.pushItem_startup_step (s : State) (i : Item) : (s.pushItem i).startup.step = s.startup.step := by
  unfold State.pushItem; (repeat' split) <;> simp
@[simp] theorem State.pushItem_startup_pos (s : State) (i : Item) : (s.pushItem i).startup.pos = s.startup.pos := by
  unfold State.pushItem; (repeat' split) <;> simp
@[simp] theorem State.pushItem_startup_role (s : State) (i : Item) : (s.pushItem i).startup.role = s.startup.role := by
  unfold State.pushItem; (repeat' split) <;> simp
@[simp] theorem State.pushItem_startup_usable (s : State) (i : Item) : (s.pushItem i).startup.usable = s.startup.usable := by
  unfold State.pushItem; (repeat' split) <;> simp
@[simp] theorem State.pushItem_startup_floorEmitter (s : State) (i : Item) : (s.pushItem i).startup.floorEmitter = s.startup.floorEmitter := by
  unfold State.pushItem; (repeat' split) <;> simp
@[simp] theorem State.pushItem_startup_wallEmitter (s : State) (i : Item) : (s.pushItem i).startup.wallEmitter = s.startup.wallEmitter := by
  unfold State.pushItem; (repeat' split) <;> simp
@[simp] theorem State.pushItem_startup_cause (s : State) (i : Item) : (s.pushItem i).startup.cause = s.startup.cause := by
  unfold State.pushItem; (repeat' split) <;> simp
@[simp] theorem State.pushItem_startup_code (s : State) (i : Item) : (s.pushItem i).startup.code = s.startup.code := by
  unfold State.pushItem; (repeat' split) <;> simp
@[simp] theorem State.pushItem_startup_part0 (s : State) (i : Item) : (s.pushItem i).startup.part0 = s.startup.part0 := by
  unfold State.pushItem; (repeat' split) <;> simp
@[simp] theorem State.pushItem_startup_part1 (s : State) (i : Item) : (s.pushItem i).startup.part1 = s.startup.part1 := by
  unfold State.pushItem; (repeat' split) <;> simp
@[simp] theorem State.pushItem_startup_part2 (s : State) (i : Item) : (s.pushItem i).startup.part2 = s.startup.part2 := by
  unfold State.pushItem; (repeat' split) <;> simp
@[simp] theorem State.pushItem_startup_part3 (s : State) (i : Item) : (s.pushItem i).startup.part3 = s.startup.part3 := by
  unfold State.pushItem; (repeat' split) <;> simp
@[simp] theorem State.pushItem_startup_setup (s : State) (i : Item) : (s.pushItem i).startup.setup = s.startup.setup := by
  unfold State.pushItem; (repeat' split) <;> simp
@[simp] theorem State.pushItem_startup_bootTimer (s : State) (i : Item) : (s.pushItem i).startup.bootTimer = s.startup.bootTimer := by
  unfold State.pushItem; (repeat' split) <;> simp
@[simp] theorem State.pushItem_startup_loopTimer (s : State) (i : Item) : (s.pushItem i).startup.loopTimer = s.startup.loopTimer := by
  unfold State.pushItem; (repeat' split) <;> simp
@[simp] theorem State.pushItem_startup_led (s : State) (i : Item) : (s.pushItem i).startup.led = s.startup.led := by
  unfold State.pushItem; (repeat' split) <;> simp
@[simp] theorem State.pushItem_startup_ledTimer (s : State) (i : Item) : (s.pushItem i).startup.ledTimer = s.startup.ledTimer := by
  unfold State.pushItem; (repeat' split) <;> simp
@[simp] theorem State.pushItem_link_onLine (s : State) (i : Item) : (s.pushItem i).link.onLine = s.link.onLine := by
  unfold State.pushItem; (repeat' split) <;> simp
@[simp] theorem State.pushItem_link_txTimer (s : State) (i : Item) : (s.pushItem i).link.txTimer = s.link.txTimer := by
  unfold State.pushItem; (repeat' split) <;> simp
@[simp] theorem State.pushItem_link_seq (s : State) (i : Item) : (s.pushItem i).link.seq = s.link.seq := by
  unfold State.pushItem; (repeat' split) <;> simp
@[simp] theorem State.pushItem_link_yield (s : State) (i : Item) : (s.pushItem i).link.yield = s.link.yield := by
  unfold State.pushItem; (repeat' split) <;> simp
@[simp] theorem State.pushItem_link_access (s : State) (i : Item) : (s.pushItem i).link.access = s.link.access := by
  unfold State.pushItem; (repeat' split) <;> simp
@[simp] theorem State.pushItem_link_line (s : State) (i : Item) : (s.pushItem i).link.line = s.link.line := by
  unfold State.pushItem; (repeat' split) <;> simp
@[simp] theorem State.pushItem_link_rx (s : State) (i : Item) : (s.pushItem i).link.rx = s.link.rx := by
  unfold State.pushItem; (repeat' split) <;> simp
@[simp] theorem State.pushItem_link_handling (s : State) (i : Item) : (s.pushItem i).link.handling = s.link.handling := by
  unfold State.pushItem; (repeat' split) <;> simp
@[simp] theorem State.pushItem_link_healthTimer (s : State) (i : Item) : (s.pushItem i).link.healthTimer = s.link.healthTimer := by
  unfold State.pushItem; (repeat' split) <;> simp
@[simp] theorem State.pushItem_link_counts_crcError (s : State) (i : Item) : (s.pushItem i).link.counts.crcError = s.link.counts.crcError := by
  unfold State.pushItem; (repeat' split) <;> simp
@[simp] theorem State.pushItem_link_counts_overrun (s : State) (i : Item) : (s.pushItem i).link.counts.overrun = s.link.counts.overrun := by
  unfold State.pushItem; (repeat' split) <;> simp
@[simp] theorem State.pushItem_link_counts_malformed (s : State) (i : Item) : (s.pushItem i).link.counts.malformed = s.link.counts.malformed := by
  unfold State.pushItem; (repeat' split) <;> simp
@[simp] theorem State.pushItem_link_counts_duplicate (s : State) (i : Item) : (s.pushItem i).link.counts.duplicate = s.link.counts.duplicate := by
  unfold State.pushItem; (repeat' split) <;> simp
@[simp] theorem State.pushItem_link_counts_staleReport (s : State) (i : Item) : (s.pushItem i).link.counts.staleReport = s.link.counts.staleReport := by
  unfold State.pushItem; (repeat' split) <;> simp
@[simp] theorem State.pushItem_link_counts_lateAnswer (s : State) (i : Item) : (s.pushItem i).link.counts.lateAnswer = s.link.counts.lateAnswer := by
  unfold State.pushItem; (repeat' split) <;> simp
@[simp] theorem State.pushItem_link_counts_checkForced (s : State) (i : Item) : (s.pushItem i).link.counts.checkForced = s.link.counts.checkForced := by
  unfold State.pushItem; (repeat' split) <;> simp
@[simp] theorem State.pushItem_link_counts_beaconAbort (s : State) (i : Item) : (s.pushItem i).link.counts.beaconAbort = s.link.counts.beaconAbort := by
  unfold State.pushItem; (repeat' split) <;> simp
@[simp] theorem State.pushItem_link_counts_blindedBursts (s : State) (i : Item) : (s.pushItem i).link.counts.blindedBursts = s.link.counts.blindedBursts := by
  unfold State.pushItem; (repeat' split) <;> simp
@[simp] theorem State.pushItem_link_counts_refusedOrder (s : State) (i : Item) : (s.pushItem i).link.counts.refusedOrder = s.link.counts.refusedOrder := by
  unfold State.pushItem; (repeat' split) <;> simp
@[simp] theorem State.observe_startup_node (s : State) (i : Item) : (s.observe i).startup.node = s.startup.node := by simp [State.observe]
@[simp] theorem State.observe_startup_step (s : State) (i : Item) : (s.observe i).startup.step = s.startup.step := by simp [State.observe]
@[simp] theorem State.observe_startup_pos (s : State) (i : Item) : (s.observe i).startup.pos = s.startup.pos := by simp [State.observe]
@[simp] theorem State.observe_startup_role (s : State) (i : Item) : (s.observe i).startup.role = s.startup.role := by simp [State.observe]
@[simp] theorem State.observe_startup_usable (s : State) (i : Item) : (s.observe i).startup.usable = s.startup.usable := by simp [State.observe]
@[simp] theorem State.observe_startup_floorEmitter (s : State) (i : Item) : (s.observe i).startup.floorEmitter = s.startup.floorEmitter := by simp [State.observe]
@[simp] theorem State.observe_startup_wallEmitter (s : State) (i : Item) : (s.observe i).startup.wallEmitter = s.startup.wallEmitter := by simp [State.observe]
@[simp] theorem State.observe_startup_cause (s : State) (i : Item) : (s.observe i).startup.cause = s.startup.cause := by simp [State.observe]
@[simp] theorem State.observe_startup_code (s : State) (i : Item) : (s.observe i).startup.code = s.startup.code := by simp [State.observe]
@[simp] theorem State.observe_startup_part0 (s : State) (i : Item) : (s.observe i).startup.part0 = s.startup.part0 := by simp [State.observe]
@[simp] theorem State.observe_startup_part1 (s : State) (i : Item) : (s.observe i).startup.part1 = s.startup.part1 := by simp [State.observe]
@[simp] theorem State.observe_startup_part2 (s : State) (i : Item) : (s.observe i).startup.part2 = s.startup.part2 := by simp [State.observe]
@[simp] theorem State.observe_startup_part3 (s : State) (i : Item) : (s.observe i).startup.part3 = s.startup.part3 := by simp [State.observe]
@[simp] theorem State.observe_startup_setup (s : State) (i : Item) : (s.observe i).startup.setup = s.startup.setup := by simp [State.observe]
@[simp] theorem State.observe_startup_bootTimer (s : State) (i : Item) : (s.observe i).startup.bootTimer = s.startup.bootTimer := by simp [State.observe]
@[simp] theorem State.observe_startup_loopTimer (s : State) (i : Item) : (s.observe i).startup.loopTimer = s.startup.loopTimer := by simp [State.observe]
@[simp] theorem State.observe_startup_led (s : State) (i : Item) : (s.observe i).startup.led = s.startup.led := by simp [State.observe]
@[simp] theorem State.observe_startup_ledTimer (s : State) (i : Item) : (s.observe i).startup.ledTimer = s.startup.ledTimer := by simp [State.observe]
@[simp] theorem State.observe_link_onLine (s : State) (i : Item) : (s.observe i).link.onLine = s.link.onLine := by simp [State.observe]
@[simp] theorem State.observe_link_txTimer (s : State) (i : Item) : (s.observe i).link.txTimer = s.link.txTimer := by simp [State.observe]
@[simp] theorem State.observe_link_seq (s : State) (i : Item) : (s.observe i).link.seq = s.link.seq := by simp [State.observe]
@[simp] theorem State.observe_link_yield (s : State) (i : Item) : (s.observe i).link.yield = s.link.yield := by simp [State.observe]
@[simp] theorem State.observe_link_access (s : State) (i : Item) : (s.observe i).link.access = s.link.access := by simp [State.observe]
@[simp] theorem State.observe_link_line (s : State) (i : Item) : (s.observe i).link.line = s.link.line := by simp [State.observe]
@[simp] theorem State.observe_link_rx (s : State) (i : Item) : (s.observe i).link.rx = s.link.rx := by simp [State.observe]
@[simp] theorem State.observe_link_healthTimer (s : State) (i : Item) : (s.observe i).link.healthTimer = s.link.healthTimer := by simp [State.observe]
@[simp] theorem State.observe_link_counts_crcError (s : State) (i : Item) : (s.observe i).link.counts.crcError = s.link.counts.crcError := by simp [State.observe]
@[simp] theorem State.observe_link_counts_overrun (s : State) (i : Item) : (s.observe i).link.counts.overrun = s.link.counts.overrun := by simp [State.observe]
@[simp] theorem State.observe_link_counts_malformed (s : State) (i : Item) : (s.observe i).link.counts.malformed = s.link.counts.malformed := by simp [State.observe]
@[simp] theorem State.observe_link_counts_duplicate (s : State) (i : Item) : (s.observe i).link.counts.duplicate = s.link.counts.duplicate := by simp [State.observe]
@[simp] theorem State.observe_link_counts_staleReport (s : State) (i : Item) : (s.observe i).link.counts.staleReport = s.link.counts.staleReport := by simp [State.observe]
@[simp] theorem State.observe_link_counts_lateAnswer (s : State) (i : Item) : (s.observe i).link.counts.lateAnswer = s.link.counts.lateAnswer := by simp [State.observe]
@[simp] theorem State.observe_link_counts_checkForced (s : State) (i : Item) : (s.observe i).link.counts.checkForced = s.link.counts.checkForced := by simp [State.observe]
@[simp] theorem State.observe_link_counts_beaconAbort (s : State) (i : Item) : (s.observe i).link.counts.beaconAbort = s.link.counts.beaconAbort := by simp [State.observe]
@[simp] theorem State.observe_link_counts_blindedBursts (s : State) (i : Item) : (s.observe i).link.counts.blindedBursts = s.link.counts.blindedBursts := by simp [State.observe]
@[simp] theorem State.observe_link_counts_refusedOrder (s : State) (i : Item) : (s.observe i).link.counts.refusedOrder = s.link.counts.refusedOrder := by simp [State.observe]

end Sys2Proof.Machine
end

