-- ==== Sys2Proof/Laws/Clear.lean ====
section
/-! SUPPORT. What the node conditions and the Clearance Unit's recompute read and leave: the node state and the setup
values through every update but the Start-up Controller's, and the fields a recompute and a verdict write. -/

namespace Sys2Proof.Machine

open Sys2Proof

@[simp] theorem State.setPins_running (s : State) (v : Pins) : (s.setPins v).running = s.running := rfl
@[simp] theorem State.setPins_onLink (s : State) (v : Pins) : (s.setPins v).onLink = s.onLink := rfl
@[simp] theorem State.setPins_receiving (s : State) (v : Pins) : (s.setPins v).receiving = s.receiving := rfl
@[simp] theorem State.setPins_setup (s : State) (v : Pins) : (s.setPins v).setup = s.setup := rfl
@[simp] theorem State.setPins_encoding (s : State) (v : Pins) : (s.setPins v).encoding = s.encoding := rfl
@[simp] theorem State.setFloor_running (s : State) (v : FloorChannel) : (s.setFloor v).running = s.running := rfl
@[simp] theorem State.setFloor_onLink (s : State) (v : FloorChannel) : (s.setFloor v).onLink = s.onLink := rfl
@[simp] theorem State.setFloor_receiving (s : State) (v : FloorChannel) : (s.setFloor v).receiving = s.receiving := rfl
@[simp] theorem State.setFloor_setup (s : State) (v : FloorChannel) : (s.setFloor v).setup = s.setup := rfl
@[simp] theorem State.setFloor_encoding (s : State) (v : FloorChannel) : (s.setFloor v).encoding = s.encoding := rfl
@[simp] theorem State.setWall_running (s : State) (v : WallChannel) : (s.setWall v).running = s.running := rfl
@[simp] theorem State.setWall_onLink (s : State) (v : WallChannel) : (s.setWall v).onLink = s.onLink := rfl
@[simp] theorem State.setWall_receiving (s : State) (v : WallChannel) : (s.setWall v).receiving = s.receiving := rfl
@[simp] theorem State.setWall_setup (s : State) (v : WallChannel) : (s.setWall v).setup = s.setup := rfl
@[simp] theorem State.setWall_encoding (s : State) (v : WallChannel) : (s.setWall v).encoding = s.encoding := rfl
@[simp] theorem State.setBump_running (s : State) (v : Filter) : (s.setBump v).running = s.running := rfl
@[simp] theorem State.setBump_onLink (s : State) (v : Filter) : (s.setBump v).onLink = s.onLink := rfl
@[simp] theorem State.setBump_receiving (s : State) (v : Filter) : (s.setBump v).receiving = s.receiving := rfl
@[simp] theorem State.setBump_setup (s : State) (v : Filter) : (s.setBump v).setup = s.setup := rfl
@[simp] theorem State.setBump_encoding (s : State) (v : Filter) : (s.setBump v).encoding = s.encoding := rfl
@[simp] theorem State.setDrop_running (s : State) (v : Filter) : (s.setDrop v).running = s.running := rfl
@[simp] theorem State.setDrop_onLink (s : State) (v : Filter) : (s.setDrop v).onLink = s.onLink := rfl
@[simp] theorem State.setDrop_receiving (s : State) (v : Filter) : (s.setDrop v).receiving = s.receiving := rfl
@[simp] theorem State.setDrop_setup (s : State) (v : Filter) : (s.setDrop v).setup = s.setup := rfl
@[simp] theorem State.setDrop_encoding (s : State) (v : Filter) : (s.setDrop v).encoding = s.encoding := rfl
@[simp] theorem State.setEnc_running (s : State) (v : Encoder) : (s.setEnc v).running = s.running := rfl
@[simp] theorem State.setEnc_onLink (s : State) (v : Encoder) : (s.setEnc v).onLink = s.onLink := rfl
@[simp] theorem State.setEnc_receiving (s : State) (v : Encoder) : (s.setEnc v).receiving = s.receiving := rfl
@[simp] theorem State.setEnc_setup (s : State) (v : Encoder) : (s.setEnc v).setup = s.setup := rfl
@[simp] theorem State.setEnc_encoding (s : State) (v : Encoder) : (s.setEnc v).encoding = s.encoding := rfl
@[simp] theorem State.setOdo_running (s : State) (v : Odometry) : (s.setOdo v).running = s.running := rfl
@[simp] theorem State.setOdo_onLink (s : State) (v : Odometry) : (s.setOdo v).onLink = s.onLink := rfl
@[simp] theorem State.setOdo_receiving (s : State) (v : Odometry) : (s.setOdo v).receiving = s.receiving := rfl
@[simp] theorem State.setOdo_setup (s : State) (v : Odometry) : (s.setOdo v).setup = s.setup := rfl
@[simp] theorem State.setOdo_encoding (s : State) (v : Odometry) : (s.setOdo v).encoding = s.encoding := rfl
@[simp] theorem State.setTable_running (s : State) (v : TableManager) : (s.setTable v).running = s.running := rfl
@[simp] theorem State.setTable_onLink (s : State) (v : TableManager) : (s.setTable v).onLink = s.onLink := rfl
@[simp] theorem State.setTable_receiving (s : State) (v : TableManager) : (s.setTable v).receiving = s.receiving := rfl
@[simp] theorem State.setTable_setup (s : State) (v : TableManager) : (s.setTable v).setup = s.setup := rfl
@[simp] theorem State.setTable_encoding (s : State) (v : TableManager) : (s.setTable v).encoding = s.encoding := rfl
@[simp] theorem State.setReport_running (s : State) (v : ReportHandler) : (s.setReport v).running = s.running := rfl
@[simp] theorem State.setReport_onLink (s : State) (v : ReportHandler) : (s.setReport v).onLink = s.onLink := rfl
@[simp] theorem State.setReport_receiving (s : State) (v : ReportHandler) : (s.setReport v).receiving = s.receiving := rfl
@[simp] theorem State.setReport_setup (s : State) (v : ReportHandler) : (s.setReport v).setup = s.setup := rfl
@[simp] theorem State.setReport_encoding (s : State) (v : ReportHandler) : (s.setReport v).encoding = s.encoding := rfl
@[simp] theorem State.setClear_running (s : State) (v : Clearance) : (s.setClear v).running = s.running := rfl
@[simp] theorem State.setClear_onLink (s : State) (v : Clearance) : (s.setClear v).onLink = s.onLink := rfl
@[simp] theorem State.setClear_receiving (s : State) (v : Clearance) : (s.setClear v).receiving = s.receiving := rfl
@[simp] theorem State.setClear_setup (s : State) (v : Clearance) : (s.setClear v).setup = s.setup := rfl
@[simp] theorem State.setClear_encoding (s : State) (v : Clearance) : (s.setClear v).encoding = s.encoding := rfl
@[simp] theorem State.setBeacon_running (s : State) (v : Beacon) : (s.setBeacon v).running = s.running := rfl
@[simp] theorem State.setBeacon_onLink (s : State) (v : Beacon) : (s.setBeacon v).onLink = s.onLink := rfl
@[simp] theorem State.setBeacon_receiving (s : State) (v : Beacon) : (s.setBeacon v).receiving = s.receiving := rfl
@[simp] theorem State.setBeacon_setup (s : State) (v : Beacon) : (s.setBeacon v).setup = s.setup := rfl
@[simp] theorem State.setBeacon_encoding (s : State) (v : Beacon) : (s.setBeacon v).encoding = s.encoding := rfl
@[simp] theorem State.setPeers_running (s : State) (v : PeerMonitor) : (s.setPeers v).running = s.running := rfl
@[simp] theorem State.setPeers_onLink (s : State) (v : PeerMonitor) : (s.setPeers v).onLink = s.onLink := rfl
@[simp] theorem State.setPeers_receiving (s : State) (v : PeerMonitor) : (s.setPeers v).receiving = s.receiving := rfl
@[simp] theorem State.setPeers_setup (s : State) (v : PeerMonitor) : (s.setPeers v).setup = s.setup := rfl
@[simp] theorem State.setPeers_encoding (s : State) (v : PeerMonitor) : (s.setPeers v).encoding = s.encoding := rfl
@[simp] theorem State.setLink_running (s : State) (v : Link) : (s.setLink v).running = s.running := rfl
@[simp] theorem State.setLink_onLink (s : State) (v : Link) : (s.setLink v).onLink = s.onLink := rfl
@[simp] theorem State.setLink_receiving (s : State) (v : Link) : (s.setLink v).receiving = s.receiving := rfl
@[simp] theorem State.setLink_setup (s : State) (v : Link) : (s.setLink v).setup = s.setup := rfl
@[simp] theorem State.setLink_encoding (s : State) (v : Link) : (s.setLink v).encoding = s.encoding := rfl
@[simp] theorem State.setChoices_running (s : State) (v : Nat) : (s.setChoices v).running = s.running := rfl
@[simp] theorem State.setChoices_onLink (s : State) (v : Nat) : (s.setChoices v).onLink = s.onLink := rfl
@[simp] theorem State.setChoices_receiving (s : State) (v : Nat) : (s.setChoices v).receiving = s.receiving := rfl
@[simp] theorem State.setChoices_setup (s : State) (v : Nat) : (s.setChoices v).setup = s.setup := rfl
@[simp] theorem State.setChoices_encoding (s : State) (v : Nat) : (s.setChoices v).encoding = s.encoding := rfl
@[simp] theorem State.setPending_running (s : State) (v : List Instr) : (s.setPending v).running = s.running := rfl
@[simp] theorem State.setPending_onLink (s : State) (v : List Instr) : (s.setPending v).onLink = s.onLink := rfl
@[simp] theorem State.setPending_receiving (s : State) (v : List Instr) : (s.setPending v).receiving = s.receiving := rfl
@[simp] theorem State.setPending_setup (s : State) (v : List Instr) : (s.setPending v).setup = s.setup := rfl
@[simp] theorem State.setPending_encoding (s : State) (v : List Instr) : (s.setPending v).encoding = s.encoding := rfl
@[simp] theorem State.count_running (s : State) (i : CountId) : (s.count i).running = s.running := rfl
@[simp] theorem State.count_onLink (s : State) (i : CountId) : (s.count i).onLink = s.onLink := rfl
@[simp] theorem State.count_receiving (s : State) (i : CountId) : (s.count i).receiving = s.receiving := rfl
@[simp] theorem State.count_setup (s : State) (i : CountId) : (s.count i).setup = s.setup := rfl
@[simp] theorem State.count_encoding (s : State) (i : CountId) : (s.count i).encoding = s.encoding := rfl
@[simp] theorem State.bootEnded_running (s : State) (e : TxEntry) : (s.bootEnded e).running = s.running := by simp [State.running]
@[simp] theorem State.bootEnded_onLink (s : State) (e : TxEntry) : (s.bootEnded e).onLink = s.onLink := by simp [State.onLink]
@[simp] theorem State.bootEnded_receiving (s : State) (e : TxEntry) : (s.bootEnded e).receiving = s.receiving := by simp [State.receiving]
@[simp] theorem State.bootEnded_setup (s : State) (e : TxEntry) : (s.bootEnded e).setup = s.setup := by simp [State.setup]
@[simp] theorem State.bootEnded_encoding (s : State) (e : TxEntry) : (s.bootEnded e).encoding = s.encoding := by simp [State.encoding, State.running]
@[simp] theorem State.loseFrame_running (s : State) (e : TxEntry) : (s.loseFrame e).running = s.running := by simp [State.running]
@[simp] theorem State.loseFrame_onLink (s : State) (e : TxEntry) : (s.loseFrame e).onLink = s.onLink := by simp [State.onLink]
@[simp] theorem State.loseFrame_receiving (s : State) (e : TxEntry) : (s.loseFrame e).receiving = s.receiving := by simp [State.receiving]
@[simp] theorem State.loseFrame_setup (s : State) (e : TxEntry) : (s.loseFrame e).setup = s.setup := by simp [State.setup]
@[simp] theorem State.loseFrame_encoding (s : State) (e : TxEntry) : (s.loseFrame e).encoding = s.encoding := by simp [State.encoding, State.running]
@[simp] theorem State.placeAtFull_running (s : State) (e : TxEntry) : (s.placeAtFull e).running = s.running := by simp [State.running]
@[simp] theorem State.placeAtFull_onLink (s : State) (e : TxEntry) : (s.placeAtFull e).onLink = s.onLink := by simp [State.onLink]
@[simp] theorem State.placeAtFull_receiving (s : State) (e : TxEntry) : (s.placeAtFull e).receiving = s.receiving := by simp [State.receiving]
@[simp] theorem State.placeAtFull_setup (s : State) (e : TxEntry) : (s.placeAtFull e).setup = s.setup := by simp [State.setup]
@[simp] theorem State.placeAtFull_encoding (s : State) (e : TxEntry) : (s.placeAtFull e).encoding = s.encoding := by simp [State.encoding, State.running]
@[simp] theorem State.enqueue_running (s : State) (p : Payload) (u : Bool) : (s.enqueue p u).running = s.running := by simp [State.running]
@[simp] theorem State.enqueue_onLink (s : State) (p : Payload) (u : Bool) : (s.enqueue p u).onLink = s.onLink := by simp [State.onLink]
@[simp] theorem State.enqueue_receiving (s : State) (p : Payload) (u : Bool) : (s.enqueue p u).receiving = s.receiving := by simp [State.receiving]
@[simp] theorem State.enqueue_setup (s : State) (p : Payload) (u : Bool) : (s.enqueue p u).setup = s.setup := by simp [State.setup]
@[simp] theorem State.enqueue_encoding (s : State) (p : Payload) (u : Bool) : (s.enqueue p u).encoding = s.encoding := by simp [State.encoding, State.running]
@[simp] theorem State.sendReport_running (s : State) (a : Action) (r : Record) (w : Bool) : (s.sendReport a r w).running = s.running := by simp [State.running]
@[simp] theorem State.sendReport_onLink (s : State) (a : Action) (r : Record) (w : Bool) : (s.sendReport a r w).onLink = s.onLink := by simp [State.onLink]
@[simp] theorem State.sendReport_receiving (s : State) (a : Action) (r : Record) (w : Bool) : (s.sendReport a r w).receiving = s.receiving := by simp [State.receiving]
@[simp] theorem State.sendReport_setup (s : State) (a : Action) (r : Record) (w : Bool) : (s.sendReport a r w).setup = s.setup := by simp [State.setup]
@[simp] theorem State.sendReport_encoding (s : State) (a : Action) (r : Record) (w : Bool) : (s.sendReport a r w).encoding = s.encoding := by simp [State.encoding, State.running]
@[simp] theorem State.sendAnswer_running (s : State) (d : Pos) (i : BitVec 4) (a : Answer) (c : Nat) : (s.sendAnswer d i a c).running = s.running := by simp [State.running]
@[simp] theorem State.sendAnswer_onLink (s : State) (d : Pos) (i : BitVec 4) (a : Answer) (c : Nat) : (s.sendAnswer d i a c).onLink = s.onLink := by simp [State.onLink]
@[simp] theorem State.sendAnswer_receiving (s : State) (d : Pos) (i : BitVec 4) (a : Answer) (c : Nat) : (s.sendAnswer d i a c).receiving = s.receiving := by simp [State.receiving]
@[simp] theorem State.sendAnswer_setup (s : State) (d : Pos) (i : BitVec 4) (a : Answer) (c : Nat) : (s.sendAnswer d i a c).setup = s.setup := by simp [State.setup]
@[simp] theorem State.sendAnswer_encoding (s : State) (d : Pos) (i : BitVec 4) (a : Answer) (c : Nat) : (s.sendAnswer d i a c).encoding = s.encoding := by simp [State.encoding, State.running]
@[simp] theorem State.judgeVerdict_running (s : State)  : (s.judgeVerdict ).running = s.running := by simp [State.running]
@[simp] theorem State.judgeVerdict_onLink (s : State)  : (s.judgeVerdict ).onLink = s.onLink := by simp [State.onLink]
@[simp] theorem State.judgeVerdict_receiving (s : State)  : (s.judgeVerdict ).receiving = s.receiving := by simp [State.receiving]
@[simp] theorem State.judgeVerdict_setup (s : State)  : (s.judgeVerdict ).setup = s.setup := by simp [State.setup]
@[simp] theorem State.judgeVerdict_encoding (s : State)  : (s.judgeVerdict ).encoding = s.encoding := by simp [State.encoding, State.running]
@[simp] theorem State.recompute_running (s : State)  : (s.recompute ).running = s.running := by simp [State.running]
@[simp] theorem State.recompute_onLink (s : State)  : (s.recompute ).onLink = s.onLink := by simp [State.onLink]
@[simp] theorem State.recompute_receiving (s : State)  : (s.recompute ).receiving = s.receiving := by simp [State.receiving]
@[simp] theorem State.recompute_setup (s : State)  : (s.recompute ).setup = s.setup := by simp [State.setup]
@[simp] theorem State.recompute_encoding (s : State)  : (s.recompute ).encoding = s.encoding := by simp [State.encoding, State.running]
@[simp] theorem State.notify_running (s : State) (b : State) (w : Bool) : (s.notify b w).running = s.running := by simp [State.running]
@[simp] theorem State.notify_onLink (s : State) (b : State) (w : Bool) : (s.notify b w).onLink = s.onLink := by simp [State.onLink]
@[simp] theorem State.notify_receiving (s : State) (b : State) (w : Bool) : (s.notify b w).receiving = s.receiving := by simp [State.receiving]
@[simp] theorem State.notify_setup (s : State) (b : State) (w : Bool) : (s.notify b w).setup = s.setup := by simp [State.setup]
@[simp] theorem State.notify_encoding (s : State) (b : State) (w : Bool) : (s.notify b w).encoding = s.encoding := by simp [State.encoding, State.running]
@[simp] theorem State.pushItem_running (s : State) (i : Item) : (s.pushItem i).running = s.running := by simp [State.running]
@[simp] theorem State.pushItem_onLink (s : State) (i : Item) : (s.pushItem i).onLink = s.onLink := by simp [State.onLink]
@[simp] theorem State.pushItem_receiving (s : State) (i : Item) : (s.pushItem i).receiving = s.receiving := by simp [State.receiving]
@[simp] theorem State.pushItem_setup (s : State) (i : Item) : (s.pushItem i).setup = s.setup := by simp [State.setup]
@[simp] theorem State.pushItem_encoding (s : State) (i : Item) : (s.pushItem i).encoding = s.encoding := by simp [State.encoding, State.running]
@[simp] theorem State.observe_running (s : State) (i : Item) : (s.observe i).running = s.running := by simp [State.running]
@[simp] theorem State.observe_onLink (s : State) (i : Item) : (s.observe i).onLink = s.onLink := by simp [State.onLink]
@[simp] theorem State.observe_receiving (s : State) (i : Item) : (s.observe i).receiving = s.receiving := by simp [State.receiving]
@[simp] theorem State.observe_setup (s : State) (i : Item) : (s.observe i).setup = s.setup := by simp [State.setup]
@[simp] theorem State.observe_encoding (s : State) (i : Item) : (s.observe i).encoding = s.encoding := by simp [State.encoding, State.running]
@[simp] theorem State.setRecords_running (s : State) (rs : List Record) : (s.setRecords rs).running = s.running := rfl
@[simp] theorem State.setRecords_onLink (s : State) (rs : List Record) : (s.setRecords rs).onLink = s.onLink := rfl
@[simp] theorem State.setRecords_receiving (s : State) (rs : List Record) : (s.setRecords rs).receiving = s.receiving := rfl
@[simp] theorem State.setRecords_setup (s : State) (rs : List Record) : (s.setRecords rs).setup = s.setup := rfl
@[simp] theorem State.setRecords_encoding (s : State) (rs : List Record) : (s.setRecords rs).encoding = s.encoding := rfl
@[simp] theorem State.putRecord_running (s : State) (r : Record) : (s.putRecord r).running = s.running := rfl
@[simp] theorem State.putRecord_onLink (s : State) (r : Record) : (s.putRecord r).onLink = s.onLink := rfl
@[simp] theorem State.putRecord_receiving (s : State) (r : Record) : (s.putRecord r).receiving = s.receiving := rfl
@[simp] theorem State.putRecord_setup (s : State) (r : Record) : (s.putRecord r).setup = s.setup := rfl
@[simp] theorem State.putRecord_encoding (s : State) (r : Record) : (s.putRecord r).encoding = s.encoding := rfl
@[simp] theorem State.reclear_running (s : State)  : (s.reclear ).running = s.running := rfl
@[simp] theorem State.reclear_onLink (s : State)  : (s.reclear ).onLink = s.onLink := rfl
@[simp] theorem State.reclear_receiving (s : State)  : (s.reclear ).receiving = s.receiving := rfl
@[simp] theorem State.reclear_setup (s : State)  : (s.reclear ).setup = s.setup := rfl
@[simp] theorem State.reclear_encoding (s : State)  : (s.reclear ).encoding = s.encoding := rfl
@[simp] theorem State.kick_running (s : State)  : (s.kick ).running = s.running := by simp [State.running]
@[simp] theorem State.kick_onLink (s : State)  : (s.kick ).onLink = s.onLink := by simp [State.onLink]
@[simp] theorem State.kick_receiving (s : State)  : (s.kick ).receiving = s.receiving := by simp [State.receiving]
@[simp] theorem State.kick_setup (s : State)  : (s.kick ).setup = s.setup := by simp [State.setup]
@[simp] theorem State.kick_encoding (s : State)  : (s.kick ).encoding = s.encoding := by simp [State.encoding, State.running]
@[simp] theorem State.takeWork_running (s : State)  : (s.takeWork ).running = s.running := by simp [State.running]
@[simp] theorem State.takeWork_onLink (s : State)  : (s.takeWork ).onLink = s.onLink := by simp [State.onLink]
@[simp] theorem State.takeWork_receiving (s : State)  : (s.takeWork ).receiving = s.receiving := by simp [State.receiving]
@[simp] theorem State.takeWork_setup (s : State)  : (s.takeWork ).setup = s.setup := by simp [State.setup]
@[simp] theorem State.takeWork_encoding (s : State)  : (s.takeWork ).encoding = s.encoding := by simp [State.encoding, State.running]
@[simp] theorem State.handing_running (s : State) (f : State → State) : (s.handing f).running = (f s).running := by simp [State.handing]
@[simp] theorem State.handing_onLink (s : State) (f : State → State) : (s.handing f).onLink = (f s).onLink := by simp [State.handing]
@[simp] theorem State.handing_receiving (s : State) (f : State → State) : (s.handing f).receiving = (f s).receiving := by simp [State.handing]
@[simp] theorem State.handing_setup (s : State) (f : State → State) : (s.handing f).setup = (f s).setup := by simp [State.handing]
@[simp] theorem State.handing_encoding (s : State) (f : State → State) : (s.handing f).encoding = (f s).encoding := by simp [State.handing]

/-! ### A verdict and a recompute -/

/-- A judged verdict leaves the Clearance Unit alone, but for the last verdict and the verdict timer. -/
theorem State.judgeVerdict_clear (s : State) :
    s.judgeVerdict.clear = { s.clear with
      last := s.judgeVerdict.clear.last, verdictTimer := s.judgeVerdict.clear.verdictTimer } := by
  unfold State.judgeVerdict; split <;> simp

/-- When none is due, nothing happens. -/
theorem State.judgeVerdict_none (s : State) (h : s.verdictToSend = none) : s.judgeVerdict = s := by
  simp [State.judgeVerdict, h]

/-- When one is due, it is handed on with its class, held as the last verdict, and the timer restarts (R129, R132). -/
theorem State.judgeVerdict_some (s : State) (u : Bool) (h : s.verdictToSend = some u) :
    s.judgeVerdict.clear = { s.clear with last := some s.verdictNow, verdictTimer := some verdictTime } ∧
    s.judgeVerdict = (s.setClear { s.clear with
      last := some s.verdictNow, verdictTimer := some verdictTime }).enqueue (.verdict s.verdictNow) u := by
  simp [State.judgeVerdict, h]

/-- What a recompute makes of the Clearance Unit (R118, R120, R121, R124), the last verdict and the verdict timer apart. -/
theorem State.recompute_clear (s : State) (hr : s.running = true) :
    s.recompute.clear =
      { ({ s.clear with
            ahead := clearAhead s.setup s.peers.mode s.table.records
            behind := clearBehind s.setup s.peers.mode s.table.records
            cliffNear := cliffNear s.setup s.table.records
            rugAhead := rugAhead s.setup s.table.records } : Clearance).drive
          (s.stopCondition (clearAhead s.setup s.peers.mode s.table.records)
            (clearBehind s.setup s.peers.mode s.table.records)) with
        last := s.recompute.clear.last, verdictTimer := s.recompute.clear.verdictTimer } := by
  simp only [State.recompute, hr, if_true]
  rw [State.judgeVerdict_clear]
  simp only [State.reclear, State.setClear_clear]

/-- A condition that is met asserts the driver (R124). -/
theorem Clearance.drive_met (c : Clearance) (h : c.ownStop = true → c.driver = true) :
    (c.drive true).driver = true ∧ (c.drive true).ownStop = true := by
  simp only [Clearance.drive, if_true]; split <;> simp_all

/-- A recompute that finds the condition met asserts the driver (R124). -/
theorem State.recompute_met (s : State) (hr : s.running = true) (hs : s.clear.ownStop = true → s.clear.driver = true)
    (hc : s.stopCondition (clearAhead s.setup s.peers.mode s.table.records)
      (clearBehind s.setup s.peers.mode s.table.records) = true) :
    s.recompute.clear.driver = true ∧ s.recompute.clear.ownStop = true := by
  rw [State.recompute_clear s hr, hc]
  exact Clearance.drive_met _ hs

/-- In RUN a command that always hands the Clearance Unit an event ends in a recompute (R127). -/
theorem State.notify_always (s b : State) : s.notify b true = s.recompute := by simp [State.notify]

/-- A notice with nothing changed does nothing (R127). -/
theorem State.notify_same (s b : State) (h : s.handed = b.handed) : s.notify b false = s := by simp [State.notify, h]

/-- The driver follows an unchanged condition once only (R124). -/
theorem Clearance.drive_twice (c : Clearance) (m : Bool) : (c.drive m).drive m = c.drive m := by
  cases m <;> simp only [Clearance.drive] <;> (repeat' split) <;> simp_all

/-- A verdict is no news against itself while its timer runs (R130). -/
theorem verdictDue_self (v : VerdictData) : verdictDue v v false = false := by
  simp [verdictDue, movedBy16, verdictStep]

/-- A judged verdict leaves the verdict as it stands. -/
@[simp] theorem State.judgeVerdict_verdictNow (s : State) : s.judgeVerdict.verdictNow = s.verdictNow := by
  simp only [State.verdictNow, State.flags, State.roleClash, State.judgeVerdict_floor, State.judgeVerdict_wall,
    State.judgeVerdict_bump, State.judgeVerdict_drop, State.judgeVerdict_odo, State.judgeVerdict_table,
    State.judgeVerdict_report, State.judgeVerdict_peers]
  rw [State.judgeVerdict_clear]

/-- A judged verdict is not due again (R130). -/
theorem State.judgeVerdict_settled (s : State) : s.judgeVerdict.verdictToSend = none := by
  cases h : s.verdictToSend with
  | none => rw [State.judgeVerdict_none s h, h]
  | some u =>
    have hc := (State.judgeVerdict_some s u h).1
    have hv : s.judgeVerdict.verdictNow = s.verdictNow := by simp
    simp only [State.verdictToSend, hv]
    rw [hc]
    simp [Clearance.timerExpired, verdictTime, ms, verdictDue_self, State.verdictNow, State.flags]

/-- Judging twice hands on at most once (R130). -/
theorem State.judgeVerdict_twice (s : State) : s.judgeVerdict.judgeVerdict = s.judgeVerdict :=
  State.judgeVerdict_none _ (State.judgeVerdict_settled s)

/-- Two events on one state recompute as one (R127): the second recompute changes nothing and hands on nothing. -/
theorem State.recompute_twice (s : State) : s.recompute.recompute = s.recompute := by
  cases hr : s.running
  · simp [State.recompute, hr]
  · have hb : s.recompute = s.reclear.judgeVerdict := by simp [State.recompute, hr]
    rw [hb]
    have hr' : s.reclear.judgeVerdict.running = true := by simp [hr]
    rw [State.recompute, if_pos hr']
    have hre : s.reclear.judgeVerdict.reclear = s.reclear.judgeVerdict := by
      have hc := State.judgeVerdict_clear s.reclear
      have hs : ∀ a b, s.reclear.judgeVerdict.stopCondition a b = s.stopCondition a b := by
        intro a b
        simp [State.stopCondition, State.bumpExcused, State.distanceTerm, State.stopDistance]
      rw [State.reclear]
      dsimp only
      rw [hs]
      simp only [State.judgeVerdict_setup, State.judgeVerdict_peers, State.judgeVerdict_table, State.reclear_setup,
        State.reclear_peers, State.reclear_table]
      conv_rhs => rw [← State.setClear_self s.reclear.judgeVerdict]
      congr 1
      rw [hc]
      generalize s.reclear.judgeVerdict.clear.last = l
      generalize s.reclear.judgeVerdict.clear.verdictTimer = v
      simp only [State.reclear, State.setClear_clear, Clearance.drive]
      (repeat' split) <;> simp_all
    rw [hre, State.judgeVerdict_twice]

end Sys2Proof.Machine
end

