-- ==== Sys2Proof/Laws/UnitsFrame.lean ====
section
/-! SUPPORT. The blocks that the operations of the channels, the odometry and the checks leave unchanged. -/

namespace Sys2Proof.Machine

open Sys2Proof

@[simp] theorem State.floorDue_pins (s : State) : s.floorDue.pins = s.pins := rfl
@[simp] theorem State.floorDue_startup (s : State) : s.floorDue.startup = s.startup := rfl
@[simp] theorem State.floorDue_wall (s : State) : s.floorDue.wall = s.wall := rfl
@[simp] theorem State.floorDue_bump (s : State) : s.floorDue.bump = s.bump := rfl
@[simp] theorem State.floorDue_drop (s : State) : s.floorDue.drop = s.drop := rfl
@[simp] theorem State.floorDue_enc (s : State) : s.floorDue.enc = s.enc := rfl
@[simp] theorem State.floorDue_odo (s : State) : s.floorDue.odo = s.odo := rfl
@[simp] theorem State.floorDue_table (s : State) : s.floorDue.table = s.table := rfl
@[simp] theorem State.floorDue_report (s : State) : s.floorDue.report = s.report := rfl
@[simp] theorem State.floorDue_clear (s : State) : s.floorDue.clear = s.clear := rfl
@[simp] theorem State.floorDue_beacon (s : State) : s.floorDue.beacon = s.beacon := rfl
@[simp] theorem State.floorDue_peers (s : State) : s.floorDue.peers = s.peers := rfl
@[simp] theorem State.floorDue_link (s : State) : s.floorDue.link = s.link := rfl
@[simp] theorem State.floorDue_choices (s : State) : s.floorDue.choices = s.choices := rfl
@[simp] theorem State.floorDue_pending (s : State) : s.floorDue.pending = s.pending := rfl
@[simp] theorem State.wallDue_pins (s : State) : s.wallDue.pins = s.pins := rfl
@[simp] theorem State.wallDue_startup (s : State) : s.wallDue.startup = s.startup := rfl
@[simp] theorem State.wallDue_floor (s : State) : s.wallDue.floor = s.floor := rfl
@[simp] theorem State.wallDue_bump (s : State) : s.wallDue.bump = s.bump := rfl
@[simp] theorem State.wallDue_drop (s : State) : s.wallDue.drop = s.drop := rfl
@[simp] theorem State.wallDue_enc (s : State) : s.wallDue.enc = s.enc := rfl
@[simp] theorem State.wallDue_odo (s : State) : s.wallDue.odo = s.odo := rfl
@[simp] theorem State.wallDue_table (s : State) : s.wallDue.table = s.table := rfl
@[simp] theorem State.wallDue_report (s : State) : s.wallDue.report = s.report := rfl
@[simp] theorem State.wallDue_clear (s : State) : s.wallDue.clear = s.clear := rfl
@[simp] theorem State.wallDue_beacon (s : State) : s.wallDue.beacon = s.beacon := rfl
@[simp] theorem State.wallDue_peers (s : State) : s.wallDue.peers = s.peers := rfl
@[simp] theorem State.wallDue_link (s : State) : s.wallDue.link = s.link := rfl
@[simp] theorem State.wallDue_choices (s : State) : s.wallDue.choices = s.choices := rfl
@[simp] theorem State.wallDue_pending (s : State) : s.wallDue.pending = s.pending := rfl
@[simp] theorem State.bothDue_pins (s : State) : s.bothDue.pins = s.pins := by
  unfold State.bothDue; split <;> simp
@[simp] theorem State.bothDue_startup (s : State) : s.bothDue.startup = s.startup := by
  unfold State.bothDue; split <;> simp
@[simp] theorem State.bothDue_bump (s : State) : s.bothDue.bump = s.bump := by
  unfold State.bothDue; split <;> simp
@[simp] theorem State.bothDue_drop (s : State) : s.bothDue.drop = s.drop := by
  unfold State.bothDue; split <;> simp
@[simp] theorem State.bothDue_enc (s : State) : s.bothDue.enc = s.enc := by
  unfold State.bothDue; split <;> simp
@[simp] theorem State.bothDue_odo (s : State) : s.bothDue.odo = s.odo := by
  unfold State.bothDue; split <;> simp
@[simp] theorem State.bothDue_table (s : State) : s.bothDue.table = s.table := by
  unfold State.bothDue; split <;> simp
@[simp] theorem State.bothDue_report (s : State) : s.bothDue.report = s.report := by
  unfold State.bothDue; split <;> simp
@[simp] theorem State.bothDue_clear (s : State) : s.bothDue.clear = s.clear := by
  unfold State.bothDue; split <;> simp
@[simp] theorem State.bothDue_beacon (s : State) : s.bothDue.beacon = s.beacon := by
  unfold State.bothDue; split <;> simp
@[simp] theorem State.bothDue_peers (s : State) : s.bothDue.peers = s.peers := by
  unfold State.bothDue; split <;> simp
@[simp] theorem State.bothDue_link (s : State) : s.bothDue.link = s.link := by
  unfold State.bothDue; split <;> simp
@[simp] theorem State.bothDue_pending (s : State) : s.bothDue.pending = s.pending := by
  unfold State.bothDue; split <;> simp
@[simp] theorem State.afterFloorBurst_pins (s : State) : s.afterFloorBurst.pins = s.pins := by
  unfold State.afterFloorBurst; dsimp only; (repeat' split) <;> simp
@[simp] theorem State.afterFloorBurst_startup (s : State) : s.afterFloorBurst.startup = s.startup := by
  unfold State.afterFloorBurst; dsimp only; (repeat' split) <;> simp
@[simp] theorem State.afterFloorBurst_bump (s : State) : s.afterFloorBurst.bump = s.bump := by
  unfold State.afterFloorBurst; dsimp only; (repeat' split) <;> simp
@[simp] theorem State.afterFloorBurst_drop (s : State) : s.afterFloorBurst.drop = s.drop := by
  unfold State.afterFloorBurst; dsimp only; (repeat' split) <;> simp
@[simp] theorem State.afterFloorBurst_enc (s : State) : s.afterFloorBurst.enc = s.enc := by
  unfold State.afterFloorBurst; dsimp only; (repeat' split) <;> simp
@[simp] theorem State.afterFloorBurst_odo (s : State) : s.afterFloorBurst.odo = s.odo := by
  unfold State.afterFloorBurst; dsimp only; (repeat' split) <;> simp
@[simp] theorem State.afterFloorBurst_table (s : State) : s.afterFloorBurst.table = s.table := by
  unfold State.afterFloorBurst; dsimp only; (repeat' split) <;> simp
@[simp] theorem State.afterFloorBurst_report (s : State) : s.afterFloorBurst.report = s.report := by
  unfold State.afterFloorBurst; dsimp only; (repeat' split) <;> simp
@[simp] theorem State.afterFloorBurst_clear (s : State) : s.afterFloorBurst.clear = s.clear := by
  unfold State.afterFloorBurst; dsimp only; (repeat' split) <;> simp
@[simp] theorem State.afterFloorBurst_beacon (s : State) : s.afterFloorBurst.beacon = s.beacon := by
  unfold State.afterFloorBurst; dsimp only; (repeat' split) <;> simp
@[simp] theorem State.afterFloorBurst_peers (s : State) : s.afterFloorBurst.peers = s.peers := by
  unfold State.afterFloorBurst; dsimp only; (repeat' split) <;> simp
@[simp] theorem State.afterFloorBurst_link (s : State) : s.afterFloorBurst.link = s.link := by
  unfold State.afterFloorBurst; dsimp only; (repeat' split) <;> simp
@[simp] theorem State.afterFloorBurst_choices (s : State) : s.afterFloorBurst.choices = s.choices := by
  unfold State.afterFloorBurst; dsimp only; (repeat' split) <;> simp
@[simp] theorem State.afterFloorBurst_pending (s : State) : s.afterFloorBurst.pending = s.pending := by
  unfold State.afterFloorBurst; dsimp only; (repeat' split) <;> simp
@[simp] theorem State.afterWallBurst_pins (s : State) : s.afterWallBurst.pins = s.pins := by
  unfold State.afterWallBurst; dsimp only; (repeat' split) <;> simp
@[simp] theorem State.afterWallBurst_startup (s : State) : s.afterWallBurst.startup = s.startup := by
  unfold State.afterWallBurst; dsimp only; (repeat' split) <;> simp
@[simp] theorem State.afterWallBurst_bump (s : State) : s.afterWallBurst.bump = s.bump := by
  unfold State.afterWallBurst; dsimp only; (repeat' split) <;> simp
@[simp] theorem State.afterWallBurst_drop (s : State) : s.afterWallBurst.drop = s.drop := by
  unfold State.afterWallBurst; dsimp only; (repeat' split) <;> simp
@[simp] theorem State.afterWallBurst_enc (s : State) : s.afterWallBurst.enc = s.enc := by
  unfold State.afterWallBurst; dsimp only; (repeat' split) <;> simp
@[simp] theorem State.afterWallBurst_odo (s : State) : s.afterWallBurst.odo = s.odo := by
  unfold State.afterWallBurst; dsimp only; (repeat' split) <;> simp
@[simp] theorem State.afterWallBurst_table (s : State) : s.afterWallBurst.table = s.table := by
  unfold State.afterWallBurst; dsimp only; (repeat' split) <;> simp
@[simp] theorem State.afterWallBurst_report (s : State) : s.afterWallBurst.report = s.report := by
  unfold State.afterWallBurst; dsimp only; (repeat' split) <;> simp
@[simp] theorem State.afterWallBurst_clear (s : State) : s.afterWallBurst.clear = s.clear := by
  unfold State.afterWallBurst; dsimp only; (repeat' split) <;> simp
@[simp] theorem State.afterWallBurst_beacon (s : State) : s.afterWallBurst.beacon = s.beacon := by
  unfold State.afterWallBurst; dsimp only; (repeat' split) <;> simp
@[simp] theorem State.afterWallBurst_peers (s : State) : s.afterWallBurst.peers = s.peers := by
  unfold State.afterWallBurst; dsimp only; (repeat' split) <;> simp
@[simp] theorem State.afterWallBurst_link (s : State) : s.afterWallBurst.link = s.link := by
  unfold State.afterWallBurst; dsimp only; (repeat' split) <;> simp
@[simp] theorem State.afterWallBurst_choices (s : State) : s.afterWallBurst.choices = s.choices := by
  unfold State.afterWallBurst; dsimp only; (repeat' split) <;> simp
@[simp] theorem State.afterWallBurst_pending (s : State) : s.afterWallBurst.pending = s.pending := by
  unfold State.afterWallBurst; dsimp only; (repeat' split) <;> simp
@[simp] theorem State.observeOpt_pins (s : State) (i : Option Item) : (s.observeOpt i).pins = s.pins := by
  unfold State.observeOpt; split <;> simp
@[simp] theorem State.observeOpt_floor (s : State) (i : Option Item) : (s.observeOpt i).floor = s.floor := by
  unfold State.observeOpt; split <;> simp
@[simp] theorem State.observeOpt_wall (s : State) (i : Option Item) : (s.observeOpt i).wall = s.wall := by
  unfold State.observeOpt; split <;> simp
@[simp] theorem State.observeOpt_bump (s : State) (i : Option Item) : (s.observeOpt i).bump = s.bump := by
  unfold State.observeOpt; split <;> simp
@[simp] theorem State.observeOpt_drop (s : State) (i : Option Item) : (s.observeOpt i).drop = s.drop := by
  unfold State.observeOpt; split <;> simp
@[simp] theorem State.observeOpt_enc (s : State) (i : Option Item) : (s.observeOpt i).enc = s.enc := by
  unfold State.observeOpt; split <;> simp
@[simp] theorem State.observeOpt_odo (s : State) (i : Option Item) : (s.observeOpt i).odo = s.odo := by
  unfold State.observeOpt; split <;> simp
@[simp] theorem State.observeOpt_clear (s : State) (i : Option Item) : (s.observeOpt i).clear = s.clear := by
  unfold State.observeOpt; split <;> simp
@[simp] theorem State.observeOpt_beacon (s : State) (i : Option Item) : (s.observeOpt i).beacon = s.beacon := by
  unfold State.observeOpt; split <;> simp
@[simp] theorem State.observeOpt_peers (s : State) (i : Option Item) : (s.observeOpt i).peers = s.peers := by
  unfold State.observeOpt; split <;> simp
@[simp] theorem State.observeOpt_choices (s : State) (i : Option Item) : (s.observeOpt i).choices = s.choices := by
  unfold State.observeOpt; split <;> simp
@[simp] theorem State.observeOpt_pending (s : State) (i : Option Item) : (s.observeOpt i).pending = s.pending := by
  unfold State.observeOpt; split <;> simp
@[simp] theorem State.floorResult_pins (s : State) (a l : BitVec 10) : (s.floorResult a l).pins = s.pins := by
  unfold State.floorResult; split <;> simp
@[simp] theorem State.floorResult_wall (s : State) (a l : BitVec 10) : (s.floorResult a l).wall = s.wall := by
  unfold State.floorResult; split <;> simp
@[simp] theorem State.floorResult_bump (s : State) (a l : BitVec 10) : (s.floorResult a l).bump = s.bump := by
  unfold State.floorResult; split <;> simp
@[simp] theorem State.floorResult_drop (s : State) (a l : BitVec 10) : (s.floorResult a l).drop = s.drop := by
  unfold State.floorResult; split <;> simp
@[simp] theorem State.floorResult_enc (s : State) (a l : BitVec 10) : (s.floorResult a l).enc = s.enc := by
  unfold State.floorResult; split <;> simp
@[simp] theorem State.floorResult_odo (s : State) (a l : BitVec 10) : (s.floorResult a l).odo = s.odo := by
  unfold State.floorResult; split <;> simp
@[simp] theorem State.floorResult_clear (s : State) (a l : BitVec 10) : (s.floorResult a l).clear = s.clear := by
  unfold State.floorResult; split <;> simp
@[simp] theorem State.floorResult_beacon (s : State) (a l : BitVec 10) : (s.floorResult a l).beacon = s.beacon := by
  unfold State.floorResult; split <;> simp
@[simp] theorem State.floorResult_peers (s : State) (a l : BitVec 10) : (s.floorResult a l).peers = s.peers := by
  unfold State.floorResult; split <;> simp
@[simp] theorem State.floorResult_choices (s : State) (a l : BitVec 10) : (s.floorResult a l).choices = s.choices := by
  unfold State.floorResult; split <;> simp
@[simp] theorem State.floorResult_pending (s : State) (a l : BitVec 10) : (s.floorResult a l).pending = s.pending := by
  unfold State.floorResult; split <;> simp
@[simp] theorem State.wallResult_pins (s : State) (a l : BitVec 10) : (s.wallResult a l).pins = s.pins := by
  unfold State.wallResult; split <;> simp
@[simp] theorem State.wallResult_floor (s : State) (a l : BitVec 10) : (s.wallResult a l).floor = s.floor := by
  unfold State.wallResult; split <;> simp
@[simp] theorem State.wallResult_bump (s : State) (a l : BitVec 10) : (s.wallResult a l).bump = s.bump := by
  unfold State.wallResult; split <;> simp
@[simp] theorem State.wallResult_drop (s : State) (a l : BitVec 10) : (s.wallResult a l).drop = s.drop := by
  unfold State.wallResult; split <;> simp
@[simp] theorem State.wallResult_enc (s : State) (a l : BitVec 10) : (s.wallResult a l).enc = s.enc := by
  unfold State.wallResult; split <;> simp
@[simp] theorem State.wallResult_odo (s : State) (a l : BitVec 10) : (s.wallResult a l).odo = s.odo := by
  unfold State.wallResult; split <;> simp
@[simp] theorem State.wallResult_clear (s : State) (a l : BitVec 10) : (s.wallResult a l).clear = s.clear := by
  unfold State.wallResult; split <;> simp
@[simp] theorem State.wallResult_beacon (s : State) (a l : BitVec 10) : (s.wallResult a l).beacon = s.beacon := by
  unfold State.wallResult; split <;> simp
@[simp] theorem State.wallResult_peers (s : State) (a l : BitVec 10) : (s.wallResult a l).peers = s.peers := by
  unfold State.wallResult; split <;> simp
@[simp] theorem State.wallResult_choices (s : State) (a l : BitVec 10) : (s.wallResult a l).choices = s.choices := by
  unfold State.wallResult; split <;> simp
@[simp] theorem State.wallResult_pending (s : State) (a l : BitVec 10) : (s.wallResult a l).pending = s.pending := by
  unfold State.wallResult; split <;> simp
@[simp] theorem State.firstBursts_pins (s : State) : s.firstBursts.pins = s.pins := by
  unfold State.firstBursts; split <;> simp
@[simp] theorem State.firstBursts_startup (s : State) : s.firstBursts.startup = s.startup := by
  unfold State.firstBursts; split <;> simp
@[simp] theorem State.firstBursts_bump (s : State) : s.firstBursts.bump = s.bump := by
  unfold State.firstBursts; split <;> simp
@[simp] theorem State.firstBursts_drop (s : State) : s.firstBursts.drop = s.drop := by
  unfold State.firstBursts; split <;> simp
@[simp] theorem State.firstBursts_enc (s : State) : s.firstBursts.enc = s.enc := by
  unfold State.firstBursts; split <;> simp
@[simp] theorem State.firstBursts_odo (s : State) : s.firstBursts.odo = s.odo := by
  unfold State.firstBursts; split <;> simp
@[simp] theorem State.firstBursts_table (s : State) : s.firstBursts.table = s.table := by
  unfold State.firstBursts; split <;> simp
@[simp] theorem State.firstBursts_report (s : State) : s.firstBursts.report = s.report := by
  unfold State.firstBursts; split <;> simp
@[simp] theorem State.firstBursts_clear (s : State) : s.firstBursts.clear = s.clear := by
  unfold State.firstBursts; split <;> simp
@[simp] theorem State.firstBursts_beacon (s : State) : s.firstBursts.beacon = s.beacon := by
  unfold State.firstBursts; split <;> simp
@[simp] theorem State.firstBursts_peers (s : State) : s.firstBursts.peers = s.peers := by
  unfold State.firstBursts; split <;> simp
@[simp] theorem State.firstBursts_link (s : State) : s.firstBursts.link = s.link := by
  unfold State.firstBursts; split <;> simp
@[simp] theorem State.firstBursts_pending (s : State) : s.firstBursts.pending = s.pending := by
  unfold State.firstBursts; split <;> simp
@[simp] theorem State.channelsEnterRun_pins (s : State) : s.channelsEnterRun.pins = s.pins := by simp [State.channelsEnterRun]
@[simp] theorem State.channelsEnterRun_startup (s : State) : s.channelsEnterRun.startup = s.startup := by simp [State.channelsEnterRun]
@[simp] theorem State.channelsEnterRun_enc (s : State) : s.channelsEnterRun.enc = s.enc := by simp [State.channelsEnterRun]
@[simp] theorem State.channelsEnterRun_odo (s : State) : s.channelsEnterRun.odo = s.odo := by simp [State.channelsEnterRun]
@[simp] theorem State.channelsEnterRun_table (s : State) : s.channelsEnterRun.table = s.table := by simp [State.channelsEnterRun]
@[simp] theorem State.channelsEnterRun_report (s : State) : s.channelsEnterRun.report = s.report := by simp [State.channelsEnterRun]
@[simp] theorem State.channelsEnterRun_clear (s : State) : s.channelsEnterRun.clear = s.clear := by simp [State.channelsEnterRun]
@[simp] theorem State.channelsEnterRun_beacon (s : State) : s.channelsEnterRun.beacon = s.beacon := by simp [State.channelsEnterRun]
@[simp] theorem State.channelsEnterRun_peers (s : State) : s.channelsEnterRun.peers = s.peers := by simp [State.channelsEnterRun]
@[simp] theorem State.channelsEnterRun_link (s : State) : s.channelsEnterRun.link = s.link := by simp [State.channelsEnterRun]
@[simp] theorem State.channelsEnterRun_pending (s : State) : s.channelsEnterRun.pending = s.pending := by simp [State.channelsEnterRun]
@[simp] theorem State.channelsIdle_pins (s : State) : s.channelsIdle.pins = s.pins := rfl
@[simp] theorem State.channelsIdle_startup (s : State) : s.channelsIdle.startup = s.startup := rfl
@[simp] theorem State.channelsIdle_enc (s : State) : s.channelsIdle.enc = s.enc := rfl
@[simp] theorem State.channelsIdle_odo (s : State) : s.channelsIdle.odo = s.odo := rfl
@[simp] theorem State.channelsIdle_table (s : State) : s.channelsIdle.table = s.table := rfl
@[simp] theorem State.channelsIdle_report (s : State) : s.channelsIdle.report = s.report := rfl
@[simp] theorem State.channelsIdle_clear (s : State) : s.channelsIdle.clear = s.clear := rfl
@[simp] theorem State.channelsIdle_beacon (s : State) : s.channelsIdle.beacon = s.beacon := rfl
@[simp] theorem State.channelsIdle_peers (s : State) : s.channelsIdle.peers = s.peers := rfl
@[simp] theorem State.channelsIdle_link (s : State) : s.channelsIdle.link = s.link := rfl
@[simp] theorem State.channelsIdle_choices (s : State) : s.channelsIdle.choices = s.choices := rfl
@[simp] theorem State.channelsIdle_pending (s : State) : s.channelsIdle.pending = s.pending := rfl
@[simp] theorem State.channelsPark_pins (s : State) : s.channelsPark.pins = s.pins := rfl
@[simp] theorem State.channelsPark_startup (s : State) : s.channelsPark.startup = s.startup := rfl
@[simp] theorem State.channelsPark_bump (s : State) : s.channelsPark.bump = s.bump := rfl
@[simp] theorem State.channelsPark_drop (s : State) : s.channelsPark.drop = s.drop := rfl
@[simp] theorem State.channelsPark_enc (s : State) : s.channelsPark.enc = s.enc := rfl
@[simp] theorem State.channelsPark_odo (s : State) : s.channelsPark.odo = s.odo := rfl
@[simp] theorem State.channelsPark_table (s : State) : s.channelsPark.table = s.table := rfl
@[simp] theorem State.channelsPark_report (s : State) : s.channelsPark.report = s.report := rfl
@[simp] theorem State.channelsPark_clear (s : State) : s.channelsPark.clear = s.clear := rfl
@[simp] theorem State.channelsPark_beacon (s : State) : s.channelsPark.beacon = s.beacon := rfl
@[simp] theorem State.channelsPark_peers (s : State) : s.channelsPark.peers = s.peers := rfl
@[simp] theorem State.channelsPark_link (s : State) : s.channelsPark.link = s.link := rfl
@[simp] theorem State.channelsPark_choices (s : State) : s.channelsPark.choices = s.choices := rfl
@[simp] theorem State.channelsPark_pending (s : State) : s.channelsPark.pending = s.pending := rfl
@[simp] theorem State.channelsUnpark_pins (s : State) : s.channelsUnpark.pins = s.pins := by
  unfold State.channelsUnpark; dsimp only; split <;> simp
@[simp] theorem State.channelsUnpark_startup (s : State) : s.channelsUnpark.startup = s.startup := by
  unfold State.channelsUnpark; dsimp only; split <;> simp
@[simp] theorem State.channelsUnpark_bump (s : State) : s.channelsUnpark.bump = s.bump := by
  unfold State.channelsUnpark; dsimp only; split <;> simp
@[simp] theorem State.channelsUnpark_drop (s : State) : s.channelsUnpark.drop = s.drop := by
  unfold State.channelsUnpark; dsimp only; split <;> simp
@[simp] theorem State.channelsUnpark_enc (s : State) : s.channelsUnpark.enc = s.enc := by
  unfold State.channelsUnpark; dsimp only; split <;> simp
@[simp] theorem State.channelsUnpark_odo (s : State) : s.channelsUnpark.odo = s.odo := by
  unfold State.channelsUnpark; dsimp only; split <;> simp
@[simp] theorem State.channelsUnpark_table (s : State) : s.channelsUnpark.table = s.table := by
  unfold State.channelsUnpark; dsimp only; split <;> simp
@[simp] theorem State.channelsUnpark_report (s : State) : s.channelsUnpark.report = s.report := by
  unfold State.channelsUnpark; dsimp only; split <;> simp
@[simp] theorem State.channelsUnpark_clear (s : State) : s.channelsUnpark.clear = s.clear := by
  unfold State.channelsUnpark; dsimp only; split <;> simp
@[simp] theorem State.channelsUnpark_beacon (s : State) : s.channelsUnpark.beacon = s.beacon := by
  unfold State.channelsUnpark; dsimp only; split <;> simp
@[simp] theorem State.channelsUnpark_peers (s : State) : s.channelsUnpark.peers = s.peers := by
  unfold State.channelsUnpark; dsimp only; split <;> simp
@[simp] theorem State.channelsUnpark_link (s : State) : s.channelsUnpark.link = s.link := by
  unfold State.channelsUnpark; dsimp only; split <;> simp
@[simp] theorem State.channelsUnpark_pending (s : State) : s.channelsUnpark.pending = s.pending := by
  unfold State.channelsUnpark; dsimp only; split <;> simp
@[simp] theorem State.channelsMode_pins (s : State) (a b : Mode) : (s.channelsMode a b).pins = s.pins := by
  unfold State.channelsMode; (repeat' split) <;> simp
@[simp] theorem State.channelsMode_startup (s : State) (a b : Mode) : (s.channelsMode a b).startup = s.startup := by
  unfold State.channelsMode; (repeat' split) <;> simp
@[simp] theorem State.channelsMode_bump (s : State) (a b : Mode) : (s.channelsMode a b).bump = s.bump := by
  unfold State.channelsMode; (repeat' split) <;> simp
@[simp] theorem State.channelsMode_drop (s : State) (a b : Mode) : (s.channelsMode a b).drop = s.drop := by
  unfold State.channelsMode; (repeat' split) <;> simp
@[simp] theorem State.channelsMode_enc (s : State) (a b : Mode) : (s.channelsMode a b).enc = s.enc := by
  unfold State.channelsMode; (repeat' split) <;> simp
@[simp] theorem State.channelsMode_odo (s : State) (a b : Mode) : (s.channelsMode a b).odo = s.odo := by
  unfold State.channelsMode; (repeat' split) <;> simp
@[simp] theorem State.channelsMode_table (s : State) (a b : Mode) : (s.channelsMode a b).table = s.table := by
  unfold State.channelsMode; (repeat' split) <;> simp
@[simp] theorem State.channelsMode_report (s : State) (a b : Mode) : (s.channelsMode a b).report = s.report := by
  unfold State.channelsMode; (repeat' split) <;> simp
@[simp] theorem State.channelsMode_clear (s : State) (a b : Mode) : (s.channelsMode a b).clear = s.clear := by
  unfold State.channelsMode; (repeat' split) <;> simp
@[simp] theorem State.channelsMode_beacon (s : State) (a b : Mode) : (s.channelsMode a b).beacon = s.beacon := by
  unfold State.channelsMode; (repeat' split) <;> simp
@[simp] theorem State.channelsMode_peers (s : State) (a b : Mode) : (s.channelsMode a b).peers = s.peers := by
  unfold State.channelsMode; (repeat' split) <;> simp
@[simp] theorem State.channelsMode_link (s : State) (a b : Mode) : (s.channelsMode a b).link = s.link := by
  unfold State.channelsMode; (repeat' split) <;> simp
@[simp] theorem State.channelsMode_pending (s : State) (a b : Mode) : (s.channelsMode a b).pending = s.pending := by
  unfold State.channelsMode; (repeat' split) <;> simp
@[simp] theorem State.sendOdometry_pins (s : State) : s.sendOdometry.pins = s.pins := by simp [State.sendOdometry]
@[simp] theorem State.sendOdometry_floor (s : State) : s.sendOdometry.floor = s.floor := by simp [State.sendOdometry]
@[simp] theorem State.sendOdometry_wall (s : State) : s.sendOdometry.wall = s.wall := by simp [State.sendOdometry]
@[simp] theorem State.sendOdometry_bump (s : State) : s.sendOdometry.bump = s.bump := by simp [State.sendOdometry]
@[simp] theorem State.sendOdometry_drop (s : State) : s.sendOdometry.drop = s.drop := by simp [State.sendOdometry]
@[simp] theorem State.sendOdometry_enc (s : State) : s.sendOdometry.enc = s.enc := by simp [State.sendOdometry]
@[simp] theorem State.sendOdometry_odo (s : State) : s.sendOdometry.odo = s.odo := by simp [State.sendOdometry]
@[simp] theorem State.sendOdometry_table (s : State) : s.sendOdometry.table = s.table := by simp [State.sendOdometry]
@[simp] theorem State.sendOdometry_report (s : State) : s.sendOdometry.report = s.report := by simp [State.sendOdometry]
@[simp] theorem State.sendOdometry_clear (s : State) : s.sendOdometry.clear = s.clear := by simp [State.sendOdometry]
@[simp] theorem State.sendOdometry_beacon (s : State) : s.sendOdometry.beacon = s.beacon := by simp [State.sendOdometry]
@[simp] theorem State.sendOdometry_peers (s : State) : s.sendOdometry.peers = s.peers := by simp [State.sendOdometry]
@[simp] theorem State.sendOdometry_choices (s : State) : s.sendOdometry.choices = s.choices := by simp [State.sendOdometry]
@[simp] theorem State.sendOdometry_pending (s : State) : s.sendOdometry.pending = s.pending := by simp [State.sendOdometry]
@[simp] theorem State.encoderEnterRun_pins (s : State) : s.encoderEnterRun.pins = s.pins := by
  unfold State.encoderEnterRun; split <;> simp
@[simp] theorem State.encoderEnterRun_floor (s : State) : s.encoderEnterRun.floor = s.floor := by
  unfold State.encoderEnterRun; split <;> simp
@[simp] theorem State.encoderEnterRun_wall (s : State) : s.encoderEnterRun.wall = s.wall := by
  unfold State.encoderEnterRun; split <;> simp
@[simp] theorem State.encoderEnterRun_bump (s : State) : s.encoderEnterRun.bump = s.bump := by
  unfold State.encoderEnterRun; split <;> simp
@[simp] theorem State.encoderEnterRun_drop (s : State) : s.encoderEnterRun.drop = s.drop := by
  unfold State.encoderEnterRun; split <;> simp
@[simp] theorem State.encoderEnterRun_odo (s : State) : s.encoderEnterRun.odo = s.odo := by
  unfold State.encoderEnterRun; split <;> simp
@[simp] theorem State.encoderEnterRun_table (s : State) : s.encoderEnterRun.table = s.table := by
  unfold State.encoderEnterRun; split <;> simp
@[simp] theorem State.encoderEnterRun_report (s : State) : s.encoderEnterRun.report = s.report := by
  unfold State.encoderEnterRun; split <;> simp
@[simp] theorem State.encoderEnterRun_clear (s : State) : s.encoderEnterRun.clear = s.clear := by
  unfold State.encoderEnterRun; split <;> simp
@[simp] theorem State.encoderEnterRun_beacon (s : State) : s.encoderEnterRun.beacon = s.beacon := by
  unfold State.encoderEnterRun; split <;> simp
@[simp] theorem State.encoderEnterRun_peers (s : State) : s.encoderEnterRun.peers = s.peers := by
  unfold State.encoderEnterRun; split <;> simp
@[simp] theorem State.encoderEnterRun_choices (s : State) : s.encoderEnterRun.choices = s.choices := by
  unfold State.encoderEnterRun; split <;> simp
@[simp] theorem State.encoderEnterRun_pending (s : State) : s.encoderEnterRun.pending = s.pending := by
  unfold State.encoderEnterRun; split <;> simp
@[simp] theorem State.raiseCarry_pins (s : State) : s.raiseCarry.pins = s.pins := by simp [State.raiseCarry]
@[simp] theorem State.raiseCarry_startup (s : State) : s.raiseCarry.startup = s.startup := by simp [State.raiseCarry]
@[simp] theorem State.raiseCarry_floor (s : State) : s.raiseCarry.floor = s.floor := by simp [State.raiseCarry]
@[simp] theorem State.raiseCarry_wall (s : State) : s.raiseCarry.wall = s.wall := by simp [State.raiseCarry]
@[simp] theorem State.raiseCarry_bump (s : State) : s.raiseCarry.bump = s.bump := by simp [State.raiseCarry]
@[simp] theorem State.raiseCarry_drop (s : State) : s.raiseCarry.drop = s.drop := by simp [State.raiseCarry]
@[simp] theorem State.raiseCarry_enc (s : State) : s.raiseCarry.enc = s.enc := by simp [State.raiseCarry]
@[simp] theorem State.raiseCarry_odo (s : State) : s.raiseCarry.odo = s.odo := by simp [State.raiseCarry]
@[simp] theorem State.raiseCarry_report (s : State) : s.raiseCarry.report = s.report := by simp [State.raiseCarry]
@[simp] theorem State.raiseCarry_clear (s : State) : s.raiseCarry.clear = s.clear := by simp [State.raiseCarry]
@[simp] theorem State.raiseCarry_beacon (s : State) : s.raiseCarry.beacon = s.beacon := by simp [State.raiseCarry]
@[simp] theorem State.raiseCarry_peers (s : State) : s.raiseCarry.peers = s.peers := by simp [State.raiseCarry]
@[simp] theorem State.raiseCarry_choices (s : State) : s.raiseCarry.choices = s.choices := by simp [State.raiseCarry]
@[simp] theorem State.raiseCarry_pending (s : State) : s.raiseCarry.pending = s.pending := by simp [State.raiseCarry]
@[simp] theorem State.awaitCarry_pins (s : State) : s.awaitCarry.pins = s.pins := rfl
@[simp] theorem State.awaitCarry_startup (s : State) : s.awaitCarry.startup = s.startup := rfl
@[simp] theorem State.awaitCarry_floor (s : State) : s.awaitCarry.floor = s.floor := rfl
@[simp] theorem State.awaitCarry_wall (s : State) : s.awaitCarry.wall = s.wall := rfl
@[simp] theorem State.awaitCarry_bump (s : State) : s.awaitCarry.bump = s.bump := rfl
@[simp] theorem State.awaitCarry_drop (s : State) : s.awaitCarry.drop = s.drop := rfl
@[simp] theorem State.awaitCarry_enc (s : State) : s.awaitCarry.enc = s.enc := rfl
@[simp] theorem State.awaitCarry_odo (s : State) : s.awaitCarry.odo = s.odo := rfl
@[simp] theorem State.awaitCarry_table (s : State) : s.awaitCarry.table = s.table := rfl
@[simp] theorem State.awaitCarry_report (s : State) : s.awaitCarry.report = s.report := rfl
@[simp] theorem State.awaitCarry_clear (s : State) : s.awaitCarry.clear = s.clear := rfl
@[simp] theorem State.awaitCarry_beacon (s : State) : s.awaitCarry.beacon = s.beacon := rfl
@[simp] theorem State.awaitCarry_peers (s : State) : s.awaitCarry.peers = s.peers := rfl
@[simp] theorem State.awaitCarry_choices (s : State) : s.awaitCarry.choices = s.choices := rfl
@[simp] theorem State.awaitCarry_pending (s : State) : s.awaitCarry.pending = s.pending := rfl
@[simp] theorem State.takeOdometry_pins (s : State) (p : Pos) (q : Seq) (l r : Half) (b : Bool) : (s.takeOdometry p q l r b).pins = s.pins := by
  unfold State.takeOdometry; split
  · split <;> simp
  · simp
@[simp] theorem State.takeOdometry_floor (s : State) (p : Pos) (q : Seq) (l r : Half) (b : Bool) : (s.takeOdometry p q l r b).floor = s.floor := by
  unfold State.takeOdometry; split
  · split <;> simp
  · simp
@[simp] theorem State.takeOdometry_wall (s : State) (p : Pos) (q : Seq) (l r : Half) (b : Bool) : (s.takeOdometry p q l r b).wall = s.wall := by
  unfold State.takeOdometry; split
  · split <;> simp
  · simp
@[simp] theorem State.takeOdometry_bump (s : State) (p : Pos) (q : Seq) (l r : Half) (b : Bool) : (s.takeOdometry p q l r b).bump = s.bump := by
  unfold State.takeOdometry; split
  · split <;> simp
  · simp
@[simp] theorem State.takeOdometry_drop (s : State) (p : Pos) (q : Seq) (l r : Half) (b : Bool) : (s.takeOdometry p q l r b).drop = s.drop := by
  unfold State.takeOdometry; split
  · split <;> simp
  · simp
@[simp] theorem State.takeOdometry_enc (s : State) (p : Pos) (q : Seq) (l r : Half) (b : Bool) : (s.takeOdometry p q l r b).enc = s.enc := by
  unfold State.takeOdometry; split
  · split <;> simp
  · simp
@[simp] theorem State.takeOdometry_report (s : State) (p : Pos) (q : Seq) (l r : Half) (b : Bool) : (s.takeOdometry p q l r b).report = s.report := by
  unfold State.takeOdometry; split
  · split <;> simp
  · simp
@[simp] theorem State.takeOdometry_beacon (s : State) (p : Pos) (q : Seq) (l r : Half) (b : Bool) : (s.takeOdometry p q l r b).beacon = s.beacon := by
  unfold State.takeOdometry; split
  · split <;> simp
  · simp
@[simp] theorem State.takeOdometry_peers (s : State) (p : Pos) (q : Seq) (l r : Half) (b : Bool) : (s.takeOdometry p q l r b).peers = s.peers := by
  unfold State.takeOdometry; split
  · split <;> simp
  · simp
@[simp] theorem State.takeOdometry_choices (s : State) (p : Pos) (q : Seq) (l r : Half) (b : Bool) : (s.takeOdometry p q l r b).choices = s.choices := by
  unfold State.takeOdometry; split
  · split <;> simp
  · simp
@[simp] theorem State.takeOdometry_pending (s : State) (p : Pos) (q : Seq) (l r : Half) (b : Bool) : (s.takeOdometry p q l r b).pending = s.pending := by
  unfold State.takeOdometry; split
  · split <;> simp
  · simp
@[simp] theorem State.odometryBlock_pins (s : State) (h : Head) (d : OdometryData) : (s.odometryBlock h d).pins = s.pins := by
  unfold State.odometryBlock; split <;> simp
@[simp] theorem State.odometryBlock_floor (s : State) (h : Head) (d : OdometryData) : (s.odometryBlock h d).floor = s.floor := by
  unfold State.odometryBlock; split <;> simp
@[simp] theorem State.odometryBlock_wall (s : State) (h : Head) (d : OdometryData) : (s.odometryBlock h d).wall = s.wall := by
  unfold State.odometryBlock; split <;> simp
@[simp] theorem State.odometryBlock_bump (s : State) (h : Head) (d : OdometryData) : (s.odometryBlock h d).bump = s.bump := by
  unfold State.odometryBlock; split <;> simp
@[simp] theorem State.odometryBlock_drop (s : State) (h : Head) (d : OdometryData) : (s.odometryBlock h d).drop = s.drop := by
  unfold State.odometryBlock; split <;> simp
@[simp] theorem State.odometryBlock_enc (s : State) (h : Head) (d : OdometryData) : (s.odometryBlock h d).enc = s.enc := by
  unfold State.odometryBlock; split <;> simp
@[simp] theorem State.odometryBlock_report (s : State) (h : Head) (d : OdometryData) : (s.odometryBlock h d).report = s.report := by
  unfold State.odometryBlock; split <;> simp
@[simp] theorem State.odometryBlock_beacon (s : State) (h : Head) (d : OdometryData) : (s.odometryBlock h d).beacon = s.beacon := by
  unfold State.odometryBlock; split <;> simp
@[simp] theorem State.odometryBlock_peers (s : State) (h : Head) (d : OdometryData) : (s.odometryBlock h d).peers = s.peers := by
  unfold State.odometryBlock; split <;> simp
@[simp] theorem State.odometryBlock_choices (s : State) (h : Head) (d : OdometryData) : (s.odometryBlock h d).choices = s.choices := by
  unfold State.odometryBlock; split <;> simp
@[simp] theorem State.odometryBlock_pending (s : State) (h : Head) (d : OdometryData) : (s.odometryBlock h d).pending = s.pending := by
  unfold State.odometryBlock; split <;> simp
@[simp] theorem State.odoNotice_pins (s : State) (h : Head) (b : Bool) : (s.odoNotice h b).pins = s.pins := by
  unfold State.odoNotice; dsimp only; (repeat' split) <;> simp
@[simp] theorem State.odoNotice_startup (s : State) (h : Head) (b : Bool) : (s.odoNotice h b).startup = s.startup := by
  unfold State.odoNotice; dsimp only; (repeat' split) <;> simp
@[simp] theorem State.odoNotice_floor (s : State) (h : Head) (b : Bool) : (s.odoNotice h b).floor = s.floor := by
  unfold State.odoNotice; dsimp only; (repeat' split) <;> simp
@[simp] theorem State.odoNotice_wall (s : State) (h : Head) (b : Bool) : (s.odoNotice h b).wall = s.wall := by
  unfold State.odoNotice; dsimp only; (repeat' split) <;> simp
@[simp] theorem State.odoNotice_bump (s : State) (h : Head) (b : Bool) : (s.odoNotice h b).bump = s.bump := by
  unfold State.odoNotice; dsimp only; (repeat' split) <;> simp
@[simp] theorem State.odoNotice_drop (s : State) (h : Head) (b : Bool) : (s.odoNotice h b).drop = s.drop := by
  unfold State.odoNotice; dsimp only; (repeat' split) <;> simp
@[simp] theorem State.odoNotice_enc (s : State) (h : Head) (b : Bool) : (s.odoNotice h b).enc = s.enc := by
  unfold State.odoNotice; dsimp only; (repeat' split) <;> simp
@[simp] theorem State.odoNotice_table (s : State) (h : Head) (b : Bool) : (s.odoNotice h b).table = s.table := by
  unfold State.odoNotice; dsimp only; (repeat' split) <;> simp
@[simp] theorem State.odoNotice_report (s : State) (h : Head) (b : Bool) : (s.odoNotice h b).report = s.report := by
  unfold State.odoNotice; dsimp only; (repeat' split) <;> simp
@[simp] theorem State.odoNotice_clear (s : State) (h : Head) (b : Bool) : (s.odoNotice h b).clear = s.clear := by
  unfold State.odoNotice; dsimp only; (repeat' split) <;> simp
@[simp] theorem State.odoNotice_beacon (s : State) (h : Head) (b : Bool) : (s.odoNotice h b).beacon = s.beacon := by
  unfold State.odoNotice; dsimp only; (repeat' split) <;> simp
@[simp] theorem State.odoNotice_peers (s : State) (h : Head) (b : Bool) : (s.odoNotice h b).peers = s.peers := by
  unfold State.odoNotice; dsimp only; (repeat' split) <;> simp
@[simp] theorem State.odoNotice_link (s : State) (h : Head) (b : Bool) : (s.odoNotice h b).link = s.link := by
  unfold State.odoNotice; dsimp only; (repeat' split) <;> simp
@[simp] theorem State.odoNotice_choices (s : State) (h : Head) (b : Bool) : (s.odoNotice h b).choices = s.choices := by
  unfold State.odoNotice; dsimp only; (repeat' split) <;> simp
@[simp] theorem State.odoNotice_pending (s : State) (h : Head) (b : Bool) : (s.odoNotice h b).pending = s.pending := by
  unfold State.odoNotice; dsimp only; (repeat' split) <;> simp
@[simp] theorem State.odoLostNotice_pins (s : State) (p : Pos) : (s.odoLostNotice p).pins = s.pins := by
  unfold State.odoLostNotice; split <;> simp
@[simp] theorem State.odoLostNotice_startup (s : State) (p : Pos) : (s.odoLostNotice p).startup = s.startup := by
  unfold State.odoLostNotice; split <;> simp
@[simp] theorem State.odoLostNotice_floor (s : State) (p : Pos) : (s.odoLostNotice p).floor = s.floor := by
  unfold State.odoLostNotice; split <;> simp
@[simp] theorem State.odoLostNotice_wall (s : State) (p : Pos) : (s.odoLostNotice p).wall = s.wall := by
  unfold State.odoLostNotice; split <;> simp
@[simp] theorem State.odoLostNotice_bump (s : State) (p : Pos) : (s.odoLostNotice p).bump = s.bump := by
  unfold State.odoLostNotice; split <;> simp
@[simp] theorem State.odoLostNotice_drop (s : State) (p : Pos) : (s.odoLostNotice p).drop = s.drop := by
  unfold State.odoLostNotice; split <;> simp
@[simp] theorem State.odoLostNotice_enc (s : State) (p : Pos) : (s.odoLostNotice p).enc = s.enc := by
  unfold State.odoLostNotice; split <;> simp
@[simp] theorem State.odoLostNotice_table (s : State) (p : Pos) : (s.odoLostNotice p).table = s.table := by
  unfold State.odoLostNotice; split <;> simp
@[simp] theorem State.odoLostNotice_report (s : State) (p : Pos) : (s.odoLostNotice p).report = s.report := by
  unfold State.odoLostNotice; split <;> simp
@[simp] theorem State.odoLostNotice_clear (s : State) (p : Pos) : (s.odoLostNotice p).clear = s.clear := by
  unfold State.odoLostNotice; split <;> simp
@[simp] theorem State.odoLostNotice_beacon (s : State) (p : Pos) : (s.odoLostNotice p).beacon = s.beacon := by
  unfold State.odoLostNotice; split <;> simp
@[simp] theorem State.odoLostNotice_peers (s : State) (p : Pos) : (s.odoLostNotice p).peers = s.peers := by
  unfold State.odoLostNotice; split <;> simp
@[simp] theorem State.odoLostNotice_link (s : State) (p : Pos) : (s.odoLostNotice p).link = s.link := by
  unfold State.odoLostNotice; split <;> simp
@[simp] theorem State.odoLostNotice_choices (s : State) (p : Pos) : (s.odoLostNotice p).choices = s.choices := by
  unfold State.odoLostNotice; split <;> simp
@[simp] theorem State.odoLostNotice_pending (s : State) (p : Pos) : (s.odoLostNotice p).pending = s.pending := by
  unfold State.odoLostNotice; split <;> simp
@[simp] theorem State.ownOdometry_pins (s : State) (q : Seq) (d : OdometryData) : (s.ownOdometry q d).pins = s.pins := by
  unfold State.ownOdometry; dsimp only; split <;> simp
@[simp] theorem State.ownOdometry_floor (s : State) (q : Seq) (d : OdometryData) : (s.ownOdometry q d).floor = s.floor := by
  unfold State.ownOdometry; dsimp only; split <;> simp
@[simp] theorem State.ownOdometry_wall (s : State) (q : Seq) (d : OdometryData) : (s.ownOdometry q d).wall = s.wall := by
  unfold State.ownOdometry; dsimp only; split <;> simp
@[simp] theorem State.ownOdometry_bump (s : State) (q : Seq) (d : OdometryData) : (s.ownOdometry q d).bump = s.bump := by
  unfold State.ownOdometry; dsimp only; split <;> simp
@[simp] theorem State.ownOdometry_drop (s : State) (q : Seq) (d : OdometryData) : (s.ownOdometry q d).drop = s.drop := by
  unfold State.ownOdometry; dsimp only; split <;> simp
@[simp] theorem State.ownOdometry_report (s : State) (q : Seq) (d : OdometryData) : (s.ownOdometry q d).report = s.report := by
  unfold State.ownOdometry; dsimp only; split <;> simp
@[simp] theorem State.ownOdometry_beacon (s : State) (q : Seq) (d : OdometryData) : (s.ownOdometry q d).beacon = s.beacon := by
  unfold State.ownOdometry; dsimp only; split <;> simp
@[simp] theorem State.ownOdometry_peers (s : State) (q : Seq) (d : OdometryData) : (s.ownOdometry q d).peers = s.peers := by
  unfold State.ownOdometry; dsimp only; split <;> simp
@[simp] theorem State.ownOdometry_choices (s : State) (q : Seq) (d : OdometryData) : (s.ownOdometry q d).choices = s.choices := by
  unfold State.ownOdometry; dsimp only; split <;> simp
@[simp] theorem State.ownOdometry_pending (s : State) (q : Seq) (d : OdometryData) : (s.ownOdometry q d).pending = s.pending := by
  unfold State.ownOdometry; dsimp only; split <;> simp
@[simp] theorem State.odoEnterRun_pins (s : State) : s.odoEnterRun.pins = s.pins := rfl
@[simp] theorem State.odoEnterRun_startup (s : State) : s.odoEnterRun.startup = s.startup := rfl
@[simp] theorem State.odoEnterRun_floor (s : State) : s.odoEnterRun.floor = s.floor := rfl
@[simp] theorem State.odoEnterRun_wall (s : State) : s.odoEnterRun.wall = s.wall := rfl
@[simp] theorem State.odoEnterRun_bump (s : State) : s.odoEnterRun.bump = s.bump := rfl
@[simp] theorem State.odoEnterRun_drop (s : State) : s.odoEnterRun.drop = s.drop := rfl
@[simp] theorem State.odoEnterRun_enc (s : State) : s.odoEnterRun.enc = s.enc := rfl
@[simp] theorem State.odoEnterRun_table (s : State) : s.odoEnterRun.table = s.table := rfl
@[simp] theorem State.odoEnterRun_report (s : State) : s.odoEnterRun.report = s.report := rfl
@[simp] theorem State.odoEnterRun_clear (s : State) : s.odoEnterRun.clear = s.clear := rfl
@[simp] theorem State.odoEnterRun_beacon (s : State) : s.odoEnterRun.beacon = s.beacon := rfl
@[simp] theorem State.odoEnterRun_peers (s : State) : s.odoEnterRun.peers = s.peers := rfl
@[simp] theorem State.odoEnterRun_link (s : State) : s.odoEnterRun.link = s.link := rfl
@[simp] theorem State.odoEnterRun_choices (s : State) : s.odoEnterRun.choices = s.choices := rfl
@[simp] theorem State.odoEnterRun_pending (s : State) : s.odoEnterRun.pending = s.pending := rfl
@[simp] theorem State.odoRejoin_pins (s : State) : s.odoRejoin.pins = s.pins := rfl
@[simp] theorem State.odoRejoin_startup (s : State) : s.odoRejoin.startup = s.startup := rfl
@[simp] theorem State.odoRejoin_floor (s : State) : s.odoRejoin.floor = s.floor := rfl
@[simp] theorem State.odoRejoin_wall (s : State) : s.odoRejoin.wall = s.wall := rfl
@[simp] theorem State.odoRejoin_bump (s : State) : s.odoRejoin.bump = s.bump := rfl
@[simp] theorem State.odoRejoin_drop (s : State) : s.odoRejoin.drop = s.drop := rfl
@[simp] theorem State.odoRejoin_enc (s : State) : s.odoRejoin.enc = s.enc := rfl
@[simp] theorem State.odoRejoin_table (s : State) : s.odoRejoin.table = s.table := rfl
@[simp] theorem State.odoRejoin_report (s : State) : s.odoRejoin.report = s.report := rfl
@[simp] theorem State.odoRejoin_clear (s : State) : s.odoRejoin.clear = s.clear := rfl
@[simp] theorem State.odoRejoin_beacon (s : State) : s.odoRejoin.beacon = s.beacon := rfl
@[simp] theorem State.odoRejoin_peers (s : State) : s.odoRejoin.peers = s.peers := rfl
@[simp] theorem State.odoRejoin_link (s : State) : s.odoRejoin.link = s.link := rfl
@[simp] theorem State.odoRejoin_choices (s : State) : s.odoRejoin.choices = s.choices := rfl
@[simp] theorem State.odoRejoin_pending (s : State) : s.odoRejoin.pending = s.pending := rfl
@[simp] theorem State.markResolved_pins (s : State) : s.markResolved.pins = s.pins := rfl
@[simp] theorem State.markResolved_startup (s : State) : s.markResolved.startup = s.startup := rfl
@[simp] theorem State.markResolved_floor (s : State) : s.markResolved.floor = s.floor := rfl
@[simp] theorem State.markResolved_wall (s : State) : s.markResolved.wall = s.wall := rfl
@[simp] theorem State.markResolved_bump (s : State) : s.markResolved.bump = s.bump := rfl
@[simp] theorem State.markResolved_drop (s : State) : s.markResolved.drop = s.drop := rfl
@[simp] theorem State.markResolved_enc (s : State) : s.markResolved.enc = s.enc := rfl
@[simp] theorem State.markResolved_odo (s : State) : s.markResolved.odo = s.odo := rfl
@[simp] theorem State.markResolved_table (s : State) : s.markResolved.table = s.table := rfl
@[simp] theorem State.markResolved_clear (s : State) : s.markResolved.clear = s.clear := rfl
@[simp] theorem State.markResolved_beacon (s : State) : s.markResolved.beacon = s.beacon := rfl
@[simp] theorem State.markResolved_peers (s : State) : s.markResolved.peers = s.peers := rfl
@[simp] theorem State.markResolved_link (s : State) : s.markResolved.link = s.link := rfl
@[simp] theorem State.markResolved_choices (s : State) : s.markResolved.choices = s.choices := rfl
@[simp] theorem State.markResolved_pending (s : State) : s.markResolved.pending = s.pending := rfl
@[simp] theorem State.awaitAnswers_pins (s : State) : s.awaitAnswers.pins = s.pins := by simp [State.awaitAnswers]
@[simp] theorem State.awaitAnswers_floor (s : State) : s.awaitAnswers.floor = s.floor := by simp [State.awaitAnswers]
@[simp] theorem State.awaitAnswers_wall (s : State) : s.awaitAnswers.wall = s.wall := by simp [State.awaitAnswers]
@[simp] theorem State.awaitAnswers_bump (s : State) : s.awaitAnswers.bump = s.bump := by simp [State.awaitAnswers]
@[simp] theorem State.awaitAnswers_drop (s : State) : s.awaitAnswers.drop = s.drop := by simp [State.awaitAnswers]
@[simp] theorem State.awaitAnswers_enc (s : State) : s.awaitAnswers.enc = s.enc := by simp [State.awaitAnswers]
@[simp] theorem State.awaitAnswers_odo (s : State) : s.awaitAnswers.odo = s.odo := by simp [State.awaitAnswers]
@[simp] theorem State.awaitAnswers_table (s : State) : s.awaitAnswers.table = s.table := by simp [State.awaitAnswers]
@[simp] theorem State.awaitAnswers_beacon (s : State) : s.awaitAnswers.beacon = s.beacon := by simp [State.awaitAnswers]
@[simp] theorem State.awaitAnswers_peers (s : State) : s.awaitAnswers.peers = s.peers := by simp [State.awaitAnswers]
@[simp] theorem State.awaitAnswers_choices (s : State) : s.awaitAnswers.choices = s.choices := by simp [State.awaitAnswers]
@[simp] theorem State.awaitAnswers_pending (s : State) : s.awaitAnswers.pending = s.pending := by simp [State.awaitAnswers]
@[simp] theorem State.endCheck_pins (s : State) : s.endCheck.pins = s.pins := by simp [State.endCheck]
@[simp] theorem State.endCheck_floor (s : State) : s.endCheck.floor = s.floor := by simp [State.endCheck]
@[simp] theorem State.endCheck_wall (s : State) : s.endCheck.wall = s.wall := by simp [State.endCheck]
@[simp] theorem State.endCheck_bump (s : State) : s.endCheck.bump = s.bump := by simp [State.endCheck]
@[simp] theorem State.endCheck_drop (s : State) : s.endCheck.drop = s.drop := by simp [State.endCheck]
@[simp] theorem State.endCheck_enc (s : State) : s.endCheck.enc = s.enc := by simp [State.endCheck]
@[simp] theorem State.endCheck_odo (s : State) : s.endCheck.odo = s.odo := by simp [State.endCheck]
@[simp] theorem State.endCheck_table (s : State) : s.endCheck.table = s.table := by simp [State.endCheck]
@[simp] theorem State.endCheck_beacon (s : State) : s.endCheck.beacon = s.beacon := by simp [State.endCheck]
@[simp] theorem State.endCheck_peers (s : State) : s.endCheck.peers = s.peers := by simp [State.endCheck]
@[simp] theorem State.endCheck_choices (s : State) : s.endCheck.choices = s.choices := by simp [State.endCheck]
@[simp] theorem State.endCheck_pending (s : State) : s.endCheck.pending = s.pending := by simp [State.endCheck]
@[simp] theorem State.resolveCheck_pins (s : State) : s.resolveCheck.pins = s.pins := by
  unfold State.resolveCheck; split <;> simp
@[simp] theorem State.resolveCheck_floor (s : State) : s.resolveCheck.floor = s.floor := by
  unfold State.resolveCheck; split <;> simp
@[simp] theorem State.resolveCheck_wall (s : State) : s.resolveCheck.wall = s.wall := by
  unfold State.resolveCheck; split <;> simp
@[simp] theorem State.resolveCheck_bump (s : State) : s.resolveCheck.bump = s.bump := by
  unfold State.resolveCheck; split <;> simp
@[simp] theorem State.resolveCheck_drop (s : State) : s.resolveCheck.drop = s.drop := by
  unfold State.resolveCheck; split <;> simp
@[simp] theorem State.resolveCheck_enc (s : State) : s.resolveCheck.enc = s.enc := by
  unfold State.resolveCheck; split <;> simp
@[simp] theorem State.resolveCheck_odo (s : State) : s.resolveCheck.odo = s.odo := by
  unfold State.resolveCheck; split <;> simp
@[simp] theorem State.resolveCheck_beacon (s : State) : s.resolveCheck.beacon = s.beacon := by
  unfold State.resolveCheck; split <;> simp
@[simp] theorem State.resolveCheck_peers (s : State) : s.resolveCheck.peers = s.peers := by
  unfold State.resolveCheck; split <;> simp
@[simp] theorem State.resolveCheck_choices (s : State) : s.resolveCheck.choices = s.choices := by
  unfold State.resolveCheck; split <;> simp
@[simp] theorem State.resolveCheck_pending (s : State) : s.resolveCheck.pending = s.pending := by
  unfold State.resolveCheck; split <;> simp
@[simp] theorem State.startCheck_pins (s : State) : s.startCheck.pins = s.pins := by
  unfold State.startCheck; dsimp only; (repeat' split) <;> simp
@[simp] theorem State.startCheck_floor (s : State) : s.startCheck.floor = s.floor := by
  unfold State.startCheck; dsimp only; (repeat' split) <;> simp
@[simp] theorem State.startCheck_wall (s : State) : s.startCheck.wall = s.wall := by
  unfold State.startCheck; dsimp only; (repeat' split) <;> simp
@[simp] theorem State.startCheck_bump (s : State) : s.startCheck.bump = s.bump := by
  unfold State.startCheck; dsimp only; (repeat' split) <;> simp
@[simp] theorem State.startCheck_drop (s : State) : s.startCheck.drop = s.drop := by
  unfold State.startCheck; dsimp only; (repeat' split) <;> simp
@[simp] theorem State.startCheck_enc (s : State) : s.startCheck.enc = s.enc := by
  unfold State.startCheck; dsimp only; (repeat' split) <;> simp
@[simp] theorem State.startCheck_odo (s : State) : s.startCheck.odo = s.odo := by
  unfold State.startCheck; dsimp only; (repeat' split) <;> simp
@[simp] theorem State.startCheck_beacon (s : State) : s.startCheck.beacon = s.beacon := by
  unfold State.startCheck; dsimp only; (repeat' split) <;> simp
@[simp] theorem State.startCheck_peers (s : State) : s.startCheck.peers = s.peers := by
  unfold State.startCheck; dsimp only; (repeat' split) <;> simp
@[simp] theorem State.startCheck_choices (s : State) : s.startCheck.choices = s.choices := by
  unfold State.startCheck; dsimp only; (repeat' split) <;> simp
@[simp] theorem State.startCheck_pending (s : State) : s.startCheck.pending = s.pending := by
  unfold State.startCheck; dsimp only; (repeat' split) <;> simp
@[simp] theorem State.decideCheck_pins (s : State) (i : Slot) : (s.decideCheck i).pins = s.pins := by
  unfold State.decideCheck; (repeat' split) <;> simp
@[simp] theorem State.decideCheck_startup (s : State) (i : Slot) : (s.decideCheck i).startup = s.startup := by
  unfold State.decideCheck; (repeat' split) <;> simp
@[simp] theorem State.decideCheck_floor (s : State) (i : Slot) : (s.decideCheck i).floor = s.floor := by
  unfold State.decideCheck; (repeat' split) <;> simp
@[simp] theorem State.decideCheck_wall (s : State) (i : Slot) : (s.decideCheck i).wall = s.wall := by
  unfold State.decideCheck; (repeat' split) <;> simp
@[simp] theorem State.decideCheck_bump (s : State) (i : Slot) : (s.decideCheck i).bump = s.bump := by
  unfold State.decideCheck; (repeat' split) <;> simp
@[simp] theorem State.decideCheck_drop (s : State) (i : Slot) : (s.decideCheck i).drop = s.drop := by
  unfold State.decideCheck; (repeat' split) <;> simp
@[simp] theorem State.decideCheck_enc (s : State) (i : Slot) : (s.decideCheck i).enc = s.enc := by
  unfold State.decideCheck; (repeat' split) <;> simp
@[simp] theorem State.decideCheck_odo (s : State) (i : Slot) : (s.decideCheck i).odo = s.odo := by
  unfold State.decideCheck; (repeat' split) <;> simp
@[simp] theorem State.decideCheck_clear (s : State) (i : Slot) : (s.decideCheck i).clear = s.clear := by
  unfold State.decideCheck; (repeat' split) <;> simp
@[simp] theorem State.decideCheck_beacon (s : State) (i : Slot) : (s.decideCheck i).beacon = s.beacon := by
  unfold State.decideCheck; (repeat' split) <;> simp
@[simp] theorem State.decideCheck_peers (s : State) (i : Slot) : (s.decideCheck i).peers = s.peers := by
  unfold State.decideCheck; (repeat' split) <;> simp
@[simp] theorem State.decideCheck_choices (s : State) (i : Slot) : (s.decideCheck i).choices = s.choices := by
  unfold State.decideCheck; (repeat' split) <;> simp
@[simp] theorem State.decideCheck_pending (s : State) (i : Slot) : (s.decideCheck i).pending = s.pending := by
  unfold State.decideCheck; (repeat' split) <;> simp
@[simp] theorem State.cancelCheck_pins (s : State) : s.cancelCheck.pins = s.pins := by simp [State.cancelCheck]
@[simp] theorem State.cancelCheck_floor (s : State) : s.cancelCheck.floor = s.floor := by simp [State.cancelCheck]
@[simp] theorem State.cancelCheck_wall (s : State) : s.cancelCheck.wall = s.wall := by simp [State.cancelCheck]
@[simp] theorem State.cancelCheck_bump (s : State) : s.cancelCheck.bump = s.bump := by simp [State.cancelCheck]
@[simp] theorem State.cancelCheck_drop (s : State) : s.cancelCheck.drop = s.drop := by simp [State.cancelCheck]
@[simp] theorem State.cancelCheck_enc (s : State) : s.cancelCheck.enc = s.enc := by simp [State.cancelCheck]
@[simp] theorem State.cancelCheck_odo (s : State) : s.cancelCheck.odo = s.odo := by simp [State.cancelCheck]
@[simp] theorem State.cancelCheck_beacon (s : State) : s.cancelCheck.beacon = s.beacon := by simp [State.cancelCheck]
@[simp] theorem State.cancelCheck_peers (s : State) : s.cancelCheck.peers = s.peers := by simp [State.cancelCheck]
@[simp] theorem State.cancelCheck_choices (s : State) : s.cancelCheck.choices = s.choices := by simp [State.cancelCheck]
@[simp] theorem State.cancelCheck_pending (s : State) : s.cancelCheck.pending = s.pending := by simp [State.cancelCheck]
@[simp] theorem State.dropDeferral_pins (s : State) : s.dropDeferral.pins = s.pins := by
  unfold State.dropDeferral; split <;> simp
@[simp] theorem State.dropDeferral_startup (s : State) : s.dropDeferral.startup = s.startup := by
  unfold State.dropDeferral; split <;> simp
@[simp] theorem State.dropDeferral_floor (s : State) : s.dropDeferral.floor = s.floor := by
  unfold State.dropDeferral; split <;> simp
@[simp] theorem State.dropDeferral_wall (s : State) : s.dropDeferral.wall = s.wall := by
  unfold State.dropDeferral; split <;> simp
@[simp] theorem State.dropDeferral_bump (s : State) : s.dropDeferral.bump = s.bump := by
  unfold State.dropDeferral; split <;> simp
@[simp] theorem State.dropDeferral_drop (s : State) : s.dropDeferral.drop = s.drop := by
  unfold State.dropDeferral; split <;> simp
@[simp] theorem State.dropDeferral_enc (s : State) : s.dropDeferral.enc = s.enc := by
  unfold State.dropDeferral; split <;> simp
@[simp] theorem State.dropDeferral_odo (s : State) : s.dropDeferral.odo = s.odo := by
  unfold State.dropDeferral; split <;> simp
@[simp] theorem State.dropDeferral_table (s : State) : s.dropDeferral.table = s.table := by
  unfold State.dropDeferral; split <;> simp
@[simp] theorem State.dropDeferral_clear (s : State) : s.dropDeferral.clear = s.clear := by
  unfold State.dropDeferral; split <;> simp
@[simp] theorem State.dropDeferral_beacon (s : State) : s.dropDeferral.beacon = s.beacon := by
  unfold State.dropDeferral; split <;> simp
@[simp] theorem State.dropDeferral_peers (s : State) : s.dropDeferral.peers = s.peers := by
  unfold State.dropDeferral; split <;> simp
@[simp] theorem State.dropDeferral_link (s : State) : s.dropDeferral.link = s.link := by
  unfold State.dropDeferral; split <;> simp
@[simp] theorem State.dropDeferral_choices (s : State) : s.dropDeferral.choices = s.choices := by
  unfold State.dropDeferral; split <;> simp
@[simp] theorem State.dropDeferral_pending (s : State) : s.dropDeferral.pending = s.pending := by
  unfold State.dropDeferral; split <;> simp
@[simp] theorem State.reportLostNotice_pins (s : State) (p : Pos) : (s.reportLostNotice p).pins = s.pins := by
  unfold State.reportLostNotice; dsimp only; (repeat' split) <;> simp
@[simp] theorem State.reportLostNotice_floor (s : State) (p : Pos) : (s.reportLostNotice p).floor = s.floor := by
  unfold State.reportLostNotice; dsimp only; (repeat' split) <;> simp
@[simp] theorem State.reportLostNotice_wall (s : State) (p : Pos) : (s.reportLostNotice p).wall = s.wall := by
  unfold State.reportLostNotice; dsimp only; (repeat' split) <;> simp
@[simp] theorem State.reportLostNotice_bump (s : State) (p : Pos) : (s.reportLostNotice p).bump = s.bump := by
  unfold State.reportLostNotice; dsimp only; (repeat' split) <;> simp
@[simp] theorem State.reportLostNotice_drop (s : State) (p : Pos) : (s.reportLostNotice p).drop = s.drop := by
  unfold State.reportLostNotice; dsimp only; (repeat' split) <;> simp
@[simp] theorem State.reportLostNotice_enc (s : State) (p : Pos) : (s.reportLostNotice p).enc = s.enc := by
  unfold State.reportLostNotice; dsimp only; (repeat' split) <;> simp
@[simp] theorem State.reportLostNotice_odo (s : State) (p : Pos) : (s.reportLostNotice p).odo = s.odo := by
  unfold State.reportLostNotice; dsimp only; (repeat' split) <;> simp
@[simp] theorem State.reportLostNotice_beacon (s : State) (p : Pos) : (s.reportLostNotice p).beacon = s.beacon := by
  unfold State.reportLostNotice; dsimp only; (repeat' split) <;> simp
@[simp] theorem State.reportLostNotice_peers (s : State) (p : Pos) : (s.reportLostNotice p).peers = s.peers := by
  unfold State.reportLostNotice; dsimp only; (repeat' split) <;> simp
@[simp] theorem State.reportLostNotice_choices (s : State) (p : Pos) : (s.reportLostNotice p).choices = s.choices := by
  unfold State.reportLostNotice; dsimp only; (repeat' split) <;> simp
@[simp] theorem State.reportLostNotice_pending (s : State) (p : Pos) : (s.reportLostNotice p).pending = s.pending := by
  unfold State.reportLostNotice; dsimp only; (repeat' split) <;> simp
@[simp] theorem State.answerBlock_pins (s : State) (h : Head) (d : CheckAnswerData) : (s.answerBlock h d).pins = s.pins := by
  unfold State.answerBlock; dsimp only; (repeat' split) <;> simp
@[simp] theorem State.answerBlock_floor (s : State) (h : Head) (d : CheckAnswerData) : (s.answerBlock h d).floor = s.floor := by
  unfold State.answerBlock; dsimp only; (repeat' split) <;> simp
@[simp] theorem State.answerBlock_wall (s : State) (h : Head) (d : CheckAnswerData) : (s.answerBlock h d).wall = s.wall := by
  unfold State.answerBlock; dsimp only; (repeat' split) <;> simp
@[simp] theorem State.answerBlock_bump (s : State) (h : Head) (d : CheckAnswerData) : (s.answerBlock h d).bump = s.bump := by
  unfold State.answerBlock; dsimp only; (repeat' split) <;> simp
@[simp] theorem State.answerBlock_drop (s : State) (h : Head) (d : CheckAnswerData) : (s.answerBlock h d).drop = s.drop := by
  unfold State.answerBlock; dsimp only; (repeat' split) <;> simp
@[simp] theorem State.answerBlock_enc (s : State) (h : Head) (d : CheckAnswerData) : (s.answerBlock h d).enc = s.enc := by
  unfold State.answerBlock; dsimp only; (repeat' split) <;> simp
@[simp] theorem State.answerBlock_odo (s : State) (h : Head) (d : CheckAnswerData) : (s.answerBlock h d).odo = s.odo := by
  unfold State.answerBlock; dsimp only; (repeat' split) <;> simp
@[simp] theorem State.answerBlock_beacon (s : State) (h : Head) (d : CheckAnswerData) : (s.answerBlock h d).beacon = s.beacon := by
  unfold State.answerBlock; dsimp only; (repeat' split) <;> simp
@[simp] theorem State.answerBlock_peers (s : State) (h : Head) (d : CheckAnswerData) : (s.answerBlock h d).peers = s.peers := by
  unfold State.answerBlock; dsimp only; (repeat' split) <;> simp
@[simp] theorem State.answerBlock_choices (s : State) (h : Head) (d : CheckAnswerData) : (s.answerBlock h d).choices = s.choices := by
  unfold State.answerBlock; dsimp only; (repeat' split) <;> simp
@[simp] theorem State.answerBlock_pending (s : State) (h : Head) (d : CheckAnswerData) : (s.answerBlock h d).pending = s.pending := by
  unfold State.answerBlock; dsimp only; (repeat' split) <;> simp

end Sys2Proof.Machine
end

