-- ==== Sys2Proof/Laws/TableFrame.lean ====
section
/-! SUPPORT. The blocks that the service of an item leaves unchanged. -/

namespace Sys2Proof.Machine

open Sys2Proof

@[simp] theorem State.placeRecord_pins (s : State) (r : Record) : (s.placeRecord r).1.pins = s.pins := by
  unfold State.placeRecord; split
  · simp
  · split <;> simp
@[simp] theorem State.placeRecord_floor (s : State) (r : Record) : (s.placeRecord r).1.floor = s.floor := by
  unfold State.placeRecord; split
  · simp
  · split <;> simp
@[simp] theorem State.placeRecord_wall (s : State) (r : Record) : (s.placeRecord r).1.wall = s.wall := by
  unfold State.placeRecord; split
  · simp
  · split <;> simp
@[simp] theorem State.placeRecord_bump (s : State) (r : Record) : (s.placeRecord r).1.bump = s.bump := by
  unfold State.placeRecord; split
  · simp
  · split <;> simp
@[simp] theorem State.placeRecord_drop (s : State) (r : Record) : (s.placeRecord r).1.drop = s.drop := by
  unfold State.placeRecord; split
  · simp
  · split <;> simp
@[simp] theorem State.placeRecord_enc (s : State) (r : Record) : (s.placeRecord r).1.enc = s.enc := by
  unfold State.placeRecord; split
  · simp
  · split <;> simp
@[simp] theorem State.placeRecord_odo (s : State) (r : Record) : (s.placeRecord r).1.odo = s.odo := by
  unfold State.placeRecord; split
  · simp
  · split <;> simp
@[simp] theorem State.placeRecord_report (s : State) (r : Record) : (s.placeRecord r).1.report = s.report := by
  unfold State.placeRecord; split
  · simp
  · split <;> simp
@[simp] theorem State.placeRecord_beacon (s : State) (r : Record) : (s.placeRecord r).1.beacon = s.beacon := by
  unfold State.placeRecord; split
  · simp
  · split <;> simp
@[simp] theorem State.placeRecord_peers (s : State) (r : Record) : (s.placeRecord r).1.peers = s.peers := by
  unfold State.placeRecord; split
  · simp
  · split <;> simp
@[simp] theorem State.placeRecord_choices (s : State) (r : Record) : (s.placeRecord r).1.choices = s.choices := by
  unfold State.placeRecord; split
  · simp
  · split <;> simp
@[simp] theorem State.placeRecord_pending (s : State) (r : Record) : (s.placeRecord r).1.pending = s.pending := by
  unfold State.placeRecord; split
  · simp
  · split <;> simp
@[simp] theorem State.mergeOrCreate_pins (s : State) (k : Hazard) (o : Origin) (p : Int × Int) (rc : Recon) : (s.mergeOrCreate k o p rc).state.pins = s.pins := by simp only [State.mergeOrCreate]; split <;> simp
@[simp] theorem State.mergeOrCreate_floor (s : State) (k : Hazard) (o : Origin) (p : Int × Int) (rc : Recon) : (s.mergeOrCreate k o p rc).state.floor = s.floor := by simp only [State.mergeOrCreate]; split <;> simp
@[simp] theorem State.mergeOrCreate_wall (s : State) (k : Hazard) (o : Origin) (p : Int × Int) (rc : Recon) : (s.mergeOrCreate k o p rc).state.wall = s.wall := by simp only [State.mergeOrCreate]; split <;> simp
@[simp] theorem State.mergeOrCreate_bump (s : State) (k : Hazard) (o : Origin) (p : Int × Int) (rc : Recon) : (s.mergeOrCreate k o p rc).state.bump = s.bump := by simp only [State.mergeOrCreate]; split <;> simp
@[simp] theorem State.mergeOrCreate_drop (s : State) (k : Hazard) (o : Origin) (p : Int × Int) (rc : Recon) : (s.mergeOrCreate k o p rc).state.drop = s.drop := by simp only [State.mergeOrCreate]; split <;> simp
@[simp] theorem State.mergeOrCreate_enc (s : State) (k : Hazard) (o : Origin) (p : Int × Int) (rc : Recon) : (s.mergeOrCreate k o p rc).state.enc = s.enc := by simp only [State.mergeOrCreate]; split <;> simp
@[simp] theorem State.mergeOrCreate_odo (s : State) (k : Hazard) (o : Origin) (p : Int × Int) (rc : Recon) : (s.mergeOrCreate k o p rc).state.odo = s.odo := by simp only [State.mergeOrCreate]; split <;> simp
@[simp] theorem State.mergeOrCreate_report (s : State) (k : Hazard) (o : Origin) (p : Int × Int) (rc : Recon) : (s.mergeOrCreate k o p rc).state.report = s.report := by simp only [State.mergeOrCreate]; split <;> simp
@[simp] theorem State.mergeOrCreate_beacon (s : State) (k : Hazard) (o : Origin) (p : Int × Int) (rc : Recon) : (s.mergeOrCreate k o p rc).state.beacon = s.beacon := by simp only [State.mergeOrCreate]; split <;> simp
@[simp] theorem State.mergeOrCreate_peers (s : State) (k : Hazard) (o : Origin) (p : Int × Int) (rc : Recon) : (s.mergeOrCreate k o p rc).state.peers = s.peers := by simp only [State.mergeOrCreate]; split <;> simp
@[simp] theorem State.mergeOrCreate_choices (s : State) (k : Hazard) (o : Origin) (p : Int × Int) (rc : Recon) : (s.mergeOrCreate k o p rc).state.choices = s.choices := by simp only [State.mergeOrCreate]; split <;> simp
@[simp] theorem State.mergeOrCreate_pending (s : State) (k : Hazard) (o : Origin) (p : Int × Int) (rc : Recon) : (s.mergeOrCreate k o p rc).state.pending = s.pending := by simp only [State.mergeOrCreate]; split <;> simp
@[simp] theorem State.serveOwn_pins (s : State) (k : Hazard) (o : Origin) (x y : Int) (t : Option Seq) : (s.serveOwn k o x y t).state.pins = s.pins := by
  unfold State.serveOwn; dsimp only; (repeat' split) <;> simp
@[simp] theorem State.serveOwn_floor (s : State) (k : Hazard) (o : Origin) (x y : Int) (t : Option Seq) : (s.serveOwn k o x y t).state.floor = s.floor := by
  unfold State.serveOwn; dsimp only; (repeat' split) <;> simp
@[simp] theorem State.serveOwn_wall (s : State) (k : Hazard) (o : Origin) (x y : Int) (t : Option Seq) : (s.serveOwn k o x y t).state.wall = s.wall := by
  unfold State.serveOwn; dsimp only; (repeat' split) <;> simp
@[simp] theorem State.serveOwn_bump (s : State) (k : Hazard) (o : Origin) (x y : Int) (t : Option Seq) : (s.serveOwn k o x y t).state.bump = s.bump := by
  unfold State.serveOwn; dsimp only; (repeat' split) <;> simp
@[simp] theorem State.serveOwn_drop (s : State) (k : Hazard) (o : Origin) (x y : Int) (t : Option Seq) : (s.serveOwn k o x y t).state.drop = s.drop := by
  unfold State.serveOwn; dsimp only; (repeat' split) <;> simp
@[simp] theorem State.serveOwn_enc (s : State) (k : Hazard) (o : Origin) (x y : Int) (t : Option Seq) : (s.serveOwn k o x y t).state.enc = s.enc := by
  unfold State.serveOwn; dsimp only; (repeat' split) <;> simp
@[simp] theorem State.serveOwn_odo (s : State) (k : Hazard) (o : Origin) (x y : Int) (t : Option Seq) : (s.serveOwn k o x y t).state.odo = s.odo := by
  unfold State.serveOwn; dsimp only; (repeat' split) <;> simp
@[simp] theorem State.serveOwn_report (s : State) (k : Hazard) (o : Origin) (x y : Int) (t : Option Seq) : (s.serveOwn k o x y t).state.report = s.report := by
  unfold State.serveOwn; dsimp only; (repeat' split) <;> simp
@[simp] theorem State.serveOwn_beacon (s : State) (k : Hazard) (o : Origin) (x y : Int) (t : Option Seq) : (s.serveOwn k o x y t).state.beacon = s.beacon := by
  unfold State.serveOwn; dsimp only; (repeat' split) <;> simp
@[simp] theorem State.serveOwn_peers (s : State) (k : Hazard) (o : Origin) (x y : Int) (t : Option Seq) : (s.serveOwn k o x y t).state.peers = s.peers := by
  unfold State.serveOwn; dsimp only; (repeat' split) <;> simp
@[simp] theorem State.serveOwn_choices (s : State) (k : Hazard) (o : Origin) (x y : Int) (t : Option Seq) : (s.serveOwn k o x y t).state.choices = s.choices := by
  unfold State.serveOwn; dsimp only; (repeat' split) <;> simp
@[simp] theorem State.serveOwn_pending (s : State) (k : Hazard) (o : Origin) (x y : Int) (t : Option Seq) : (s.serveOwn k o x y t).state.pending = s.pending := by
  unfold State.serveOwn; dsimp only; (repeat' split) <;> simp
@[simp] theorem State.overruleClass_pins (s : State) : s.overruleClass.pins = s.pins := by simp [State.overruleClass]
@[simp] theorem State.overruleClass_wall (s : State) : s.overruleClass.wall = s.wall := by simp [State.overruleClass]
@[simp] theorem State.overruleClass_bump (s : State) : s.overruleClass.bump = s.bump := by simp [State.overruleClass]
@[simp] theorem State.overruleClass_drop (s : State) : s.overruleClass.drop = s.drop := by simp [State.overruleClass]
@[simp] theorem State.overruleClass_enc (s : State) : s.overruleClass.enc = s.enc := by simp [State.overruleClass]
@[simp] theorem State.overruleClass_odo (s : State) : s.overruleClass.odo = s.odo := by simp [State.overruleClass]
@[simp] theorem State.overruleClass_table (s : State) : s.overruleClass.table = s.table := by simp [State.overruleClass]
@[simp] theorem State.overruleClass_report (s : State) : s.overruleClass.report = s.report := by simp [State.overruleClass]
@[simp] theorem State.overruleClass_beacon (s : State) : s.overruleClass.beacon = s.beacon := by simp [State.overruleClass]
@[simp] theorem State.overruleClass_peers (s : State) : s.overruleClass.peers = s.peers := by simp [State.overruleClass]
@[simp] theorem State.overruleClass_choices (s : State) : s.overruleClass.choices = s.choices := by simp [State.overruleClass]
@[simp] theorem State.overruleClass_pending (s : State) : s.overruleClass.pending = s.pending := by simp [State.overruleClass]
@[simp] theorem State.serveCliff_pins (s : State) (o : Origin) (x y : Int) (t : Option Seq) : (s.serveCliff o x y t).state.pins = s.pins := by
  unfold State.serveCliff; dsimp only; (repeat' split) <;> simp
@[simp] theorem State.serveCliff_wall (s : State) (o : Origin) (x y : Int) (t : Option Seq) : (s.serveCliff o x y t).state.wall = s.wall := by
  unfold State.serveCliff; dsimp only; (repeat' split) <;> simp
@[simp] theorem State.serveCliff_bump (s : State) (o : Origin) (x y : Int) (t : Option Seq) : (s.serveCliff o x y t).state.bump = s.bump := by
  unfold State.serveCliff; dsimp only; (repeat' split) <;> simp
@[simp] theorem State.serveCliff_drop (s : State) (o : Origin) (x y : Int) (t : Option Seq) : (s.serveCliff o x y t).state.drop = s.drop := by
  unfold State.serveCliff; dsimp only; (repeat' split) <;> simp
@[simp] theorem State.serveCliff_enc (s : State) (o : Origin) (x y : Int) (t : Option Seq) : (s.serveCliff o x y t).state.enc = s.enc := by
  unfold State.serveCliff; dsimp only; (repeat' split) <;> simp
@[simp] theorem State.serveCliff_odo (s : State) (o : Origin) (x y : Int) (t : Option Seq) : (s.serveCliff o x y t).state.odo = s.odo := by
  unfold State.serveCliff; dsimp only; (repeat' split) <;> simp
@[simp] theorem State.serveCliff_beacon (s : State) (o : Origin) (x y : Int) (t : Option Seq) : (s.serveCliff o x y t).state.beacon = s.beacon := by
  unfold State.serveCliff; dsimp only; (repeat' split) <;> simp
@[simp] theorem State.serveCliff_peers (s : State) (o : Origin) (x y : Int) (t : Option Seq) : (s.serveCliff o x y t).state.peers = s.peers := by
  unfold State.serveCliff; dsimp only; (repeat' split) <;> simp
@[simp] theorem State.serveCliff_choices (s : State) (o : Origin) (x y : Int) (t : Option Seq) : (s.serveCliff o x y t).state.choices = s.choices := by
  unfold State.serveCliff; dsimp only; (repeat' split) <;> simp
@[simp] theorem State.serveCliff_pending (s : State) (o : Origin) (x y : Int) (t : Option Seq) : (s.serveCliff o x y t).state.pending = s.pending := by
  unfold State.serveCliff; dsimp only; (repeat' split) <;> simp
@[simp] theorem State.serveEvidence_pins (s : State) (k : Option Hazard) (o : Origin) (x y : Int) (t : Option Seq) : (s.serveEvidence k o x y t).state.pins = s.pins := by
  unfold State.serveEvidence; dsimp only; (repeat' split) <;> simp
@[simp] theorem State.serveEvidence_floor (s : State) (k : Option Hazard) (o : Origin) (x y : Int) (t : Option Seq) : (s.serveEvidence k o x y t).state.floor = s.floor := by
  unfold State.serveEvidence; dsimp only; (repeat' split) <;> simp
@[simp] theorem State.serveEvidence_wall (s : State) (k : Option Hazard) (o : Origin) (x y : Int) (t : Option Seq) : (s.serveEvidence k o x y t).state.wall = s.wall := by
  unfold State.serveEvidence; dsimp only; (repeat' split) <;> simp
@[simp] theorem State.serveEvidence_bump (s : State) (k : Option Hazard) (o : Origin) (x y : Int) (t : Option Seq) : (s.serveEvidence k o x y t).state.bump = s.bump := by
  unfold State.serveEvidence; dsimp only; (repeat' split) <;> simp
@[simp] theorem State.serveEvidence_drop (s : State) (k : Option Hazard) (o : Origin) (x y : Int) (t : Option Seq) : (s.serveEvidence k o x y t).state.drop = s.drop := by
  unfold State.serveEvidence; dsimp only; (repeat' split) <;> simp
@[simp] theorem State.serveEvidence_enc (s : State) (k : Option Hazard) (o : Origin) (x y : Int) (t : Option Seq) : (s.serveEvidence k o x y t).state.enc = s.enc := by
  unfold State.serveEvidence; dsimp only; (repeat' split) <;> simp
@[simp] theorem State.serveEvidence_odo (s : State) (k : Option Hazard) (o : Origin) (x y : Int) (t : Option Seq) : (s.serveEvidence k o x y t).state.odo = s.odo := by
  unfold State.serveEvidence; dsimp only; (repeat' split) <;> simp
@[simp] theorem State.serveEvidence_report (s : State) (k : Option Hazard) (o : Origin) (x y : Int) (t : Option Seq) : (s.serveEvidence k o x y t).state.report = s.report := by
  unfold State.serveEvidence; dsimp only; (repeat' split) <;> simp
@[simp] theorem State.serveEvidence_beacon (s : State) (k : Option Hazard) (o : Origin) (x y : Int) (t : Option Seq) : (s.serveEvidence k o x y t).state.beacon = s.beacon := by
  unfold State.serveEvidence; dsimp only; (repeat' split) <;> simp
@[simp] theorem State.serveEvidence_peers (s : State) (k : Option Hazard) (o : Origin) (x y : Int) (t : Option Seq) : (s.serveEvidence k o x y t).state.peers = s.peers := by
  unfold State.serveEvidence; dsimp only; (repeat' split) <;> simp
@[simp] theorem State.serveEvidence_choices (s : State) (k : Option Hazard) (o : Origin) (x y : Int) (t : Option Seq) : (s.serveEvidence k o x y t).state.choices = s.choices := by
  unfold State.serveEvidence; dsimp only; (repeat' split) <;> simp
@[simp] theorem State.serveEvidence_pending (s : State) (k : Option Hazard) (o : Origin) (x y : Int) (t : Option Seq) : (s.serveEvidence k o x y t).state.pending = s.pending := by
  unfold State.serveEvidence; dsimp only; (repeat' split) <;> simp
@[simp] theorem State.serveClear_pins (s : State) (mx my ax ay : Int) : (s.serveClear mx my ax ay).state.pins = s.pins := rfl
@[simp] theorem State.serveClear_startup (s : State) (mx my ax ay : Int) : (s.serveClear mx my ax ay).state.startup = s.startup := rfl
@[simp] theorem State.serveClear_floor (s : State) (mx my ax ay : Int) : (s.serveClear mx my ax ay).state.floor = s.floor := rfl
@[simp] theorem State.serveClear_wall (s : State) (mx my ax ay : Int) : (s.serveClear mx my ax ay).state.wall = s.wall := rfl
@[simp] theorem State.serveClear_bump (s : State) (mx my ax ay : Int) : (s.serveClear mx my ax ay).state.bump = s.bump := rfl
@[simp] theorem State.serveClear_drop (s : State) (mx my ax ay : Int) : (s.serveClear mx my ax ay).state.drop = s.drop := rfl
@[simp] theorem State.serveClear_enc (s : State) (mx my ax ay : Int) : (s.serveClear mx my ax ay).state.enc = s.enc := rfl
@[simp] theorem State.serveClear_odo (s : State) (mx my ax ay : Int) : (s.serveClear mx my ax ay).state.odo = s.odo := rfl
@[simp] theorem State.serveClear_report (s : State) (mx my ax ay : Int) : (s.serveClear mx my ax ay).state.report = s.report := rfl
@[simp] theorem State.serveClear_clear (s : State) (mx my ax ay : Int) : (s.serveClear mx my ax ay).state.clear = s.clear := rfl
@[simp] theorem State.serveClear_beacon (s : State) (mx my ax ay : Int) : (s.serveClear mx my ax ay).state.beacon = s.beacon := rfl
@[simp] theorem State.serveClear_peers (s : State) (mx my ax ay : Int) : (s.serveClear mx my ax ay).state.peers = s.peers := rfl
@[simp] theorem State.serveClear_link (s : State) (mx my ax ay : Int) : (s.serveClear mx my ax ay).state.link = s.link := rfl
@[simp] theorem State.serveClear_choices (s : State) (mx my ax ay : Int) : (s.serveClear mx my ax ay).state.choices = s.choices := rfl
@[simp] theorem State.serveClear_pending (s : State) (mx my ax ay : Int) : (s.serveClear mx my ax ay).state.pending = s.pending := rfl
@[simp] theorem State.addPeer_pins (s : State) (r : PeerReport) (rc : Recon) : (s.addPeer r rc).pins = s.pins := by
  unfold State.addPeer; dsimp only; (repeat' split) <;> simp
@[simp] theorem State.addPeer_floor (s : State) (r : PeerReport) (rc : Recon) : (s.addPeer r rc).floor = s.floor := by
  unfold State.addPeer; dsimp only; (repeat' split) <;> simp
@[simp] theorem State.addPeer_wall (s : State) (r : PeerReport) (rc : Recon) : (s.addPeer r rc).wall = s.wall := by
  unfold State.addPeer; dsimp only; (repeat' split) <;> simp
@[simp] theorem State.addPeer_bump (s : State) (r : PeerReport) (rc : Recon) : (s.addPeer r rc).bump = s.bump := by
  unfold State.addPeer; dsimp only; (repeat' split) <;> simp
@[simp] theorem State.addPeer_drop (s : State) (r : PeerReport) (rc : Recon) : (s.addPeer r rc).drop = s.drop := by
  unfold State.addPeer; dsimp only; (repeat' split) <;> simp
@[simp] theorem State.addPeer_enc (s : State) (r : PeerReport) (rc : Recon) : (s.addPeer r rc).enc = s.enc := by
  unfold State.addPeer; dsimp only; (repeat' split) <;> simp
@[simp] theorem State.addPeer_odo (s : State) (r : PeerReport) (rc : Recon) : (s.addPeer r rc).odo = s.odo := by
  unfold State.addPeer; dsimp only; (repeat' split) <;> simp
@[simp] theorem State.addPeer_report (s : State) (r : PeerReport) (rc : Recon) : (s.addPeer r rc).report = s.report := by
  unfold State.addPeer; dsimp only; (repeat' split) <;> simp
@[simp] theorem State.addPeer_beacon (s : State) (r : PeerReport) (rc : Recon) : (s.addPeer r rc).beacon = s.beacon := by
  unfold State.addPeer; dsimp only; (repeat' split) <;> simp
@[simp] theorem State.addPeer_peers (s : State) (r : PeerReport) (rc : Recon) : (s.addPeer r rc).peers = s.peers := by
  unfold State.addPeer; dsimp only; (repeat' split) <;> simp
@[simp] theorem State.addPeer_choices (s : State) (r : PeerReport) (rc : Recon) : (s.addPeer r rc).choices = s.choices := by
  unfold State.addPeer; dsimp only; (repeat' split) <;> simp
@[simp] theorem State.addPeer_pending (s : State) (r : PeerReport) (rc : Recon) : (s.addPeer r rc).pending = s.pending := by
  unfold State.addPeer; dsimp only; (repeat' split) <;> simp
@[simp] theorem State.serveAdd_pins (s : State) (r : PeerReport) : (s.serveAdd r).state.pins = s.pins := by simp only [State.serveAdd]; split <;> simp
@[simp] theorem State.serveAdd_floor (s : State) (r : PeerReport) : (s.serveAdd r).state.floor = s.floor := by simp only [State.serveAdd]; split <;> simp
@[simp] theorem State.serveAdd_wall (s : State) (r : PeerReport) : (s.serveAdd r).state.wall = s.wall := by simp only [State.serveAdd]; split <;> simp
@[simp] theorem State.serveAdd_bump (s : State) (r : PeerReport) : (s.serveAdd r).state.bump = s.bump := by simp only [State.serveAdd]; split <;> simp
@[simp] theorem State.serveAdd_drop (s : State) (r : PeerReport) : (s.serveAdd r).state.drop = s.drop := by simp only [State.serveAdd]; split <;> simp
@[simp] theorem State.serveAdd_enc (s : State) (r : PeerReport) : (s.serveAdd r).state.enc = s.enc := by simp only [State.serveAdd]; split <;> simp
@[simp] theorem State.serveAdd_odo (s : State) (r : PeerReport) : (s.serveAdd r).state.odo = s.odo := by simp only [State.serveAdd]; split <;> simp
@[simp] theorem State.serveAdd_report (s : State) (r : PeerReport) : (s.serveAdd r).state.report = s.report := by simp only [State.serveAdd]; split <;> simp
@[simp] theorem State.serveAdd_beacon (s : State) (r : PeerReport) : (s.serveAdd r).state.beacon = s.beacon := by simp only [State.serveAdd]; split <;> simp
@[simp] theorem State.serveAdd_peers (s : State) (r : PeerReport) : (s.serveAdd r).state.peers = s.peers := by simp only [State.serveAdd]; split <;> simp
@[simp] theorem State.serveAdd_choices (s : State) (r : PeerReport) : (s.serveAdd r).state.choices = s.choices := by simp only [State.serveAdd]; split <;> simp
@[simp] theorem State.serveAdd_pending (s : State) (r : PeerReport) : (s.serveAdd r).state.pending = s.pending := by simp only [State.serveAdd]; split <;> simp
@[simp] theorem State.serveUpdate_pins (s : State) (r : PeerReport) : (s.serveUpdate r).state.pins = s.pins := by
  unfold State.serveUpdate; dsimp only; (repeat' split) <;> simp
@[simp] theorem State.serveUpdate_floor (s : State) (r : PeerReport) : (s.serveUpdate r).state.floor = s.floor := by
  unfold State.serveUpdate; dsimp only; (repeat' split) <;> simp
@[simp] theorem State.serveUpdate_wall (s : State) (r : PeerReport) : (s.serveUpdate r).state.wall = s.wall := by
  unfold State.serveUpdate; dsimp only; (repeat' split) <;> simp
@[simp] theorem State.serveUpdate_bump (s : State) (r : PeerReport) : (s.serveUpdate r).state.bump = s.bump := by
  unfold State.serveUpdate; dsimp only; (repeat' split) <;> simp
@[simp] theorem State.serveUpdate_drop (s : State) (r : PeerReport) : (s.serveUpdate r).state.drop = s.drop := by
  unfold State.serveUpdate; dsimp only; (repeat' split) <;> simp
@[simp] theorem State.serveUpdate_enc (s : State) (r : PeerReport) : (s.serveUpdate r).state.enc = s.enc := by
  unfold State.serveUpdate; dsimp only; (repeat' split) <;> simp
@[simp] theorem State.serveUpdate_odo (s : State) (r : PeerReport) : (s.serveUpdate r).state.odo = s.odo := by
  unfold State.serveUpdate; dsimp only; (repeat' split) <;> simp
@[simp] theorem State.serveUpdate_report (s : State) (r : PeerReport) : (s.serveUpdate r).state.report = s.report := by
  unfold State.serveUpdate; dsimp only; (repeat' split) <;> simp
@[simp] theorem State.serveUpdate_beacon (s : State) (r : PeerReport) : (s.serveUpdate r).state.beacon = s.beacon := by
  unfold State.serveUpdate; dsimp only; (repeat' split) <;> simp
@[simp] theorem State.serveUpdate_peers (s : State) (r : PeerReport) : (s.serveUpdate r).state.peers = s.peers := by
  unfold State.serveUpdate; dsimp only; (repeat' split) <;> simp
@[simp] theorem State.serveUpdate_choices (s : State) (r : PeerReport) : (s.serveUpdate r).state.choices = s.choices := by
  unfold State.serveUpdate; dsimp only; (repeat' split) <;> simp
@[simp] theorem State.serveUpdate_pending (s : State) (r : PeerReport) : (s.serveUpdate r).state.pending = s.pending := by
  unfold State.serveUpdate; dsimp only; (repeat' split) <;> simp
@[simp] theorem State.serveWithdraw_pins (s : State) (r : PeerReport) : (s.serveWithdraw r).state.pins = s.pins := rfl
@[simp] theorem State.serveWithdraw_startup (s : State) (r : PeerReport) : (s.serveWithdraw r).state.startup = s.startup := rfl
@[simp] theorem State.serveWithdraw_floor (s : State) (r : PeerReport) : (s.serveWithdraw r).state.floor = s.floor := rfl
@[simp] theorem State.serveWithdraw_wall (s : State) (r : PeerReport) : (s.serveWithdraw r).state.wall = s.wall := rfl
@[simp] theorem State.serveWithdraw_bump (s : State) (r : PeerReport) : (s.serveWithdraw r).state.bump = s.bump := rfl
@[simp] theorem State.serveWithdraw_drop (s : State) (r : PeerReport) : (s.serveWithdraw r).state.drop = s.drop := rfl
@[simp] theorem State.serveWithdraw_enc (s : State) (r : PeerReport) : (s.serveWithdraw r).state.enc = s.enc := rfl
@[simp] theorem State.serveWithdraw_odo (s : State) (r : PeerReport) : (s.serveWithdraw r).state.odo = s.odo := rfl
@[simp] theorem State.serveWithdraw_report (s : State) (r : PeerReport) : (s.serveWithdraw r).state.report = s.report := rfl
@[simp] theorem State.serveWithdraw_clear (s : State) (r : PeerReport) : (s.serveWithdraw r).state.clear = s.clear := rfl
@[simp] theorem State.serveWithdraw_beacon (s : State) (r : PeerReport) : (s.serveWithdraw r).state.beacon = s.beacon := rfl
@[simp] theorem State.serveWithdraw_peers (s : State) (r : PeerReport) : (s.serveWithdraw r).state.peers = s.peers := rfl
@[simp] theorem State.serveWithdraw_link (s : State) (r : PeerReport) : (s.serveWithdraw r).state.link = s.link := rfl
@[simp] theorem State.serveWithdraw_choices (s : State) (r : PeerReport) : (s.serveWithdraw r).state.choices = s.choices := rfl
@[simp] theorem State.serveWithdraw_pending (s : State) (r : PeerReport) : (s.serveWithdraw r).state.pending = s.pending := rfl
@[simp] theorem State.promote_pins (s : State) : s.promote.1.pins = s.pins := by
  unfold State.promote; split
  · simp
  · split <;> simp
@[simp] theorem State.promote_startup (s : State) : s.promote.1.startup = s.startup := by
  unfold State.promote; split
  · simp
  · split <;> simp
@[simp] theorem State.promote_floor (s : State) : s.promote.1.floor = s.floor := by
  unfold State.promote; split
  · simp
  · split <;> simp
@[simp] theorem State.promote_wall (s : State) : s.promote.1.wall = s.wall := by
  unfold State.promote; split
  · simp
  · split <;> simp
@[simp] theorem State.promote_bump (s : State) : s.promote.1.bump = s.bump := by
  unfold State.promote; split
  · simp
  · split <;> simp
@[simp] theorem State.promote_drop (s : State) : s.promote.1.drop = s.drop := by
  unfold State.promote; split
  · simp
  · split <;> simp
@[simp] theorem State.promote_enc (s : State) : s.promote.1.enc = s.enc := by
  unfold State.promote; split
  · simp
  · split <;> simp
@[simp] theorem State.promote_odo (s : State) : s.promote.1.odo = s.odo := by
  unfold State.promote; split
  · simp
  · split <;> simp
@[simp] theorem State.promote_clear (s : State) : s.promote.1.clear = s.clear := by
  unfold State.promote; split
  · simp
  · split <;> simp
@[simp] theorem State.promote_beacon (s : State) : s.promote.1.beacon = s.beacon := by
  unfold State.promote; split
  · simp
  · split <;> simp
@[simp] theorem State.promote_peers (s : State) : s.promote.1.peers = s.peers := by
  unfold State.promote; split
  · simp
  · split <;> simp
@[simp] theorem State.promote_link (s : State) : s.promote.1.link = s.link := by
  unfold State.promote; split
  · simp
  · split <;> simp
@[simp] theorem State.promote_choices (s : State) : s.promote.1.choices = s.choices := by
  unfold State.promote; split
  · simp
  · split <;> simp
@[simp] theorem State.promote_pending (s : State) : s.promote.1.pending = s.pending := by
  unfold State.promote; split
  · simp
  · split <;> simp
@[simp] theorem State.serveOutcome_pins (s : State) (o : Outcome) (i : Slot) : (s.serveOutcome o i).state.pins = s.pins := by
  unfold State.serveOutcome; dsimp only; (repeat' split) <;> simp
@[simp] theorem State.serveOutcome_wall (s : State) (o : Outcome) (i : Slot) : (s.serveOutcome o i).state.wall = s.wall := by
  unfold State.serveOutcome; dsimp only; (repeat' split) <;> simp
@[simp] theorem State.serveOutcome_bump (s : State) (o : Outcome) (i : Slot) : (s.serveOutcome o i).state.bump = s.bump := by
  unfold State.serveOutcome; dsimp only; (repeat' split) <;> simp
@[simp] theorem State.serveOutcome_drop (s : State) (o : Outcome) (i : Slot) : (s.serveOutcome o i).state.drop = s.drop := by
  unfold State.serveOutcome; dsimp only; (repeat' split) <;> simp
@[simp] theorem State.serveOutcome_enc (s : State) (o : Outcome) (i : Slot) : (s.serveOutcome o i).state.enc = s.enc := by
  unfold State.serveOutcome; dsimp only; (repeat' split) <;> simp
@[simp] theorem State.serveOutcome_odo (s : State) (o : Outcome) (i : Slot) : (s.serveOutcome o i).state.odo = s.odo := by
  unfold State.serveOutcome; dsimp only; (repeat' split) <;> simp
@[simp] theorem State.serveOutcome_beacon (s : State) (o : Outcome) (i : Slot) : (s.serveOutcome o i).state.beacon = s.beacon := by
  unfold State.serveOutcome; dsimp only; (repeat' split) <;> simp
@[simp] theorem State.serveOutcome_peers (s : State) (o : Outcome) (i : Slot) : (s.serveOutcome o i).state.peers = s.peers := by
  unfold State.serveOutcome; dsimp only; (repeat' split) <;> simp
@[simp] theorem State.serveOutcome_choices (s : State) (o : Outcome) (i : Slot) : (s.serveOutcome o i).state.choices = s.choices := by
  unfold State.serveOutcome; dsimp only; (repeat' split) <;> simp
@[simp] theorem State.serveOutcome_pending (s : State) (o : Outcome) (i : Slot) : (s.serveOutcome o i).state.pending = s.pending := by
  unfold State.serveOutcome; dsimp only; (repeat' split) <;> simp
@[simp] theorem State.settleChecks_pins (s : State) : s.settleChecks.1.pins = s.pins := by simp only [State.settleChecks]; split <;> simp
@[simp] theorem State.settleChecks_floor (s : State) : s.settleChecks.1.floor = s.floor := by simp only [State.settleChecks]; split <;> simp
@[simp] theorem State.settleChecks_wall (s : State) : s.settleChecks.1.wall = s.wall := by simp only [State.settleChecks]; split <;> simp
@[simp] theorem State.settleChecks_bump (s : State) : s.settleChecks.1.bump = s.bump := by simp only [State.settleChecks]; split <;> simp
@[simp] theorem State.settleChecks_drop (s : State) : s.settleChecks.1.drop = s.drop := by simp only [State.settleChecks]; split <;> simp
@[simp] theorem State.settleChecks_enc (s : State) : s.settleChecks.1.enc = s.enc := by simp only [State.settleChecks]; split <;> simp
@[simp] theorem State.settleChecks_odo (s : State) : s.settleChecks.1.odo = s.odo := by simp only [State.settleChecks]; split <;> simp
@[simp] theorem State.settleChecks_beacon (s : State) : s.settleChecks.1.beacon = s.beacon := by simp only [State.settleChecks]; split <;> simp
@[simp] theorem State.settleChecks_peers (s : State) : s.settleChecks.1.peers = s.peers := by simp only [State.settleChecks]; split <;> simp
@[simp] theorem State.settleChecks_choices (s : State) : s.settleChecks.1.choices = s.choices := by simp only [State.settleChecks]; split <;> simp
@[simp] theorem State.settleChecks_pending (s : State) : s.settleChecks.1.pending = s.pending := by simp only [State.settleChecks]; split <;> simp
@[simp] theorem State.answerLookup_pins (s : State) (q : Pos) (i : BitVec 4) (x y : Int) (t : Option Seq) : (s.answerLookup q i x y t).pins = s.pins := by
  unfold State.answerLookup; dsimp only; split <;> simp
@[simp] theorem State.answerLookup_floor (s : State) (q : Pos) (i : BitVec 4) (x y : Int) (t : Option Seq) : (s.answerLookup q i x y t).floor = s.floor := by
  unfold State.answerLookup; dsimp only; split <;> simp
@[simp] theorem State.answerLookup_wall (s : State) (q : Pos) (i : BitVec 4) (x y : Int) (t : Option Seq) : (s.answerLookup q i x y t).wall = s.wall := by
  unfold State.answerLookup; dsimp only; split <;> simp
@[simp] theorem State.answerLookup_bump (s : State) (q : Pos) (i : BitVec 4) (x y : Int) (t : Option Seq) : (s.answerLookup q i x y t).bump = s.bump := by
  unfold State.answerLookup; dsimp only; split <;> simp
@[simp] theorem State.answerLookup_drop (s : State) (q : Pos) (i : BitVec 4) (x y : Int) (t : Option Seq) : (s.answerLookup q i x y t).drop = s.drop := by
  unfold State.answerLookup; dsimp only; split <;> simp
@[simp] theorem State.answerLookup_enc (s : State) (q : Pos) (i : BitVec 4) (x y : Int) (t : Option Seq) : (s.answerLookup q i x y t).enc = s.enc := by
  unfold State.answerLookup; dsimp only; split <;> simp
@[simp] theorem State.answerLookup_odo (s : State) (q : Pos) (i : BitVec 4) (x y : Int) (t : Option Seq) : (s.answerLookup q i x y t).odo = s.odo := by
  unfold State.answerLookup; dsimp only; split <;> simp
@[simp] theorem State.answerLookup_table (s : State) (q : Pos) (i : BitVec 4) (x y : Int) (t : Option Seq) : (s.answerLookup q i x y t).table = s.table := by
  unfold State.answerLookup; dsimp only; split <;> simp
@[simp] theorem State.answerLookup_report (s : State) (q : Pos) (i : BitVec 4) (x y : Int) (t : Option Seq) : (s.answerLookup q i x y t).report = s.report := by
  unfold State.answerLookup; dsimp only; split <;> simp
@[simp] theorem State.answerLookup_clear (s : State) (q : Pos) (i : BitVec 4) (x y : Int) (t : Option Seq) : (s.answerLookup q i x y t).clear = s.clear := by
  unfold State.answerLookup; dsimp only; split <;> simp
@[simp] theorem State.answerLookup_beacon (s : State) (q : Pos) (i : BitVec 4) (x y : Int) (t : Option Seq) : (s.answerLookup q i x y t).beacon = s.beacon := by
  unfold State.answerLookup; dsimp only; split <;> simp
@[simp] theorem State.answerLookup_peers (s : State) (q : Pos) (i : BitVec 4) (x y : Int) (t : Option Seq) : (s.answerLookup q i x y t).peers = s.peers := by
  unfold State.answerLookup; dsimp only; split <;> simp
@[simp] theorem State.answerLookup_choices (s : State) (q : Pos) (i : BitVec 4) (x y : Int) (t : Option Seq) : (s.answerLookup q i x y t).choices = s.choices := by
  unfold State.answerLookup; dsimp only; split <;> simp
@[simp] theorem State.answerLookup_pending (s : State) (q : Pos) (i : BitVec 4) (x y : Int) (t : Option Seq) : (s.answerLookup q i x y t).pending = s.pending := by
  unfold State.answerLookup; dsimp only; split <;> simp
@[simp] theorem State.eventAt_pins (b : State) (w : List Record) (a : Option Slot) (s : State) (i : Slot) : (State.eventAt b w a s i).pins = s.pins := by
  unfold State.eventAt; dsimp only; (repeat' split) <;> simp
@[simp] theorem State.eventAt_floor (b : State) (w : List Record) (a : Option Slot) (s : State) (i : Slot) : (State.eventAt b w a s i).floor = s.floor := by
  unfold State.eventAt; dsimp only; (repeat' split) <;> simp
@[simp] theorem State.eventAt_wall (b : State) (w : List Record) (a : Option Slot) (s : State) (i : Slot) : (State.eventAt b w a s i).wall = s.wall := by
  unfold State.eventAt; dsimp only; (repeat' split) <;> simp
@[simp] theorem State.eventAt_bump (b : State) (w : List Record) (a : Option Slot) (s : State) (i : Slot) : (State.eventAt b w a s i).bump = s.bump := by
  unfold State.eventAt; dsimp only; (repeat' split) <;> simp
@[simp] theorem State.eventAt_drop (b : State) (w : List Record) (a : Option Slot) (s : State) (i : Slot) : (State.eventAt b w a s i).drop = s.drop := by
  unfold State.eventAt; dsimp only; (repeat' split) <;> simp
@[simp] theorem State.eventAt_enc (b : State) (w : List Record) (a : Option Slot) (s : State) (i : Slot) : (State.eventAt b w a s i).enc = s.enc := by
  unfold State.eventAt; dsimp only; (repeat' split) <;> simp
@[simp] theorem State.eventAt_odo (b : State) (w : List Record) (a : Option Slot) (s : State) (i : Slot) : (State.eventAt b w a s i).odo = s.odo := by
  unfold State.eventAt; dsimp only; (repeat' split) <;> simp
@[simp] theorem State.eventAt_clear (b : State) (w : List Record) (a : Option Slot) (s : State) (i : Slot) : (State.eventAt b w a s i).clear = s.clear := by
  unfold State.eventAt; dsimp only; (repeat' split) <;> simp
@[simp] theorem State.eventAt_beacon (b : State) (w : List Record) (a : Option Slot) (s : State) (i : Slot) : (State.eventAt b w a s i).beacon = s.beacon := by
  unfold State.eventAt; dsimp only; (repeat' split) <;> simp
@[simp] theorem State.eventAt_peers (b : State) (w : List Record) (a : Option Slot) (s : State) (i : Slot) : (State.eventAt b w a s i).peers = s.peers := by
  unfold State.eventAt; dsimp only; (repeat' split) <;> simp
@[simp] theorem State.eventAt_choices (b : State) (w : List Record) (a : Option Slot) (s : State) (i : Slot) : (State.eventAt b w a s i).choices = s.choices := by
  unfold State.eventAt; dsimp only; (repeat' split) <;> simp
@[simp] theorem State.eventAt_pending (b : State) (w : List Record) (a : Option Slot) (s : State) (i : Slot) : (State.eventAt b w a s i).pending = s.pending := by
  unfold State.eventAt; dsimp only; (repeat' split) <;> simp

/-- A fold of an operation that keeps a block keeps it. -/
theorem foldl_keeps {α β γ : Type} (g : α → γ) (f : α → β → α) (h : ∀ a b, g (f a b) = g a) (l : List β) (a : α) :
    g (l.foldl f a) = g a := by
  induction l generalizing a with
  | nil => rfl
  | cons b l ih => rw [List.foldl_cons, ih, h]

@[simp] theorem State.emitEvents_pins (b : State) (w : List Record) (a : Option Slot) (s : State) :
    (State.emitEvents b w a s).pins = s.pins := foldl_keeps (·.pins) _ (State.eventAt_pins b w a) _ s
@[simp] theorem State.emitEvents_floor (b : State) (w : List Record) (a : Option Slot) (s : State) :
    (State.emitEvents b w a s).floor = s.floor := foldl_keeps (·.floor) _ (State.eventAt_floor b w a) _ s
@[simp] theorem State.emitEvents_wall (b : State) (w : List Record) (a : Option Slot) (s : State) :
    (State.emitEvents b w a s).wall = s.wall := foldl_keeps (·.wall) _ (State.eventAt_wall b w a) _ s
@[simp] theorem State.emitEvents_bump (b : State) (w : List Record) (a : Option Slot) (s : State) :
    (State.emitEvents b w a s).bump = s.bump := foldl_keeps (·.bump) _ (State.eventAt_bump b w a) _ s
@[simp] theorem State.emitEvents_drop (b : State) (w : List Record) (a : Option Slot) (s : State) :
    (State.emitEvents b w a s).drop = s.drop := foldl_keeps (·.drop) _ (State.eventAt_drop b w a) _ s
@[simp] theorem State.emitEvents_enc (b : State) (w : List Record) (a : Option Slot) (s : State) :
    (State.emitEvents b w a s).enc = s.enc := foldl_keeps (·.enc) _ (State.eventAt_enc b w a) _ s
@[simp] theorem State.emitEvents_odo (b : State) (w : List Record) (a : Option Slot) (s : State) :
    (State.emitEvents b w a s).odo = s.odo := foldl_keeps (·.odo) _ (State.eventAt_odo b w a) _ s
@[simp] theorem State.emitEvents_clear (b : State) (w : List Record) (a : Option Slot) (s : State) :
    (State.emitEvents b w a s).clear = s.clear := foldl_keeps (·.clear) _ (State.eventAt_clear b w a) _ s
@[simp] theorem State.emitEvents_beacon (b : State) (w : List Record) (a : Option Slot) (s : State) :
    (State.emitEvents b w a s).beacon = s.beacon := foldl_keeps (·.beacon) _ (State.eventAt_beacon b w a) _ s
@[simp] theorem State.emitEvents_peers (b : State) (w : List Record) (a : Option Slot) (s : State) :
    (State.emitEvents b w a s).peers = s.peers := foldl_keeps (·.peers) _ (State.eventAt_peers b w a) _ s
@[simp] theorem State.emitEvents_choices (b : State) (w : List Record) (a : Option Slot) (s : State) :
    (State.emitEvents b w a s).choices = s.choices := foldl_keeps (·.choices) _ (State.eventAt_choices b w a) _ s
@[simp] theorem State.emitEvents_pending (b : State) (w : List Record) (a : Option Slot) (s : State) :
    (State.emitEvents b w a s).pending = s.pending := foldl_keeps (·.pending) _ (State.eventAt_pending b w a) _ s
@[simp] theorem State.refresh_pins (b : State) (m : Option Slot) (s : State) : (State.refresh b m s).pins = s.pins := by
  unfold State.refresh; (repeat' split) <;> simp
@[simp] theorem State.refresh_floor (b : State) (m : Option Slot) (s : State) : (State.refresh b m s).floor = s.floor := by
  unfold State.refresh; (repeat' split) <;> simp
@[simp] theorem State.refresh_wall (b : State) (m : Option Slot) (s : State) : (State.refresh b m s).wall = s.wall := by
  unfold State.refresh; (repeat' split) <;> simp
@[simp] theorem State.refresh_bump (b : State) (m : Option Slot) (s : State) : (State.refresh b m s).bump = s.bump := by
  unfold State.refresh; (repeat' split) <;> simp
@[simp] theorem State.refresh_drop (b : State) (m : Option Slot) (s : State) : (State.refresh b m s).drop = s.drop := by
  unfold State.refresh; (repeat' split) <;> simp
@[simp] theorem State.refresh_enc (b : State) (m : Option Slot) (s : State) : (State.refresh b m s).enc = s.enc := by
  unfold State.refresh; (repeat' split) <;> simp
@[simp] theorem State.refresh_odo (b : State) (m : Option Slot) (s : State) : (State.refresh b m s).odo = s.odo := by
  unfold State.refresh; (repeat' split) <;> simp
@[simp] theorem State.refresh_table (b : State) (m : Option Slot) (s : State) : (State.refresh b m s).table = s.table := by
  unfold State.refresh; (repeat' split) <;> simp
@[simp] theorem State.refresh_clear (b : State) (m : Option Slot) (s : State) : (State.refresh b m s).clear = s.clear := by
  unfold State.refresh; (repeat' split) <;> simp
@[simp] theorem State.refresh_beacon (b : State) (m : Option Slot) (s : State) : (State.refresh b m s).beacon = s.beacon := by
  unfold State.refresh; (repeat' split) <;> simp
@[simp] theorem State.refresh_peers (b : State) (m : Option Slot) (s : State) : (State.refresh b m s).peers = s.peers := by
  unfold State.refresh; (repeat' split) <;> simp
@[simp] theorem State.refresh_choices (b : State) (m : Option Slot) (s : State) : (State.refresh b m s).choices = s.choices := by
  unfold State.refresh; (repeat' split) <;> simp
@[simp] theorem State.refresh_pending (b : State) (m : Option Slot) (s : State) : (State.refresh b m s).pending = s.pending := by
  unfold State.refresh; (repeat' split) <;> simp
@[simp] theorem State.notifyTable_pins (s b : State) : (s.notifyTable b).pins = s.pins := by simp only [State.notifyTable]; split <;> simp
@[simp] theorem State.notifyTable_floor (s b : State) : (s.notifyTable b).floor = s.floor := by simp only [State.notifyTable]; split <;> simp
@[simp] theorem State.notifyTable_wall (s b : State) : (s.notifyTable b).wall = s.wall := by simp only [State.notifyTable]; split <;> simp
@[simp] theorem State.notifyTable_bump (s b : State) : (s.notifyTable b).bump = s.bump := by simp only [State.notifyTable]; split <;> simp
@[simp] theorem State.notifyTable_drop (s b : State) : (s.notifyTable b).drop = s.drop := by simp only [State.notifyTable]; split <;> simp
@[simp] theorem State.notifyTable_enc (s b : State) : (s.notifyTable b).enc = s.enc := by simp only [State.notifyTable]; split <;> simp
@[simp] theorem State.notifyTable_odo (s b : State) : (s.notifyTable b).odo = s.odo := by simp only [State.notifyTable]; split <;> simp
@[simp] theorem State.notifyTable_table (s b : State) : (s.notifyTable b).table = s.table := by simp only [State.notifyTable]; split <;> simp
@[simp] theorem State.notifyTable_report (s b : State) : (s.notifyTable b).report = s.report := by simp only [State.notifyTable]; split <;> simp
@[simp] theorem State.notifyTable_beacon (s b : State) : (s.notifyTable b).beacon = s.beacon := by simp only [State.notifyTable]; split <;> simp
@[simp] theorem State.notifyTable_peers (s b : State) : (s.notifyTable b).peers = s.peers := by simp only [State.notifyTable]; split <;> simp
@[simp] theorem State.notifyTable_choices (s b : State) : (s.notifyTable b).choices = s.choices := by simp only [State.notifyTable]; split <;> simp
@[simp] theorem State.notifyTable_pending (s b : State) : (s.notifyTable b).pending = s.pending := by simp only [State.notifyTable]; split <;> simp
@[simp] theorem State.complete_pins (b : State) (v : Served) : (State.complete b v).pins = v.state.pins := by
  unfold State.complete; dsimp only; split <;> simp
@[simp] theorem State.complete_floor (b : State) (v : Served) : (State.complete b v).floor = v.state.floor := by
  unfold State.complete; dsimp only; split <;> simp
@[simp] theorem State.complete_wall (b : State) (v : Served) : (State.complete b v).wall = v.state.wall := by
  unfold State.complete; dsimp only; split <;> simp
@[simp] theorem State.complete_bump (b : State) (v : Served) : (State.complete b v).bump = v.state.bump := by
  unfold State.complete; dsimp only; split <;> simp
@[simp] theorem State.complete_drop (b : State) (v : Served) : (State.complete b v).drop = v.state.drop := by
  unfold State.complete; dsimp only; split <;> simp
@[simp] theorem State.complete_enc (b : State) (v : Served) : (State.complete b v).enc = v.state.enc := by
  unfold State.complete; dsimp only; split <;> simp
@[simp] theorem State.complete_odo (b : State) (v : Served) : (State.complete b v).odo = v.state.odo := by
  unfold State.complete; dsimp only; split <;> simp
@[simp] theorem State.complete_beacon (b : State) (v : Served) : (State.complete b v).beacon = v.state.beacon := by
  unfold State.complete; dsimp only; split <;> simp
@[simp] theorem State.complete_peers (b : State) (v : Served) : (State.complete b v).peers = v.state.peers := by
  unfold State.complete; dsimp only; split <;> simp
@[simp] theorem State.complete_choices (b : State) (v : Served) : (State.complete b v).choices = v.state.choices := by
  unfold State.complete; dsimp only; split <;> simp
@[simp] theorem State.complete_pending (b : State) (v : Served) : (State.complete b v).pending = v.state.pending := by
  unfold State.complete; dsimp only; split <;> simp

end Sys2Proof.Machine
end

