-- ==== Sys2Proof/Laws/CommandsFrame.lean ====
section
/-! SUPPORT. The blocks that each command leaves unchanged. -/

namespace Sys2Proof.Machine

open Sys2Proof

@[simp] theorem State.ledFlash_pins (s : State) : s.ledFlash.pins = s.pins := rfl
@[simp] theorem State.ledFlash_floor (s : State) : s.ledFlash.floor = s.floor := rfl
@[simp] theorem State.ledFlash_wall (s : State) : s.ledFlash.wall = s.wall := rfl
@[simp] theorem State.ledFlash_bump (s : State) : s.ledFlash.bump = s.bump := rfl
@[simp] theorem State.ledFlash_drop (s : State) : s.ledFlash.drop = s.drop := rfl
@[simp] theorem State.ledFlash_enc (s : State) : s.ledFlash.enc = s.enc := rfl
@[simp] theorem State.ledFlash_odo (s : State) : s.ledFlash.odo = s.odo := rfl
@[simp] theorem State.ledFlash_table (s : State) : s.ledFlash.table = s.table := rfl
@[simp] theorem State.ledFlash_report (s : State) : s.ledFlash.report = s.report := rfl
@[simp] theorem State.ledFlash_clear (s : State) : s.ledFlash.clear = s.clear := rfl
@[simp] theorem State.ledFlash_beacon (s : State) : s.ledFlash.beacon = s.beacon := rfl
@[simp] theorem State.ledFlash_peers (s : State) : s.ledFlash.peers = s.peers := rfl
@[simp] theorem State.ledFlash_link (s : State) : s.ledFlash.link = s.link := rfl
@[simp] theorem State.ledFlash_choices (s : State) : s.ledFlash.choices = s.choices := rfl
@[simp] theorem State.ledFlash_pending (s : State) : s.ledFlash.pending = s.pending := rfl
@[simp] theorem State.enterStep_pins (s : State) (k : TestStep) : (s.enterStep k).pins = s.pins := by simp [State.enterStep]
@[simp] theorem State.enterStep_floor (s : State) (k : TestStep) : (s.enterStep k).floor = s.floor := by simp [State.enterStep]
@[simp] theorem State.enterStep_wall (s : State) (k : TestStep) : (s.enterStep k).wall = s.wall := by simp [State.enterStep]
@[simp] theorem State.enterStep_bump (s : State) (k : TestStep) : (s.enterStep k).bump = s.bump := by simp [State.enterStep]
@[simp] theorem State.enterStep_drop (s : State) (k : TestStep) : (s.enterStep k).drop = s.drop := by simp [State.enterStep]
@[simp] theorem State.enterStep_enc (s : State) (k : TestStep) : (s.enterStep k).enc = s.enc := by simp [State.enterStep]
@[simp] theorem State.enterStep_odo (s : State) (k : TestStep) : (s.enterStep k).odo = s.odo := by simp [State.enterStep]
@[simp] theorem State.enterStep_table (s : State) (k : TestStep) : (s.enterStep k).table = s.table := by simp [State.enterStep]
@[simp] theorem State.enterStep_report (s : State) (k : TestStep) : (s.enterStep k).report = s.report := by simp [State.enterStep]
@[simp] theorem State.enterStep_clear (s : State) (k : TestStep) : (s.enterStep k).clear = s.clear := by simp [State.enterStep]
@[simp] theorem State.enterStep_beacon (s : State) (k : TestStep) : (s.enterStep k).beacon = s.beacon := by simp [State.enterStep]
@[simp] theorem State.enterStep_peers (s : State) (k : TestStep) : (s.enterStep k).peers = s.peers := by simp [State.enterStep]
@[simp] theorem State.enterStep_choices (s : State) (k : TestStep) : (s.enterStep k).choices = s.choices := by simp [State.enterStep]
@[simp] theorem State.enterStep_pending (s : State) (k : TestStep) : (s.enterStep k).pending = s.pending := by simp [State.enterStep]
@[simp] theorem State.strapSample_pins (s : State) (p q r o : Bool) : (s.strapSample p q r o).pins = s.pins := by
  unfold State.strapSample; split <;> simp
@[simp] theorem State.strapSample_floor (s : State) (p q r o : Bool) : (s.strapSample p q r o).floor = s.floor := by
  unfold State.strapSample; split <;> simp
@[simp] theorem State.strapSample_wall (s : State) (p q r o : Bool) : (s.strapSample p q r o).wall = s.wall := by
  unfold State.strapSample; split <;> simp
@[simp] theorem State.strapSample_bump (s : State) (p q r o : Bool) : (s.strapSample p q r o).bump = s.bump := by
  unfold State.strapSample; split <;> simp
@[simp] theorem State.strapSample_drop (s : State) (p q r o : Bool) : (s.strapSample p q r o).drop = s.drop := by
  unfold State.strapSample; split <;> simp
@[simp] theorem State.strapSample_enc (s : State) (p q r o : Bool) : (s.strapSample p q r o).enc = s.enc := by
  unfold State.strapSample; split <;> simp
@[simp] theorem State.strapSample_odo (s : State) (p q r o : Bool) : (s.strapSample p q r o).odo = s.odo := by
  unfold State.strapSample; split <;> simp
@[simp] theorem State.strapSample_table (s : State) (p q r o : Bool) : (s.strapSample p q r o).table = s.table := by
  unfold State.strapSample; split <;> simp
@[simp] theorem State.strapSample_report (s : State) (p q r o : Bool) : (s.strapSample p q r o).report = s.report := by
  unfold State.strapSample; split <;> simp
@[simp] theorem State.strapSample_clear (s : State) (p q r o : Bool) : (s.strapSample p q r o).clear = s.clear := by
  unfold State.strapSample; split <;> simp
@[simp] theorem State.strapSample_beacon (s : State) (p q r o : Bool) : (s.strapSample p q r o).beacon = s.beacon := by
  unfold State.strapSample; split <;> simp
@[simp] theorem State.strapSample_peers (s : State) (p q r o : Bool) : (s.strapSample p q r o).peers = s.peers := by
  unfold State.strapSample; split <;> simp
@[simp] theorem State.strapSample_choices (s : State) (p q r o : Bool) : (s.strapSample p q r o).choices = s.choices := by
  unfold State.strapSample; split <;> simp
@[simp] theorem State.strapSample_pending (s : State) (p q r o : Bool) : (s.strapSample p q r o).pending = s.pending := by
  unfold State.strapSample; split <;> simp
@[simp] theorem State.enterFault_pins (s : State) (c : FaultCause) : (s.enterFault c).pins = s.pins := by simp [State.enterFault]
@[simp] theorem State.enterFault_choices (s : State) (c : FaultCause) : (s.enterFault c).choices = s.choices := by simp [State.enterFault]
@[simp] theorem State.enterFault_pending (s : State) (c : FaultCause) : (s.enterFault c).pending = s.pending := by simp [State.enterFault]
@[simp] theorem State.tableSlotTest_pins (s : State) (g : BitVec 24) : (s.tableSlotTest g).pins = s.pins := by
  unfold State.tableSlotTest; split
  · split <;> simp
  · simp
@[simp] theorem State.tableSlotTest_choices (s : State) (g : BitVec 24) : (s.tableSlotTest g).choices = s.choices := by
  unfold State.tableSlotTest; split
  · split <;> simp
  · simp
@[simp] theorem State.tableSlotTest_pending (s : State) (g : BitVec 24) : (s.tableSlotTest g).pending = s.pending := by
  unfold State.tableSlotTest; split
  · split <;> simp
  · simp
@[simp] theorem State.crcSelfTest_pins (s : State) (r : Half) : (s.crcSelfTest r).pins = s.pins := by
  unfold State.crcSelfTest; split
  · split <;> simp
  · simp
@[simp] theorem State.crcSelfTest_choices (s : State) (r : Half) : (s.crcSelfTest r).choices = s.choices := by
  unfold State.crcSelfTest; split
  · split <;> simp
  · simp
@[simp] theorem State.crcSelfTest_pending (s : State) (r : Half) : (s.crcSelfTest r).pending = s.pending := by
  unfold State.crcSelfTest; split
  · split <;> simp
  · simp
@[simp] theorem State.loopbackTimeout_pins (s : State) : s.loopbackTimeout.pins = s.pins := by
  unfold State.loopbackTimeout; split <;> simp
@[simp] theorem State.loopbackTimeout_choices (s : State) : s.loopbackTimeout.choices = s.choices := by
  unfold State.loopbackTimeout; split <;> simp
@[simp] theorem State.loopbackTimeout_pending (s : State) : s.loopbackTimeout.pending = s.pending := by
  unfold State.loopbackTimeout; split <;> simp
@[simp] theorem State.loopbackResult_pins (s : State) (b : Bool) : (s.loopbackResult b).pins = s.pins := by
  unfold State.loopbackResult; split
  · split <;> simp
  · simp
@[simp] theorem State.loopbackResult_choices (s : State) (b : Bool) : (s.loopbackResult b).choices = s.choices := by
  unfold State.loopbackResult; split
  · split <;> simp
  · simp
@[simp] theorem State.loopbackResult_pending (s : State) (b : Bool) : (s.loopbackResult b).pending = s.pending := by
  unfold State.loopbackResult; split
  · split <;> simp
  · simp
@[simp] theorem State.floorEmitterTest_pins (s : State) (d : Drive) : (s.floorEmitterTest d).pins = s.pins := by
  unfold State.floorEmitterTest; split
  · split <;> simp
  · simp
@[simp] theorem State.floorEmitterTest_choices (s : State) (d : Drive) : (s.floorEmitterTest d).choices = s.choices := by
  unfold State.floorEmitterTest; split
  · split <;> simp
  · simp
@[simp] theorem State.floorEmitterTest_pending (s : State) (d : Drive) : (s.floorEmitterTest d).pending = s.pending := by
  unfold State.floorEmitterTest; split
  · split <;> simp
  · simp
@[simp] theorem State.enterAwait_pins (s : State) : s.enterAwait.pins = s.pins := by simp [State.enterAwait]
@[simp] theorem State.enterAwait_floor (s : State) : s.enterAwait.floor = s.floor := by simp [State.enterAwait]
@[simp] theorem State.enterAwait_wall (s : State) : s.enterAwait.wall = s.wall := by simp [State.enterAwait]
@[simp] theorem State.enterAwait_bump (s : State) : s.enterAwait.bump = s.bump := by simp [State.enterAwait]
@[simp] theorem State.enterAwait_drop (s : State) : s.enterAwait.drop = s.drop := by simp [State.enterAwait]
@[simp] theorem State.enterAwait_enc (s : State) : s.enterAwait.enc = s.enc := by simp [State.enterAwait]
@[simp] theorem State.enterAwait_odo (s : State) : s.enterAwait.odo = s.odo := by simp [State.enterAwait]
@[simp] theorem State.enterAwait_table (s : State) : s.enterAwait.table = s.table := by simp [State.enterAwait]
@[simp] theorem State.enterAwait_report (s : State) : s.enterAwait.report = s.report := by simp [State.enterAwait]
@[simp] theorem State.enterAwait_clear (s : State) : s.enterAwait.clear = s.clear := by simp [State.enterAwait]
@[simp] theorem State.enterAwait_beacon (s : State) : s.enterAwait.beacon = s.beacon := by simp [State.enterAwait]
@[simp] theorem State.enterAwait_peers (s : State) : s.enterAwait.peers = s.peers := by simp [State.enterAwait]
@[simp] theorem State.enterAwait_choices (s : State) : s.enterAwait.choices = s.choices := by simp [State.enterAwait]
@[simp] theorem State.enterAwait_pending (s : State) : s.enterAwait.pending = s.pending := by simp [State.enterAwait]
@[simp] theorem State.wallEmitterTest_pins (s : State) (d : Drive) : (s.wallEmitterTest d).pins = s.pins := by
  unfold State.wallEmitterTest; split <;> simp
@[simp] theorem State.wallEmitterTest_floor (s : State) (d : Drive) : (s.wallEmitterTest d).floor = s.floor := by
  unfold State.wallEmitterTest; split <;> simp
@[simp] theorem State.wallEmitterTest_bump (s : State) (d : Drive) : (s.wallEmitterTest d).bump = s.bump := by
  unfold State.wallEmitterTest; split <;> simp
@[simp] theorem State.wallEmitterTest_drop (s : State) (d : Drive) : (s.wallEmitterTest d).drop = s.drop := by
  unfold State.wallEmitterTest; split <;> simp
@[simp] theorem State.wallEmitterTest_enc (s : State) (d : Drive) : (s.wallEmitterTest d).enc = s.enc := by
  unfold State.wallEmitterTest; split <;> simp
@[simp] theorem State.wallEmitterTest_odo (s : State) (d : Drive) : (s.wallEmitterTest d).odo = s.odo := by
  unfold State.wallEmitterTest; split <;> simp
@[simp] theorem State.wallEmitterTest_table (s : State) (d : Drive) : (s.wallEmitterTest d).table = s.table := by
  unfold State.wallEmitterTest; split <;> simp
@[simp] theorem State.wallEmitterTest_report (s : State) (d : Drive) : (s.wallEmitterTest d).report = s.report := by
  unfold State.wallEmitterTest; split <;> simp
@[simp] theorem State.wallEmitterTest_clear (s : State) (d : Drive) : (s.wallEmitterTest d).clear = s.clear := by
  unfold State.wallEmitterTest; split <;> simp
@[simp] theorem State.wallEmitterTest_beacon (s : State) (d : Drive) : (s.wallEmitterTest d).beacon = s.beacon := by
  unfold State.wallEmitterTest; split <;> simp
@[simp] theorem State.wallEmitterTest_peers (s : State) (d : Drive) : (s.wallEmitterTest d).peers = s.peers := by
  unfold State.wallEmitterTest; split <;> simp
@[simp] theorem State.wallEmitterTest_choices (s : State) (d : Drive) : (s.wallEmitterTest d).choices = s.choices := by
  unfold State.wallEmitterTest; split <;> simp
@[simp] theorem State.wallEmitterTest_pending (s : State) (d : Drive) : (s.wallEmitterTest d).pending = s.pending := by
  unfold State.wallEmitterTest; split <;> simp
@[simp] theorem State.bootTimerExpiry_pins (s : State) : s.bootTimerExpiry.pins = s.pins := by
  unfold State.bootTimerExpiry; dsimp only; (repeat' split) <;> simp
@[simp] theorem State.bootTimerExpiry_floor (s : State) : s.bootTimerExpiry.floor = s.floor := by
  unfold State.bootTimerExpiry; dsimp only; (repeat' split) <;> simp
@[simp] theorem State.bootTimerExpiry_wall (s : State) : s.bootTimerExpiry.wall = s.wall := by
  unfold State.bootTimerExpiry; dsimp only; (repeat' split) <;> simp
@[simp] theorem State.bootTimerExpiry_bump (s : State) : s.bootTimerExpiry.bump = s.bump := by
  unfold State.bootTimerExpiry; dsimp only; (repeat' split) <;> simp
@[simp] theorem State.bootTimerExpiry_drop (s : State) : s.bootTimerExpiry.drop = s.drop := by
  unfold State.bootTimerExpiry; dsimp only; (repeat' split) <;> simp
@[simp] theorem State.bootTimerExpiry_enc (s : State) : s.bootTimerExpiry.enc = s.enc := by
  unfold State.bootTimerExpiry; dsimp only; (repeat' split) <;> simp
@[simp] theorem State.bootTimerExpiry_odo (s : State) : s.bootTimerExpiry.odo = s.odo := by
  unfold State.bootTimerExpiry; dsimp only; (repeat' split) <;> simp
@[simp] theorem State.bootTimerExpiry_table (s : State) : s.bootTimerExpiry.table = s.table := by
  unfold State.bootTimerExpiry; dsimp only; (repeat' split) <;> simp
@[simp] theorem State.bootTimerExpiry_report (s : State) : s.bootTimerExpiry.report = s.report := by
  unfold State.bootTimerExpiry; dsimp only; (repeat' split) <;> simp
@[simp] theorem State.bootTimerExpiry_clear (s : State) : s.bootTimerExpiry.clear = s.clear := by
  unfold State.bootTimerExpiry; dsimp only; (repeat' split) <;> simp
@[simp] theorem State.bootTimerExpiry_beacon (s : State) : s.bootTimerExpiry.beacon = s.beacon := by
  unfold State.bootTimerExpiry; dsimp only; (repeat' split) <;> simp
@[simp] theorem State.bootTimerExpiry_peers (s : State) : s.bootTimerExpiry.peers = s.peers := by
  unfold State.bootTimerExpiry; dsimp only; (repeat' split) <;> simp
@[simp] theorem State.bootTimerExpiry_choices (s : State) : s.bootTimerExpiry.choices = s.choices := by
  unfold State.bootTimerExpiry; dsimp only; (repeat' split) <;> simp
@[simp] theorem State.bootTimerExpiry_pending (s : State) : s.bootTimerExpiry.pending = s.pending := by
  unfold State.bootTimerExpiry; dsimp only; (repeat' split) <;> simp
@[simp] theorem State.clearEnterRun_pins (s : State) : s.clearEnterRun.pins = s.pins := rfl
@[simp] theorem State.clearEnterRun_startup (s : State) : s.clearEnterRun.startup = s.startup := rfl
@[simp] theorem State.clearEnterRun_floor (s : State) : s.clearEnterRun.floor = s.floor := rfl
@[simp] theorem State.clearEnterRun_wall (s : State) : s.clearEnterRun.wall = s.wall := rfl
@[simp] theorem State.clearEnterRun_bump (s : State) : s.clearEnterRun.bump = s.bump := rfl
@[simp] theorem State.clearEnterRun_drop (s : State) : s.clearEnterRun.drop = s.drop := rfl
@[simp] theorem State.clearEnterRun_enc (s : State) : s.clearEnterRun.enc = s.enc := rfl
@[simp] theorem State.clearEnterRun_odo (s : State) : s.clearEnterRun.odo = s.odo := rfl
@[simp] theorem State.clearEnterRun_table (s : State) : s.clearEnterRun.table = s.table := rfl
@[simp] theorem State.clearEnterRun_report (s : State) : s.clearEnterRun.report = s.report := rfl
@[simp] theorem State.clearEnterRun_beacon (s : State) : s.clearEnterRun.beacon = s.beacon := rfl
@[simp] theorem State.clearEnterRun_peers (s : State) : s.clearEnterRun.peers = s.peers := rfl
@[simp] theorem State.clearEnterRun_link (s : State) : s.clearEnterRun.link = s.link := rfl
@[simp] theorem State.clearEnterRun_choices (s : State) : s.clearEnterRun.choices = s.choices := rfl
@[simp] theorem State.clearEnterRun_pending (s : State) : s.clearEnterRun.pending = s.pending := rfl
@[simp] theorem State.enterRun_pins (s : State) (v : SetupValues) : (s.enterRun v).pins = s.pins := by simp [State.enterRun]
@[simp] theorem State.enterRun_pending (s : State) (v : SetupValues) : (s.enterRun v).pending = s.pending := by simp [State.enterRun]
@[simp] theorem State.trySetup_pins (s : State) : s.trySetup.pins = s.pins := by
  unfold State.trySetup; split <;> simp
@[simp] theorem State.trySetup_pending (s : State) : s.trySetup.pending = s.pending := by
  unfold State.trySetup; split <;> simp
@[simp] theorem State.setupBlock_pins (s : State) (h : Head) (d : SetupData) : (s.setupBlock h d).pins = s.pins := by
  unfold State.setupBlock; split
  · simp
  · split <;> simp
@[simp] theorem State.setupBlock_pending (s : State) (h : Head) (d : SetupData) : (s.setupBlock h d).pending = s.pending := by
  unfold State.setupBlock; split
  · simp
  · split <;> simp
@[simp] theorem State.rejoin_pins (s : State) : s.rejoin.pins = s.pins := by simp [State.rejoin]
@[simp] theorem State.rejoin_choices (s : State) : s.rejoin.choices = s.choices := by simp [State.rejoin]
@[simp] theorem State.rejoin_pending (s : State) : s.rejoin.pending = s.pending := by simp [State.rejoin]
@[simp] theorem State.rejoinBlock_pins (s : State) (h : Head) (p : Pos) : (s.rejoinBlock h p).pins = s.pins := by
  unfold State.rejoinBlock; (repeat' split) <;> simp
@[simp] theorem State.rejoinBlock_choices (s : State) (h : Head) (p : Pos) : (s.rejoinBlock h p).choices = s.choices := by
  unfold State.rejoinBlock; (repeat' split) <;> simp
@[simp] theorem State.rejoinBlock_pending (s : State) (h : Head) (p : Pos) : (s.rejoinBlock h p).pending = s.pending := by
  unfold State.rejoinBlock; (repeat' split) <;> simp
@[simp] theorem State.modeBlock_pins (s : State) (h : Head) (v : Byte) : (s.modeBlock h v).pins = s.pins := by
  unfold State.modeBlock; (repeat' split) <;> simp
@[simp] theorem State.modeBlock_bump (s : State) (h : Head) (v : Byte) : (s.modeBlock h v).bump = s.bump := by
  unfold State.modeBlock; (repeat' split) <;> simp
@[simp] theorem State.modeBlock_drop (s : State) (h : Head) (v : Byte) : (s.modeBlock h v).drop = s.drop := by
  unfold State.modeBlock; (repeat' split) <;> simp
@[simp] theorem State.modeBlock_enc (s : State) (h : Head) (v : Byte) : (s.modeBlock h v).enc = s.enc := by
  unfold State.modeBlock; (repeat' split) <;> simp
@[simp] theorem State.modeBlock_odo (s : State) (h : Head) (v : Byte) : (s.modeBlock h v).odo = s.odo := by
  unfold State.modeBlock; (repeat' split) <;> simp
@[simp] theorem State.modeBlock_table (s : State) (h : Head) (v : Byte) : (s.modeBlock h v).table = s.table := by
  unfold State.modeBlock; (repeat' split) <;> simp
@[simp] theorem State.modeBlock_report (s : State) (h : Head) (v : Byte) : (s.modeBlock h v).report = s.report := by
  unfold State.modeBlock; (repeat' split) <;> simp
@[simp] theorem State.modeBlock_beacon (s : State) (h : Head) (v : Byte) : (s.modeBlock h v).beacon = s.beacon := by
  unfold State.modeBlock; (repeat' split) <;> simp
@[simp] theorem State.modeBlock_pending (s : State) (h : Head) (v : Byte) : (s.modeBlock h v).pending = s.pending := by
  unfold State.modeBlock; (repeat' split) <;> simp
@[simp] theorem State.carryEnd_pins (s : State) : s.carryEnd.pins = s.pins := by
  unfold State.carryEnd; split
  · split <;> simp
  · simp
@[simp] theorem State.carryEnd_floor (s : State) : s.carryEnd.floor = s.floor := by
  unfold State.carryEnd; split
  · split <;> simp
  · simp
@[simp] theorem State.carryEnd_wall (s : State) : s.carryEnd.wall = s.wall := by
  unfold State.carryEnd; split
  · split <;> simp
  · simp
@[simp] theorem State.carryEnd_bump (s : State) : s.carryEnd.bump = s.bump := by
  unfold State.carryEnd; split
  · split <;> simp
  · simp
@[simp] theorem State.carryEnd_drop (s : State) : s.carryEnd.drop = s.drop := by
  unfold State.carryEnd; split
  · split <;> simp
  · simp
@[simp] theorem State.carryEnd_enc (s : State) : s.carryEnd.enc = s.enc := by
  unfold State.carryEnd; split
  · split <;> simp
  · simp
@[simp] theorem State.carryEnd_odo (s : State) : s.carryEnd.odo = s.odo := by
  unfold State.carryEnd; split
  · split <;> simp
  · simp
@[simp] theorem State.carryEnd_report (s : State) : s.carryEnd.report = s.report := by
  unfold State.carryEnd; split
  · split <;> simp
  · simp
@[simp] theorem State.carryEnd_beacon (s : State) : s.carryEnd.beacon = s.beacon := by
  unfold State.carryEnd; split
  · split <;> simp
  · simp
@[simp] theorem State.carryEnd_peers (s : State) : s.carryEnd.peers = s.peers := by
  unfold State.carryEnd; split
  · split <;> simp
  · simp
@[simp] theorem State.carryEnd_choices (s : State) : s.carryEnd.choices = s.choices := by
  unfold State.carryEnd; split
  · split <;> simp
  · simp
@[simp] theorem State.carryEnd_pending (s : State) : s.carryEnd.pending = s.pending := by
  unfold State.carryEnd; split
  · split <;> simp
  · simp
@[simp] theorem State.ageTimerExpiry_pins (s : State) : s.ageTimerExpiry.pins = s.pins := by
  unfold State.ageTimerExpiry; split <;> simp
@[simp] theorem State.ageTimerExpiry_floor (s : State) : s.ageTimerExpiry.floor = s.floor := by
  unfold State.ageTimerExpiry; split <;> simp
@[simp] theorem State.ageTimerExpiry_wall (s : State) : s.ageTimerExpiry.wall = s.wall := by
  unfold State.ageTimerExpiry; split <;> simp
@[simp] theorem State.ageTimerExpiry_bump (s : State) : s.ageTimerExpiry.bump = s.bump := by
  unfold State.ageTimerExpiry; split <;> simp
@[simp] theorem State.ageTimerExpiry_drop (s : State) : s.ageTimerExpiry.drop = s.drop := by
  unfold State.ageTimerExpiry; split <;> simp
@[simp] theorem State.ageTimerExpiry_enc (s : State) : s.ageTimerExpiry.enc = s.enc := by
  unfold State.ageTimerExpiry; split <;> simp
@[simp] theorem State.ageTimerExpiry_odo (s : State) : s.ageTimerExpiry.odo = s.odo := by
  unfold State.ageTimerExpiry; split <;> simp
@[simp] theorem State.ageTimerExpiry_report (s : State) : s.ageTimerExpiry.report = s.report := by
  unfold State.ageTimerExpiry; split <;> simp
@[simp] theorem State.ageTimerExpiry_beacon (s : State) : s.ageTimerExpiry.beacon = s.beacon := by
  unfold State.ageTimerExpiry; split <;> simp
@[simp] theorem State.ageTimerExpiry_peers (s : State) : s.ageTimerExpiry.peers = s.peers := by
  unfold State.ageTimerExpiry; split <;> simp
@[simp] theorem State.ageTimerExpiry_choices (s : State) : s.ageTimerExpiry.choices = s.choices := by
  unfold State.ageTimerExpiry; split <;> simp
@[simp] theorem State.ageTimerExpiry_pending (s : State) : s.ageTimerExpiry.pending = s.pending := by
  unfold State.ageTimerExpiry; split <;> simp
@[simp] theorem State.ageTicksApplied_pins (s : State) : s.ageTicksApplied.pins = s.pins := by
  unfold State.ageTicksApplied; split
  · split <;> simp
  · simp
@[simp] theorem State.ageTicksApplied_floor (s : State) : s.ageTicksApplied.floor = s.floor := by
  unfold State.ageTicksApplied; split
  · split <;> simp
  · simp
@[simp] theorem State.ageTicksApplied_wall (s : State) : s.ageTicksApplied.wall = s.wall := by
  unfold State.ageTicksApplied; split
  · split <;> simp
  · simp
@[simp] theorem State.ageTicksApplied_bump (s : State) : s.ageTicksApplied.bump = s.bump := by
  unfold State.ageTicksApplied; split
  · split <;> simp
  · simp
@[simp] theorem State.ageTicksApplied_drop (s : State) : s.ageTicksApplied.drop = s.drop := by
  unfold State.ageTicksApplied; split
  · split <;> simp
  · simp
@[simp] theorem State.ageTicksApplied_enc (s : State) : s.ageTicksApplied.enc = s.enc := by
  unfold State.ageTicksApplied; split
  · split <;> simp
  · simp
@[simp] theorem State.ageTicksApplied_odo (s : State) : s.ageTicksApplied.odo = s.odo := by
  unfold State.ageTicksApplied; split
  · split <;> simp
  · simp
@[simp] theorem State.ageTicksApplied_beacon (s : State) : s.ageTicksApplied.beacon = s.beacon := by
  unfold State.ageTicksApplied; split
  · split <;> simp
  · simp
@[simp] theorem State.ageTicksApplied_peers (s : State) : s.ageTicksApplied.peers = s.peers := by
  unfold State.ageTicksApplied; split
  · split <;> simp
  · simp
@[simp] theorem State.ageTicksApplied_choices (s : State) : s.ageTicksApplied.choices = s.choices := by
  unfold State.ageTicksApplied; split
  · split <;> simp
  · simp
@[simp] theorem State.ageTicksApplied_pending (s : State) : s.ageTicksApplied.pending = s.pending := by
  unfold State.ageTicksApplied; split
  · split <;> simp
  · simp
@[simp] theorem State.serveOwnObservation_pins (s : State) : s.serveOwnObservation.pins = s.pins := by
  unfold State.serveOwnObservation; split
  · split <;> simp
  · simp
@[simp] theorem State.serveOwnObservation_floor (s : State) : s.serveOwnObservation.floor = s.floor := by
  unfold State.serveOwnObservation; split
  · split <;> simp
  · simp
@[simp] theorem State.serveOwnObservation_wall (s : State) : s.serveOwnObservation.wall = s.wall := by
  unfold State.serveOwnObservation; split
  · split <;> simp
  · simp
@[simp] theorem State.serveOwnObservation_bump (s : State) : s.serveOwnObservation.bump = s.bump := by
  unfold State.serveOwnObservation; split
  · split <;> simp
  · simp
@[simp] theorem State.serveOwnObservation_drop (s : State) : s.serveOwnObservation.drop = s.drop := by
  unfold State.serveOwnObservation; split
  · split <;> simp
  · simp
@[simp] theorem State.serveOwnObservation_enc (s : State) : s.serveOwnObservation.enc = s.enc := by
  unfold State.serveOwnObservation; split
  · split <;> simp
  · simp
@[simp] theorem State.serveOwnObservation_odo (s : State) : s.serveOwnObservation.odo = s.odo := by
  unfold State.serveOwnObservation; split
  · split <;> simp
  · simp
@[simp] theorem State.serveOwnObservation_beacon (s : State) : s.serveOwnObservation.beacon = s.beacon := by
  unfold State.serveOwnObservation; split
  · split <;> simp
  · simp
@[simp] theorem State.serveOwnObservation_peers (s : State) : s.serveOwnObservation.peers = s.peers := by
  unfold State.serveOwnObservation; split
  · split <;> simp
  · simp
@[simp] theorem State.serveOwnObservation_choices (s : State) : s.serveOwnObservation.choices = s.choices := by
  unfold State.serveOwnObservation; split
  · split <;> simp
  · simp
@[simp] theorem State.serveOwnObservation_pending (s : State) : s.serveOwnObservation.pending = s.pending := by
  unfold State.serveOwnObservation; split
  · split <;> simp
  · simp
@[simp] theorem State.serveOwnCliff_pins (s : State) : s.serveOwnCliff.pins = s.pins := by
  unfold State.serveOwnCliff; split
  · split <;> simp
  · simp
@[simp] theorem State.serveOwnCliff_wall (s : State) : s.serveOwnCliff.wall = s.wall := by
  unfold State.serveOwnCliff; split
  · split <;> simp
  · simp
@[simp] theorem State.serveOwnCliff_bump (s : State) : s.serveOwnCliff.bump = s.bump := by
  unfold State.serveOwnCliff; split
  · split <;> simp
  · simp
@[simp] theorem State.serveOwnCliff_drop (s : State) : s.serveOwnCliff.drop = s.drop := by
  unfold State.serveOwnCliff; split
  · split <;> simp
  · simp
@[simp] theorem State.serveOwnCliff_enc (s : State) : s.serveOwnCliff.enc = s.enc := by
  unfold State.serveOwnCliff; split
  · split <;> simp
  · simp
@[simp] theorem State.serveOwnCliff_odo (s : State) : s.serveOwnCliff.odo = s.odo := by
  unfold State.serveOwnCliff; split
  · split <;> simp
  · simp
@[simp] theorem State.serveOwnCliff_beacon (s : State) : s.serveOwnCliff.beacon = s.beacon := by
  unfold State.serveOwnCliff; split
  · split <;> simp
  · simp
@[simp] theorem State.serveOwnCliff_peers (s : State) : s.serveOwnCliff.peers = s.peers := by
  unfold State.serveOwnCliff; split
  · split <;> simp
  · simp
@[simp] theorem State.serveOwnCliff_choices (s : State) : s.serveOwnCliff.choices = s.choices := by
  unfold State.serveOwnCliff; split
  · split <;> simp
  · simp
@[simp] theorem State.serveOwnCliff_pending (s : State) : s.serveOwnCliff.pending = s.pending := by
  unfold State.serveOwnCliff; split
  · split <;> simp
  · simp
@[simp] theorem State.serveFloorEvidence_pins (s : State) : s.serveFloorEvidence.pins = s.pins := by
  unfold State.serveFloorEvidence; (repeat' split) <;> simp
@[simp] theorem State.serveFloorEvidence_floor (s : State) : s.serveFloorEvidence.floor = s.floor := by
  unfold State.serveFloorEvidence; (repeat' split) <;> simp
@[simp] theorem State.serveFloorEvidence_wall (s : State) : s.serveFloorEvidence.wall = s.wall := by
  unfold State.serveFloorEvidence; (repeat' split) <;> simp
@[simp] theorem State.serveFloorEvidence_bump (s : State) : s.serveFloorEvidence.bump = s.bump := by
  unfold State.serveFloorEvidence; (repeat' split) <;> simp
@[simp] theorem State.serveFloorEvidence_drop (s : State) : s.serveFloorEvidence.drop = s.drop := by
  unfold State.serveFloorEvidence; (repeat' split) <;> simp
@[simp] theorem State.serveFloorEvidence_enc (s : State) : s.serveFloorEvidence.enc = s.enc := by
  unfold State.serveFloorEvidence; (repeat' split) <;> simp
@[simp] theorem State.serveFloorEvidence_odo (s : State) : s.serveFloorEvidence.odo = s.odo := by
  unfold State.serveFloorEvidence; (repeat' split) <;> simp
@[simp] theorem State.serveFloorEvidence_beacon (s : State) : s.serveFloorEvidence.beacon = s.beacon := by
  unfold State.serveFloorEvidence; (repeat' split) <;> simp
@[simp] theorem State.serveFloorEvidence_peers (s : State) : s.serveFloorEvidence.peers = s.peers := by
  unfold State.serveFloorEvidence; (repeat' split) <;> simp
@[simp] theorem State.serveFloorEvidence_choices (s : State) : s.serveFloorEvidence.choices = s.choices := by
  unfold State.serveFloorEvidence; (repeat' split) <;> simp
@[simp] theorem State.serveFloorEvidence_pending (s : State) : s.serveFloorEvidence.pending = s.pending := by
  unfold State.serveFloorEvidence; (repeat' split) <;> simp
@[simp] theorem State.serveWallClear_pins (s : State) : s.serveWallClear.pins = s.pins := by
  unfold State.serveWallClear; split
  · split <;> simp
  · simp
@[simp] theorem State.serveWallClear_floor (s : State) : s.serveWallClear.floor = s.floor := by
  unfold State.serveWallClear; split
  · split <;> simp
  · simp
@[simp] theorem State.serveWallClear_wall (s : State) : s.serveWallClear.wall = s.wall := by
  unfold State.serveWallClear; split
  · split <;> simp
  · simp
@[simp] theorem State.serveWallClear_bump (s : State) : s.serveWallClear.bump = s.bump := by
  unfold State.serveWallClear; split
  · split <;> simp
  · simp
@[simp] theorem State.serveWallClear_drop (s : State) : s.serveWallClear.drop = s.drop := by
  unfold State.serveWallClear; split
  · split <;> simp
  · simp
@[simp] theorem State.serveWallClear_enc (s : State) : s.serveWallClear.enc = s.enc := by
  unfold State.serveWallClear; split
  · split <;> simp
  · simp
@[simp] theorem State.serveWallClear_odo (s : State) : s.serveWallClear.odo = s.odo := by
  unfold State.serveWallClear; split
  · split <;> simp
  · simp
@[simp] theorem State.serveWallClear_beacon (s : State) : s.serveWallClear.beacon = s.beacon := by
  unfold State.serveWallClear; split
  · split <;> simp
  · simp
@[simp] theorem State.serveWallClear_peers (s : State) : s.serveWallClear.peers = s.peers := by
  unfold State.serveWallClear; split
  · split <;> simp
  · simp
@[simp] theorem State.serveWallClear_choices (s : State) : s.serveWallClear.choices = s.choices := by
  unfold State.serveWallClear; split
  · split <;> simp
  · simp
@[simp] theorem State.serveWallClear_pending (s : State) : s.serveWallClear.pending = s.pending := by
  unfold State.serveWallClear; split
  · split <;> simp
  · simp
@[simp] theorem State.servePeerAdd_pins (s : State) : s.servePeerAdd.pins = s.pins := by
  unfold State.servePeerAdd; split
  · split <;> simp
  · simp
@[simp] theorem State.servePeerAdd_floor (s : State) : s.servePeerAdd.floor = s.floor := by
  unfold State.servePeerAdd; split
  · split <;> simp
  · simp
@[simp] theorem State.servePeerAdd_wall (s : State) : s.servePeerAdd.wall = s.wall := by
  unfold State.servePeerAdd; split
  · split <;> simp
  · simp
@[simp] theorem State.servePeerAdd_bump (s : State) : s.servePeerAdd.bump = s.bump := by
  unfold State.servePeerAdd; split
  · split <;> simp
  · simp
@[simp] theorem State.servePeerAdd_drop (s : State) : s.servePeerAdd.drop = s.drop := by
  unfold State.servePeerAdd; split
  · split <;> simp
  · simp
@[simp] theorem State.servePeerAdd_enc (s : State) : s.servePeerAdd.enc = s.enc := by
  unfold State.servePeerAdd; split
  · split <;> simp
  · simp
@[simp] theorem State.servePeerAdd_odo (s : State) : s.servePeerAdd.odo = s.odo := by
  unfold State.servePeerAdd; split
  · split <;> simp
  · simp
@[simp] theorem State.servePeerAdd_beacon (s : State) : s.servePeerAdd.beacon = s.beacon := by
  unfold State.servePeerAdd; split
  · split <;> simp
  · simp
@[simp] theorem State.servePeerAdd_peers (s : State) : s.servePeerAdd.peers = s.peers := by
  unfold State.servePeerAdd; split
  · split <;> simp
  · simp
@[simp] theorem State.servePeerAdd_choices (s : State) : s.servePeerAdd.choices = s.choices := by
  unfold State.servePeerAdd; split
  · split <;> simp
  · simp
@[simp] theorem State.servePeerAdd_pending (s : State) : s.servePeerAdd.pending = s.pending := by
  unfold State.servePeerAdd; split
  · split <;> simp
  · simp
@[simp] theorem State.servePeerUpdate_pins (s : State) : s.servePeerUpdate.pins = s.pins := by
  unfold State.servePeerUpdate; split
  · split <;> simp
  · simp
@[simp] theorem State.servePeerUpdate_floor (s : State) : s.servePeerUpdate.floor = s.floor := by
  unfold State.servePeerUpdate; split
  · split <;> simp
  · simp
@[simp] theorem State.servePeerUpdate_wall (s : State) : s.servePeerUpdate.wall = s.wall := by
  unfold State.servePeerUpdate; split
  · split <;> simp
  · simp
@[simp] theorem State.servePeerUpdate_bump (s : State) : s.servePeerUpdate.bump = s.bump := by
  unfold State.servePeerUpdate; split
  · split <;> simp
  · simp
@[simp] theorem State.servePeerUpdate_drop (s : State) : s.servePeerUpdate.drop = s.drop := by
  unfold State.servePeerUpdate; split
  · split <;> simp
  · simp
@[simp] theorem State.servePeerUpdate_enc (s : State) : s.servePeerUpdate.enc = s.enc := by
  unfold State.servePeerUpdate; split
  · split <;> simp
  · simp
@[simp] theorem State.servePeerUpdate_odo (s : State) : s.servePeerUpdate.odo = s.odo := by
  unfold State.servePeerUpdate; split
  · split <;> simp
  · simp
@[simp] theorem State.servePeerUpdate_beacon (s : State) : s.servePeerUpdate.beacon = s.beacon := by
  unfold State.servePeerUpdate; split
  · split <;> simp
  · simp
@[simp] theorem State.servePeerUpdate_peers (s : State) : s.servePeerUpdate.peers = s.peers := by
  unfold State.servePeerUpdate; split
  · split <;> simp
  · simp
@[simp] theorem State.servePeerUpdate_choices (s : State) : s.servePeerUpdate.choices = s.choices := by
  unfold State.servePeerUpdate; split
  · split <;> simp
  · simp
@[simp] theorem State.servePeerUpdate_pending (s : State) : s.servePeerUpdate.pending = s.pending := by
  unfold State.servePeerUpdate; split
  · split <;> simp
  · simp
@[simp] theorem State.servePeerWithdraw_pins (s : State) : s.servePeerWithdraw.pins = s.pins := by
  unfold State.servePeerWithdraw; split
  · split <;> simp
  · simp
@[simp] theorem State.servePeerWithdraw_floor (s : State) : s.servePeerWithdraw.floor = s.floor := by
  unfold State.servePeerWithdraw; split
  · split <;> simp
  · simp
@[simp] theorem State.servePeerWithdraw_wall (s : State) : s.servePeerWithdraw.wall = s.wall := by
  unfold State.servePeerWithdraw; split
  · split <;> simp
  · simp
@[simp] theorem State.servePeerWithdraw_bump (s : State) : s.servePeerWithdraw.bump = s.bump := by
  unfold State.servePeerWithdraw; split
  · split <;> simp
  · simp
@[simp] theorem State.servePeerWithdraw_drop (s : State) : s.servePeerWithdraw.drop = s.drop := by
  unfold State.servePeerWithdraw; split
  · split <;> simp
  · simp
@[simp] theorem State.servePeerWithdraw_enc (s : State) : s.servePeerWithdraw.enc = s.enc := by
  unfold State.servePeerWithdraw; split
  · split <;> simp
  · simp
@[simp] theorem State.servePeerWithdraw_odo (s : State) : s.servePeerWithdraw.odo = s.odo := by
  unfold State.servePeerWithdraw; split
  · split <;> simp
  · simp
@[simp] theorem State.servePeerWithdraw_beacon (s : State) : s.servePeerWithdraw.beacon = s.beacon := by
  unfold State.servePeerWithdraw; split
  · split <;> simp
  · simp
@[simp] theorem State.servePeerWithdraw_peers (s : State) : s.servePeerWithdraw.peers = s.peers := by
  unfold State.servePeerWithdraw; split
  · split <;> simp
  · simp
@[simp] theorem State.servePeerWithdraw_choices (s : State) : s.servePeerWithdraw.choices = s.choices := by
  unfold State.servePeerWithdraw; split
  · split <;> simp
  · simp
@[simp] theorem State.servePeerWithdraw_pending (s : State) : s.servePeerWithdraw.pending = s.pending := by
  unfold State.servePeerWithdraw; split
  · split <;> simp
  · simp
@[simp] theorem State.serveCheckOutcome_pins (s : State) : s.serveCheckOutcome.pins = s.pins := by
  unfold State.serveCheckOutcome; split
  · split <;> simp
  · simp
@[simp] theorem State.serveCheckOutcome_wall (s : State) : s.serveCheckOutcome.wall = s.wall := by
  unfold State.serveCheckOutcome; split
  · split <;> simp
  · simp
@[simp] theorem State.serveCheckOutcome_bump (s : State) : s.serveCheckOutcome.bump = s.bump := by
  unfold State.serveCheckOutcome; split
  · split <;> simp
  · simp
@[simp] theorem State.serveCheckOutcome_drop (s : State) : s.serveCheckOutcome.drop = s.drop := by
  unfold State.serveCheckOutcome; split
  · split <;> simp
  · simp
@[simp] theorem State.serveCheckOutcome_enc (s : State) : s.serveCheckOutcome.enc = s.enc := by
  unfold State.serveCheckOutcome; split
  · split <;> simp
  · simp
@[simp] theorem State.serveCheckOutcome_odo (s : State) : s.serveCheckOutcome.odo = s.odo := by
  unfold State.serveCheckOutcome; split
  · split <;> simp
  · simp
@[simp] theorem State.serveCheckOutcome_beacon (s : State) : s.serveCheckOutcome.beacon = s.beacon := by
  unfold State.serveCheckOutcome; split
  · split <;> simp
  · simp
@[simp] theorem State.serveCheckOutcome_peers (s : State) : s.serveCheckOutcome.peers = s.peers := by
  unfold State.serveCheckOutcome; split
  · split <;> simp
  · simp
@[simp] theorem State.serveCheckOutcome_choices (s : State) : s.serveCheckOutcome.choices = s.choices := by
  unfold State.serveCheckOutcome; split
  · split <;> simp
  · simp
@[simp] theorem State.serveCheckOutcome_pending (s : State) : s.serveCheckOutcome.pending = s.pending := by
  unfold State.serveCheckOutcome; split
  · split <;> simp
  · simp
@[simp] theorem State.serveLookup_pins (s : State) : s.serveLookup.pins = s.pins := by
  unfold State.serveLookup; split
  · split <;> simp
  · simp
@[simp] theorem State.serveLookup_floor (s : State) : s.serveLookup.floor = s.floor := by
  unfold State.serveLookup; split
  · split <;> simp
  · simp
@[simp] theorem State.serveLookup_wall (s : State) : s.serveLookup.wall = s.wall := by
  unfold State.serveLookup; split
  · split <;> simp
  · simp
@[simp] theorem State.serveLookup_bump (s : State) : s.serveLookup.bump = s.bump := by
  unfold State.serveLookup; split
  · split <;> simp
  · simp
@[simp] theorem State.serveLookup_drop (s : State) : s.serveLookup.drop = s.drop := by
  unfold State.serveLookup; split
  · split <;> simp
  · simp
@[simp] theorem State.serveLookup_enc (s : State) : s.serveLookup.enc = s.enc := by
  unfold State.serveLookup; split
  · split <;> simp
  · simp
@[simp] theorem State.serveLookup_odo (s : State) : s.serveLookup.odo = s.odo := by
  unfold State.serveLookup; split
  · split <;> simp
  · simp
@[simp] theorem State.serveLookup_report (s : State) : s.serveLookup.report = s.report := by
  unfold State.serveLookup; split
  · split <;> simp
  · simp
@[simp] theorem State.serveLookup_clear (s : State) : s.serveLookup.clear = s.clear := by
  unfold State.serveLookup; split
  · split <;> simp
  · simp
@[simp] theorem State.serveLookup_beacon (s : State) : s.serveLookup.beacon = s.beacon := by
  unfold State.serveLookup; split
  · split <;> simp
  · simp
@[simp] theorem State.serveLookup_peers (s : State) : s.serveLookup.peers = s.peers := by
  unfold State.serveLookup; split
  · split <;> simp
  · simp
@[simp] theorem State.serveLookup_choices (s : State) : s.serveLookup.choices = s.choices := by
  unfold State.serveLookup; split
  · split <;> simp
  · simp
@[simp] theorem State.serveLookup_pending (s : State) : s.serveLookup.pending = s.pending := by
  unfold State.serveLookup; split
  · split <;> simp
  · simp
@[simp] theorem State.floorPeriodExpiry_pins (s : State) : s.floorPeriodExpiry.pins = s.pins := by
  unfold State.floorPeriodExpiry; split <;> simp
@[simp] theorem State.floorPeriodExpiry_startup (s : State) : s.floorPeriodExpiry.startup = s.startup := by
  unfold State.floorPeriodExpiry; split <;> simp
@[simp] theorem State.floorPeriodExpiry_wall (s : State) : s.floorPeriodExpiry.wall = s.wall := by
  unfold State.floorPeriodExpiry; split <;> simp
@[simp] theorem State.floorPeriodExpiry_bump (s : State) : s.floorPeriodExpiry.bump = s.bump := by
  unfold State.floorPeriodExpiry; split <;> simp
@[simp] theorem State.floorPeriodExpiry_drop (s : State) : s.floorPeriodExpiry.drop = s.drop := by
  unfold State.floorPeriodExpiry; split <;> simp
@[simp] theorem State.floorPeriodExpiry_enc (s : State) : s.floorPeriodExpiry.enc = s.enc := by
  unfold State.floorPeriodExpiry; split <;> simp
@[simp] theorem State.floorPeriodExpiry_odo (s : State) : s.floorPeriodExpiry.odo = s.odo := by
  unfold State.floorPeriodExpiry; split <;> simp
@[simp] theorem State.floorPeriodExpiry_table (s : State) : s.floorPeriodExpiry.table = s.table := by
  unfold State.floorPeriodExpiry; split <;> simp
@[simp] theorem State.floorPeriodExpiry_report (s : State) : s.floorPeriodExpiry.report = s.report := by
  unfold State.floorPeriodExpiry; split <;> simp
@[simp] theorem State.floorPeriodExpiry_clear (s : State) : s.floorPeriodExpiry.clear = s.clear := by
  unfold State.floorPeriodExpiry; split <;> simp
@[simp] theorem State.floorPeriodExpiry_beacon (s : State) : s.floorPeriodExpiry.beacon = s.beacon := by
  unfold State.floorPeriodExpiry; split <;> simp
@[simp] theorem State.floorPeriodExpiry_peers (s : State) : s.floorPeriodExpiry.peers = s.peers := by
  unfold State.floorPeriodExpiry; split <;> simp
@[simp] theorem State.floorPeriodExpiry_link (s : State) : s.floorPeriodExpiry.link = s.link := by
  unfold State.floorPeriodExpiry; split <;> simp
@[simp] theorem State.floorPeriodExpiry_choices (s : State) : s.floorPeriodExpiry.choices = s.choices := by
  unfold State.floorPeriodExpiry; split <;> simp
@[simp] theorem State.floorPeriodExpiry_pending (s : State) : s.floorPeriodExpiry.pending = s.pending := by
  unfold State.floorPeriodExpiry; split <;> simp
@[simp] theorem State.wallPeriodExpiry_pins (s : State) : s.wallPeriodExpiry.pins = s.pins := by
  unfold State.wallPeriodExpiry; split <;> simp
@[simp] theorem State.wallPeriodExpiry_startup (s : State) : s.wallPeriodExpiry.startup = s.startup := by
  unfold State.wallPeriodExpiry; split <;> simp
@[simp] theorem State.wallPeriodExpiry_floor (s : State) : s.wallPeriodExpiry.floor = s.floor := by
  unfold State.wallPeriodExpiry; split <;> simp
@[simp] theorem State.wallPeriodExpiry_bump (s : State) : s.wallPeriodExpiry.bump = s.bump := by
  unfold State.wallPeriodExpiry; split <;> simp
@[simp] theorem State.wallPeriodExpiry_drop (s : State) : s.wallPeriodExpiry.drop = s.drop := by
  unfold State.wallPeriodExpiry; split <;> simp
@[simp] theorem State.wallPeriodExpiry_enc (s : State) : s.wallPeriodExpiry.enc = s.enc := by
  unfold State.wallPeriodExpiry; split <;> simp
@[simp] theorem State.wallPeriodExpiry_odo (s : State) : s.wallPeriodExpiry.odo = s.odo := by
  unfold State.wallPeriodExpiry; split <;> simp
@[simp] theorem State.wallPeriodExpiry_table (s : State) : s.wallPeriodExpiry.table = s.table := by
  unfold State.wallPeriodExpiry; split <;> simp
@[simp] theorem State.wallPeriodExpiry_report (s : State) : s.wallPeriodExpiry.report = s.report := by
  unfold State.wallPeriodExpiry; split <;> simp
@[simp] theorem State.wallPeriodExpiry_clear (s : State) : s.wallPeriodExpiry.clear = s.clear := by
  unfold State.wallPeriodExpiry; split <;> simp
@[simp] theorem State.wallPeriodExpiry_beacon (s : State) : s.wallPeriodExpiry.beacon = s.beacon := by
  unfold State.wallPeriodExpiry; split <;> simp
@[simp] theorem State.wallPeriodExpiry_peers (s : State) : s.wallPeriodExpiry.peers = s.peers := by
  unfold State.wallPeriodExpiry; split <;> simp
@[simp] theorem State.wallPeriodExpiry_link (s : State) : s.wallPeriodExpiry.link = s.link := by
  unfold State.wallPeriodExpiry; split <;> simp
@[simp] theorem State.wallPeriodExpiry_choices (s : State) : s.wallPeriodExpiry.choices = s.choices := by
  unfold State.wallPeriodExpiry; split <;> simp
@[simp] theorem State.wallPeriodExpiry_pending (s : State) : s.wallPeriodExpiry.pending = s.pending := by
  unfold State.wallPeriodExpiry; split <;> simp
@[simp] theorem State.guardedStart_pins (s : State) (c : Chan) : (s.guardedStart c).pins = s.pins := by
  unfold State.guardedStart; (repeat' split) <;> simp
@[simp] theorem State.guardedStart_startup (s : State) (c : Chan) : (s.guardedStart c).startup = s.startup := by
  unfold State.guardedStart; (repeat' split) <;> simp
@[simp] theorem State.guardedStart_bump (s : State) (c : Chan) : (s.guardedStart c).bump = s.bump := by
  unfold State.guardedStart; (repeat' split) <;> simp
@[simp] theorem State.guardedStart_drop (s : State) (c : Chan) : (s.guardedStart c).drop = s.drop := by
  unfold State.guardedStart; (repeat' split) <;> simp
@[simp] theorem State.guardedStart_enc (s : State) (c : Chan) : (s.guardedStart c).enc = s.enc := by
  unfold State.guardedStart; (repeat' split) <;> simp
@[simp] theorem State.guardedStart_odo (s : State) (c : Chan) : (s.guardedStart c).odo = s.odo := by
  unfold State.guardedStart; (repeat' split) <;> simp
@[simp] theorem State.guardedStart_table (s : State) (c : Chan) : (s.guardedStart c).table = s.table := by
  unfold State.guardedStart; (repeat' split) <;> simp
@[simp] theorem State.guardedStart_report (s : State) (c : Chan) : (s.guardedStart c).report = s.report := by
  unfold State.guardedStart; (repeat' split) <;> simp
@[simp] theorem State.guardedStart_clear (s : State) (c : Chan) : (s.guardedStart c).clear = s.clear := by
  unfold State.guardedStart; (repeat' split) <;> simp
@[simp] theorem State.guardedStart_beacon (s : State) (c : Chan) : (s.guardedStart c).beacon = s.beacon := by
  unfold State.guardedStart; (repeat' split) <;> simp
@[simp] theorem State.guardedStart_peers (s : State) (c : Chan) : (s.guardedStart c).peers = s.peers := by
  unfold State.guardedStart; (repeat' split) <;> simp
@[simp] theorem State.guardedStart_link (s : State) (c : Chan) : (s.guardedStart c).link = s.link := by
  unfold State.guardedStart; (repeat' split) <;> simp
@[simp] theorem State.guardedStart_choices (s : State) (c : Chan) : (s.guardedStart c).choices = s.choices := by
  unfold State.guardedStart; (repeat' split) <;> simp
@[simp] theorem State.guardedStart_pending (s : State) (c : Chan) : (s.guardedStart c).pending = s.pending := by
  unfold State.guardedStart; (repeat' split) <;> simp
@[simp] theorem State.floorBurstEnd_pins (s : State) (a l : BitVec 10) : (s.floorBurstEnd a l).pins = s.pins := by
  unfold State.floorBurstEnd; split <;> simp
@[simp] theorem State.floorBurstEnd_bump (s : State) (a l : BitVec 10) : (s.floorBurstEnd a l).bump = s.bump := by
  unfold State.floorBurstEnd; split <;> simp
@[simp] theorem State.floorBurstEnd_drop (s : State) (a l : BitVec 10) : (s.floorBurstEnd a l).drop = s.drop := by
  unfold State.floorBurstEnd; split <;> simp
@[simp] theorem State.floorBurstEnd_enc (s : State) (a l : BitVec 10) : (s.floorBurstEnd a l).enc = s.enc := by
  unfold State.floorBurstEnd; split <;> simp
@[simp] theorem State.floorBurstEnd_odo (s : State) (a l : BitVec 10) : (s.floorBurstEnd a l).odo = s.odo := by
  unfold State.floorBurstEnd; split <;> simp
@[simp] theorem State.floorBurstEnd_beacon (s : State) (a l : BitVec 10) : (s.floorBurstEnd a l).beacon = s.beacon := by
  unfold State.floorBurstEnd; split <;> simp
@[simp] theorem State.floorBurstEnd_peers (s : State) (a l : BitVec 10) : (s.floorBurstEnd a l).peers = s.peers := by
  unfold State.floorBurstEnd; split <;> simp
@[simp] theorem State.floorBurstEnd_choices (s : State) (a l : BitVec 10) : (s.floorBurstEnd a l).choices = s.choices := by
  unfold State.floorBurstEnd; split <;> simp
@[simp] theorem State.floorBurstEnd_pending (s : State) (a l : BitVec 10) : (s.floorBurstEnd a l).pending = s.pending := by
  unfold State.floorBurstEnd; split <;> simp
@[simp] theorem State.wallBurstEnd_pins (s : State) (a l : BitVec 10) : (s.wallBurstEnd a l).pins = s.pins := by
  unfold State.wallBurstEnd; split <;> simp
@[simp] theorem State.wallBurstEnd_bump (s : State) (a l : BitVec 10) : (s.wallBurstEnd a l).bump = s.bump := by
  unfold State.wallBurstEnd; split <;> simp
@[simp] theorem State.wallBurstEnd_drop (s : State) (a l : BitVec 10) : (s.wallBurstEnd a l).drop = s.drop := by
  unfold State.wallBurstEnd; split <;> simp
@[simp] theorem State.wallBurstEnd_enc (s : State) (a l : BitVec 10) : (s.wallBurstEnd a l).enc = s.enc := by
  unfold State.wallBurstEnd; split <;> simp
@[simp] theorem State.wallBurstEnd_odo (s : State) (a l : BitVec 10) : (s.wallBurstEnd a l).odo = s.odo := by
  unfold State.wallBurstEnd; split <;> simp
@[simp] theorem State.wallBurstEnd_beacon (s : State) (a l : BitVec 10) : (s.wallBurstEnd a l).beacon = s.beacon := by
  unfold State.wallBurstEnd; split <;> simp
@[simp] theorem State.wallBurstEnd_peers (s : State) (a l : BitVec 10) : (s.wallBurstEnd a l).peers = s.peers := by
  unfold State.wallBurstEnd; split <;> simp
@[simp] theorem State.wallBurstEnd_choices (s : State) (a l : BitVec 10) : (s.wallBurstEnd a l).choices = s.choices := by
  unfold State.wallBurstEnd; split <;> simp
@[simp] theorem State.wallBurstEnd_pending (s : State) (a l : BitVec 10) : (s.wallBurstEnd a l).pending = s.pending := by
  unfold State.wallBurstEnd; split <;> simp
@[simp] theorem State.bumpChange_floor (s : State) (b : Bool) : (s.bumpChange b).floor = s.floor := by
  unfold State.bumpChange; dsimp only; (repeat' split) <;> simp
@[simp] theorem State.bumpChange_wall (s : State) (b : Bool) : (s.bumpChange b).wall = s.wall := by
  unfold State.bumpChange; dsimp only; (repeat' split) <;> simp
@[simp] theorem State.bumpChange_drop (s : State) (b : Bool) : (s.bumpChange b).drop = s.drop := by
  unfold State.bumpChange; dsimp only; (repeat' split) <;> simp
@[simp] theorem State.bumpChange_enc (s : State) (b : Bool) : (s.bumpChange b).enc = s.enc := by
  unfold State.bumpChange; dsimp only; (repeat' split) <;> simp
@[simp] theorem State.bumpChange_odo (s : State) (b : Bool) : (s.bumpChange b).odo = s.odo := by
  unfold State.bumpChange; dsimp only; (repeat' split) <;> simp
@[simp] theorem State.bumpChange_beacon (s : State) (b : Bool) : (s.bumpChange b).beacon = s.beacon := by
  unfold State.bumpChange; dsimp only; (repeat' split) <;> simp
@[simp] theorem State.bumpChange_peers (s : State) (b : Bool) : (s.bumpChange b).peers = s.peers := by
  unfold State.bumpChange; dsimp only; (repeat' split) <;> simp
@[simp] theorem State.bumpChange_choices (s : State) (b : Bool) : (s.bumpChange b).choices = s.choices := by
  unfold State.bumpChange; dsimp only; (repeat' split) <;> simp
@[simp] theorem State.bumpChange_pending (s : State) (b : Bool) : (s.bumpChange b).pending = s.pending := by
  unfold State.bumpChange; dsimp only; (repeat' split) <;> simp
@[simp] theorem State.dropChange_wall (s : State) (b : Bool) : (s.dropChange b).wall = s.wall := by
  unfold State.dropChange; dsimp only; split <;> simp
@[simp] theorem State.dropChange_bump (s : State) (b : Bool) : (s.dropChange b).bump = s.bump := by
  unfold State.dropChange; dsimp only; split <;> simp
@[simp] theorem State.dropChange_enc (s : State) (b : Bool) : (s.dropChange b).enc = s.enc := by
  unfold State.dropChange; dsimp only; split <;> simp
@[simp] theorem State.dropChange_odo (s : State) (b : Bool) : (s.dropChange b).odo = s.odo := by
  unfold State.dropChange; dsimp only; split <;> simp
@[simp] theorem State.dropChange_table (s : State) (b : Bool) : (s.dropChange b).table = s.table := by
  unfold State.dropChange; dsimp only; split <;> simp
@[simp] theorem State.dropChange_report (s : State) (b : Bool) : (s.dropChange b).report = s.report := by
  unfold State.dropChange; dsimp only; split <;> simp
@[simp] theorem State.dropChange_beacon (s : State) (b : Bool) : (s.dropChange b).beacon = s.beacon := by
  unfold State.dropChange; dsimp only; split <;> simp
@[simp] theorem State.dropChange_peers (s : State) (b : Bool) : (s.dropChange b).peers = s.peers := by
  unfold State.dropChange; dsimp only; split <;> simp
@[simp] theorem State.dropChange_choices (s : State) (b : Bool) : (s.dropChange b).choices = s.choices := by
  unfold State.dropChange; dsimp only; split <;> simp
@[simp] theorem State.dropChange_pending (s : State) (b : Bool) : (s.dropChange b).pending = s.pending := by
  unfold State.dropChange; dsimp only; split <;> simp
@[simp] theorem State.encoderEdge_startup (s : State) (w : Wheel) (a b : Bool) : (s.encoderEdge w a b).startup = s.startup := by
  unfold State.encoderEdge; dsimp only; split <;> simp
@[simp] theorem State.encoderEdge_floor (s : State) (w : Wheel) (a b : Bool) : (s.encoderEdge w a b).floor = s.floor := by
  unfold State.encoderEdge; dsimp only; split <;> simp
@[simp] theorem State.encoderEdge_wall (s : State) (w : Wheel) (a b : Bool) : (s.encoderEdge w a b).wall = s.wall := by
  unfold State.encoderEdge; dsimp only; split <;> simp
@[simp] theorem State.encoderEdge_bump (s : State) (w : Wheel) (a b : Bool) : (s.encoderEdge w a b).bump = s.bump := by
  unfold State.encoderEdge; dsimp only; split <;> simp
@[simp] theorem State.encoderEdge_drop (s : State) (w : Wheel) (a b : Bool) : (s.encoderEdge w a b).drop = s.drop := by
  unfold State.encoderEdge; dsimp only; split <;> simp
@[simp] theorem State.encoderEdge_odo (s : State) (w : Wheel) (a b : Bool) : (s.encoderEdge w a b).odo = s.odo := by
  unfold State.encoderEdge; dsimp only; split <;> simp
@[simp] theorem State.encoderEdge_table (s : State) (w : Wheel) (a b : Bool) : (s.encoderEdge w a b).table = s.table := by
  unfold State.encoderEdge; dsimp only; split <;> simp
@[simp] theorem State.encoderEdge_report (s : State) (w : Wheel) (a b : Bool) : (s.encoderEdge w a b).report = s.report := by
  unfold State.encoderEdge; dsimp only; split <;> simp
@[simp] theorem State.encoderEdge_clear (s : State) (w : Wheel) (a b : Bool) : (s.encoderEdge w a b).clear = s.clear := by
  unfold State.encoderEdge; dsimp only; split <;> simp
@[simp] theorem State.encoderEdge_beacon (s : State) (w : Wheel) (a b : Bool) : (s.encoderEdge w a b).beacon = s.beacon := by
  unfold State.encoderEdge; dsimp only; split <;> simp
@[simp] theorem State.encoderEdge_peers (s : State) (w : Wheel) (a b : Bool) : (s.encoderEdge w a b).peers = s.peers := by
  unfold State.encoderEdge; dsimp only; split <;> simp
@[simp] theorem State.encoderEdge_link (s : State) (w : Wheel) (a b : Bool) : (s.encoderEdge w a b).link = s.link := by
  unfold State.encoderEdge; dsimp only; split <;> simp
@[simp] theorem State.encoderEdge_choices (s : State) (w : Wheel) (a b : Bool) : (s.encoderEdge w a b).choices = s.choices := by
  unfold State.encoderEdge; dsimp only; split <;> simp
@[simp] theorem State.encoderEdge_pending (s : State) (w : Wheel) (a b : Bool) : (s.encoderEdge w a b).pending = s.pending := by
  unfold State.encoderEdge; dsimp only; split <;> simp
@[simp] theorem State.odoTimerExpiry_pins (s : State) : s.odoTimerExpiry.pins = s.pins := by
  unfold State.odoTimerExpiry; split <;> simp
@[simp] theorem State.odoTimerExpiry_floor (s : State) : s.odoTimerExpiry.floor = s.floor := by
  unfold State.odoTimerExpiry; split <;> simp
@[simp] theorem State.odoTimerExpiry_wall (s : State) : s.odoTimerExpiry.wall = s.wall := by
  unfold State.odoTimerExpiry; split <;> simp
@[simp] theorem State.odoTimerExpiry_bump (s : State) : s.odoTimerExpiry.bump = s.bump := by
  unfold State.odoTimerExpiry; split <;> simp
@[simp] theorem State.odoTimerExpiry_drop (s : State) : s.odoTimerExpiry.drop = s.drop := by
  unfold State.odoTimerExpiry; split <;> simp
@[simp] theorem State.odoTimerExpiry_odo (s : State) : s.odoTimerExpiry.odo = s.odo := by
  unfold State.odoTimerExpiry; split <;> simp
@[simp] theorem State.odoTimerExpiry_table (s : State) : s.odoTimerExpiry.table = s.table := by
  unfold State.odoTimerExpiry; split <;> simp
@[simp] theorem State.odoTimerExpiry_report (s : State) : s.odoTimerExpiry.report = s.report := by
  unfold State.odoTimerExpiry; split <;> simp
@[simp] theorem State.odoTimerExpiry_clear (s : State) : s.odoTimerExpiry.clear = s.clear := by
  unfold State.odoTimerExpiry; split <;> simp
@[simp] theorem State.odoTimerExpiry_beacon (s : State) : s.odoTimerExpiry.beacon = s.beacon := by
  unfold State.odoTimerExpiry; split <;> simp
@[simp] theorem State.odoTimerExpiry_peers (s : State) : s.odoTimerExpiry.peers = s.peers := by
  unfold State.odoTimerExpiry; split <;> simp
@[simp] theorem State.odoTimerExpiry_choices (s : State) : s.odoTimerExpiry.choices = s.choices := by
  unfold State.odoTimerExpiry; split <;> simp
@[simp] theorem State.odoTimerExpiry_pending (s : State) : s.odoTimerExpiry.pending = s.pending := by
  unfold State.odoTimerExpiry; split <;> simp
@[simp] theorem State.stalledTimerExpiry_pins (s : State) : s.stalledTimerExpiry.pins = s.pins := by
  unfold State.stalledTimerExpiry; split <;> simp
@[simp] theorem State.stalledTimerExpiry_floor (s : State) : s.stalledTimerExpiry.floor = s.floor := by
  unfold State.stalledTimerExpiry; split <;> simp
@[simp] theorem State.stalledTimerExpiry_wall (s : State) : s.stalledTimerExpiry.wall = s.wall := by
  unfold State.stalledTimerExpiry; split <;> simp
@[simp] theorem State.stalledTimerExpiry_bump (s : State) : s.stalledTimerExpiry.bump = s.bump := by
  unfold State.stalledTimerExpiry; split <;> simp
@[simp] theorem State.stalledTimerExpiry_drop (s : State) : s.stalledTimerExpiry.drop = s.drop := by
  unfold State.stalledTimerExpiry; split <;> simp
@[simp] theorem State.stalledTimerExpiry_enc (s : State) : s.stalledTimerExpiry.enc = s.enc := by
  unfold State.stalledTimerExpiry; split <;> simp
@[simp] theorem State.stalledTimerExpiry_table (s : State) : s.stalledTimerExpiry.table = s.table := by
  unfold State.stalledTimerExpiry; split <;> simp
@[simp] theorem State.stalledTimerExpiry_report (s : State) : s.stalledTimerExpiry.report = s.report := by
  unfold State.stalledTimerExpiry; split <;> simp
@[simp] theorem State.stalledTimerExpiry_beacon (s : State) : s.stalledTimerExpiry.beacon = s.beacon := by
  unfold State.stalledTimerExpiry; split <;> simp
@[simp] theorem State.stalledTimerExpiry_peers (s : State) : s.stalledTimerExpiry.peers = s.peers := by
  unfold State.stalledTimerExpiry; split <;> simp
@[simp] theorem State.stalledTimerExpiry_choices (s : State) : s.stalledTimerExpiry.choices = s.choices := by
  unfold State.stalledTimerExpiry; split <;> simp
@[simp] theorem State.stalledTimerExpiry_pending (s : State) : s.stalledTimerExpiry.pending = s.pending := by
  unfold State.stalledTimerExpiry; split <;> simp
@[simp] theorem State.odoClashHoldExpiry_pins (s : State) : s.odoClashHoldExpiry.pins = s.pins := by
  unfold State.odoClashHoldExpiry; split <;> simp
@[simp] theorem State.odoClashHoldExpiry_floor (s : State) : s.odoClashHoldExpiry.floor = s.floor := by
  unfold State.odoClashHoldExpiry; split <;> simp
@[simp] theorem State.odoClashHoldExpiry_wall (s : State) : s.odoClashHoldExpiry.wall = s.wall := by
  unfold State.odoClashHoldExpiry; split <;> simp
@[simp] theorem State.odoClashHoldExpiry_bump (s : State) : s.odoClashHoldExpiry.bump = s.bump := by
  unfold State.odoClashHoldExpiry; split <;> simp
@[simp] theorem State.odoClashHoldExpiry_drop (s : State) : s.odoClashHoldExpiry.drop = s.drop := by
  unfold State.odoClashHoldExpiry; split <;> simp
@[simp] theorem State.odoClashHoldExpiry_enc (s : State) : s.odoClashHoldExpiry.enc = s.enc := by
  unfold State.odoClashHoldExpiry; split <;> simp
@[simp] theorem State.odoClashHoldExpiry_table (s : State) : s.odoClashHoldExpiry.table = s.table := by
  unfold State.odoClashHoldExpiry; split <;> simp
@[simp] theorem State.odoClashHoldExpiry_report (s : State) : s.odoClashHoldExpiry.report = s.report := by
  unfold State.odoClashHoldExpiry; split <;> simp
@[simp] theorem State.odoClashHoldExpiry_beacon (s : State) : s.odoClashHoldExpiry.beacon = s.beacon := by
  unfold State.odoClashHoldExpiry; split <;> simp
@[simp] theorem State.odoClashHoldExpiry_peers (s : State) : s.odoClashHoldExpiry.peers = s.peers := by
  unfold State.odoClashHoldExpiry; split <;> simp
@[simp] theorem State.odoClashHoldExpiry_choices (s : State) : s.odoClashHoldExpiry.choices = s.choices := by
  unfold State.odoClashHoldExpiry; split <;> simp
@[simp] theorem State.odoClashHoldExpiry_pending (s : State) : s.odoClashHoldExpiry.pending = s.pending := by
  unfold State.odoClashHoldExpiry; split <;> simp
@[simp] theorem State.checkTimeout_pins (s : State) : s.checkTimeout.pins = s.pins := by
  unfold State.checkTimeout; split <;> simp
@[simp] theorem State.checkTimeout_floor (s : State) : s.checkTimeout.floor = s.floor := by
  unfold State.checkTimeout; split <;> simp
@[simp] theorem State.checkTimeout_wall (s : State) : s.checkTimeout.wall = s.wall := by
  unfold State.checkTimeout; split <;> simp
@[simp] theorem State.checkTimeout_bump (s : State) : s.checkTimeout.bump = s.bump := by
  unfold State.checkTimeout; split <;> simp
@[simp] theorem State.checkTimeout_drop (s : State) : s.checkTimeout.drop = s.drop := by
  unfold State.checkTimeout; split <;> simp
@[simp] theorem State.checkTimeout_enc (s : State) : s.checkTimeout.enc = s.enc := by
  unfold State.checkTimeout; split <;> simp
@[simp] theorem State.checkTimeout_odo (s : State) : s.checkTimeout.odo = s.odo := by
  unfold State.checkTimeout; split <;> simp
@[simp] theorem State.checkTimeout_beacon (s : State) : s.checkTimeout.beacon = s.beacon := by
  unfold State.checkTimeout; split <;> simp
@[simp] theorem State.checkTimeout_peers (s : State) : s.checkTimeout.peers = s.peers := by
  unfold State.checkTimeout; split <;> simp
@[simp] theorem State.checkTimeout_choices (s : State) : s.checkTimeout.choices = s.choices := by
  unfold State.checkTimeout; split <;> simp
@[simp] theorem State.checkTimeout_pending (s : State) : s.checkTimeout.pending = s.pending := by
  unfold State.checkTimeout; split <;> simp
@[simp] theorem State.beaconByte_pins (s : State) (c : List Bool) : (s.beaconByte c).pins = s.pins := by
  unfold State.beaconByte; split <;> simp
@[simp] theorem State.beaconByte_startup (s : State) (c : List Bool) : (s.beaconByte c).startup = s.startup := by
  unfold State.beaconByte; split <;> simp
@[simp] theorem State.beaconByte_floor (s : State) (c : List Bool) : (s.beaconByte c).floor = s.floor := by
  unfold State.beaconByte; split <;> simp
@[simp] theorem State.beaconByte_wall (s : State) (c : List Bool) : (s.beaconByte c).wall = s.wall := by
  unfold State.beaconByte; split <;> simp
@[simp] theorem State.beaconByte_bump (s : State) (c : List Bool) : (s.beaconByte c).bump = s.bump := by
  unfold State.beaconByte; split <;> simp
@[simp] theorem State.beaconByte_drop (s : State) (c : List Bool) : (s.beaconByte c).drop = s.drop := by
  unfold State.beaconByte; split <;> simp
@[simp] theorem State.beaconByte_enc (s : State) (c : List Bool) : (s.beaconByte c).enc = s.enc := by
  unfold State.beaconByte; split <;> simp
@[simp] theorem State.beaconByte_odo (s : State) (c : List Bool) : (s.beaconByte c).odo = s.odo := by
  unfold State.beaconByte; split <;> simp
@[simp] theorem State.beaconByte_table (s : State) (c : List Bool) : (s.beaconByte c).table = s.table := by
  unfold State.beaconByte; split <;> simp
@[simp] theorem State.beaconByte_report (s : State) (c : List Bool) : (s.beaconByte c).report = s.report := by
  unfold State.beaconByte; split <;> simp
@[simp] theorem State.beaconByte_clear (s : State) (c : List Bool) : (s.beaconByte c).clear = s.clear := by
  unfold State.beaconByte; split <;> simp
@[simp] theorem State.beaconByte_peers (s : State) (c : List Bool) : (s.beaconByte c).peers = s.peers := by
  unfold State.beaconByte; split <;> simp
@[simp] theorem State.beaconByte_choices (s : State) (c : List Bool) : (s.beaconByte c).choices = s.choices := by
  unfold State.beaconByte; split <;> simp
@[simp] theorem State.beaconByte_pending (s : State) (c : List Bool) : (s.beaconByte c).pending = s.pending := by
  unfold State.beaconByte; split <;> simp
@[simp] theorem State.acceptBeacon_pins (s : State) (m : Bool) (n : Nat) : (s.acceptBeacon m n).pins = s.pins := by
  unfold State.acceptBeacon; dsimp only; split <;> simp
@[simp] theorem State.acceptBeacon_startup (s : State) (m : Bool) (n : Nat) : (s.acceptBeacon m n).startup = s.startup := by
  unfold State.acceptBeacon; dsimp only; split <;> simp
@[simp] theorem State.acceptBeacon_floor (s : State) (m : Bool) (n : Nat) : (s.acceptBeacon m n).floor = s.floor := by
  unfold State.acceptBeacon; dsimp only; split <;> simp
@[simp] theorem State.acceptBeacon_wall (s : State) (m : Bool) (n : Nat) : (s.acceptBeacon m n).wall = s.wall := by
  unfold State.acceptBeacon; dsimp only; split <;> simp
@[simp] theorem State.acceptBeacon_bump (s : State) (m : Bool) (n : Nat) : (s.acceptBeacon m n).bump = s.bump := by
  unfold State.acceptBeacon; dsimp only; split <;> simp
@[simp] theorem State.acceptBeacon_drop (s : State) (m : Bool) (n : Nat) : (s.acceptBeacon m n).drop = s.drop := by
  unfold State.acceptBeacon; dsimp only; split <;> simp
@[simp] theorem State.acceptBeacon_enc (s : State) (m : Bool) (n : Nat) : (s.acceptBeacon m n).enc = s.enc := by
  unfold State.acceptBeacon; dsimp only; split <;> simp
@[simp] theorem State.acceptBeacon_odo (s : State) (m : Bool) (n : Nat) : (s.acceptBeacon m n).odo = s.odo := by
  unfold State.acceptBeacon; dsimp only; split <;> simp
@[simp] theorem State.acceptBeacon_table (s : State) (m : Bool) (n : Nat) : (s.acceptBeacon m n).table = s.table := by
  unfold State.acceptBeacon; dsimp only; split <;> simp
@[simp] theorem State.acceptBeacon_report (s : State) (m : Bool) (n : Nat) : (s.acceptBeacon m n).report = s.report := by
  unfold State.acceptBeacon; dsimp only; split <;> simp
@[simp] theorem State.acceptBeacon_clear (s : State) (m : Bool) (n : Nat) : (s.acceptBeacon m n).clear = s.clear := by
  unfold State.acceptBeacon; dsimp only; split <;> simp
@[simp] theorem State.acceptBeacon_peers (s : State) (m : Bool) (n : Nat) : (s.acceptBeacon m n).peers = s.peers := by
  unfold State.acceptBeacon; dsimp only; split <;> simp
@[simp] theorem State.acceptBeacon_choices (s : State) (m : Bool) (n : Nat) : (s.acceptBeacon m n).choices = s.choices := by
  unfold State.acceptBeacon; dsimp only; split <;> simp
@[simp] theorem State.acceptBeacon_pending (s : State) (m : Bool) (n : Nat) : (s.acceptBeacon m n).pending = s.pending := by
  unfold State.acceptBeacon; dsimp only; split <;> simp
@[simp] theorem State.beaconEdge_startup (s : State) (m : Bool) (n : Nat) : (s.beaconEdge m n).startup = s.startup := by
  unfold State.beaconEdge; dsimp only; split <;> simp
@[simp] theorem State.beaconEdge_floor (s : State) (m : Bool) (n : Nat) : (s.beaconEdge m n).floor = s.floor := by
  unfold State.beaconEdge; dsimp only; split <;> simp
@[simp] theorem State.beaconEdge_wall (s : State) (m : Bool) (n : Nat) : (s.beaconEdge m n).wall = s.wall := by
  unfold State.beaconEdge; dsimp only; split <;> simp
@[simp] theorem State.beaconEdge_bump (s : State) (m : Bool) (n : Nat) : (s.beaconEdge m n).bump = s.bump := by
  unfold State.beaconEdge; dsimp only; split <;> simp
@[simp] theorem State.beaconEdge_drop (s : State) (m : Bool) (n : Nat) : (s.beaconEdge m n).drop = s.drop := by
  unfold State.beaconEdge; dsimp only; split <;> simp
@[simp] theorem State.beaconEdge_enc (s : State) (m : Bool) (n : Nat) : (s.beaconEdge m n).enc = s.enc := by
  unfold State.beaconEdge; dsimp only; split <;> simp
@[simp] theorem State.beaconEdge_odo (s : State) (m : Bool) (n : Nat) : (s.beaconEdge m n).odo = s.odo := by
  unfold State.beaconEdge; dsimp only; split <;> simp
@[simp] theorem State.beaconEdge_table (s : State) (m : Bool) (n : Nat) : (s.beaconEdge m n).table = s.table := by
  unfold State.beaconEdge; dsimp only; split <;> simp
@[simp] theorem State.beaconEdge_report (s : State) (m : Bool) (n : Nat) : (s.beaconEdge m n).report = s.report := by
  unfold State.beaconEdge; dsimp only; split <;> simp
@[simp] theorem State.beaconEdge_clear (s : State) (m : Bool) (n : Nat) : (s.beaconEdge m n).clear = s.clear := by
  unfold State.beaconEdge; dsimp only; split <;> simp
@[simp] theorem State.beaconEdge_peers (s : State) (m : Bool) (n : Nat) : (s.beaconEdge m n).peers = s.peers := by
  unfold State.beaconEdge; dsimp only; split <;> simp
@[simp] theorem State.beaconEdge_choices (s : State) (m : Bool) (n : Nat) : (s.beaconEdge m n).choices = s.choices := by
  unfold State.beaconEdge; dsimp only; split <;> simp
@[simp] theorem State.beaconEdge_pending (s : State) (m : Bool) (n : Nat) : (s.beaconEdge m n).pending = s.pending := by
  unfold State.beaconEdge; dsimp only; split <;> simp
@[simp] theorem State.beaconSpaceTimeout_pins (s : State) : s.beaconSpaceTimeout.pins = s.pins := by
  unfold State.beaconSpaceTimeout; split <;> simp
@[simp] theorem State.beaconSpaceTimeout_startup (s : State) : s.beaconSpaceTimeout.startup = s.startup := by
  unfold State.beaconSpaceTimeout; split <;> simp
@[simp] theorem State.beaconSpaceTimeout_floor (s : State) : s.beaconSpaceTimeout.floor = s.floor := by
  unfold State.beaconSpaceTimeout; split <;> simp
@[simp] theorem State.beaconSpaceTimeout_wall (s : State) : s.beaconSpaceTimeout.wall = s.wall := by
  unfold State.beaconSpaceTimeout; split <;> simp
@[simp] theorem State.beaconSpaceTimeout_bump (s : State) : s.beaconSpaceTimeout.bump = s.bump := by
  unfold State.beaconSpaceTimeout; split <;> simp
@[simp] theorem State.beaconSpaceTimeout_drop (s : State) : s.beaconSpaceTimeout.drop = s.drop := by
  unfold State.beaconSpaceTimeout; split <;> simp
@[simp] theorem State.beaconSpaceTimeout_enc (s : State) : s.beaconSpaceTimeout.enc = s.enc := by
  unfold State.beaconSpaceTimeout; split <;> simp
@[simp] theorem State.beaconSpaceTimeout_odo (s : State) : s.beaconSpaceTimeout.odo = s.odo := by
  unfold State.beaconSpaceTimeout; split <;> simp
@[simp] theorem State.beaconSpaceTimeout_table (s : State) : s.beaconSpaceTimeout.table = s.table := by
  unfold State.beaconSpaceTimeout; split <;> simp
@[simp] theorem State.beaconSpaceTimeout_report (s : State) : s.beaconSpaceTimeout.report = s.report := by
  unfold State.beaconSpaceTimeout; split <;> simp
@[simp] theorem State.beaconSpaceTimeout_clear (s : State) : s.beaconSpaceTimeout.clear = s.clear := by
  unfold State.beaconSpaceTimeout; split <;> simp
@[simp] theorem State.beaconSpaceTimeout_peers (s : State) : s.beaconSpaceTimeout.peers = s.peers := by
  unfold State.beaconSpaceTimeout; split <;> simp
@[simp] theorem State.beaconSpaceTimeout_choices (s : State) : s.beaconSpaceTimeout.choices = s.choices := by
  unfold State.beaconSpaceTimeout; split <;> simp
@[simp] theorem State.beaconSpaceTimeout_pending (s : State) : s.beaconSpaceTimeout.pending = s.pending := by
  unfold State.beaconSpaceTimeout; split <;> simp
@[simp] theorem State.sightingWindowExpiry_pins (s : State) : s.sightingWindowExpiry.pins = s.pins := by
  unfold State.sightingWindowExpiry; split <;> simp
@[simp] theorem State.sightingWindowExpiry_floor (s : State) : s.sightingWindowExpiry.floor = s.floor := by
  unfold State.sightingWindowExpiry; split <;> simp
@[simp] theorem State.sightingWindowExpiry_wall (s : State) : s.sightingWindowExpiry.wall = s.wall := by
  unfold State.sightingWindowExpiry; split <;> simp
@[simp] theorem State.sightingWindowExpiry_bump (s : State) : s.sightingWindowExpiry.bump = s.bump := by
  unfold State.sightingWindowExpiry; split <;> simp
@[simp] theorem State.sightingWindowExpiry_drop (s : State) : s.sightingWindowExpiry.drop = s.drop := by
  unfold State.sightingWindowExpiry; split <;> simp
@[simp] theorem State.sightingWindowExpiry_enc (s : State) : s.sightingWindowExpiry.enc = s.enc := by
  unfold State.sightingWindowExpiry; split <;> simp
@[simp] theorem State.sightingWindowExpiry_odo (s : State) : s.sightingWindowExpiry.odo = s.odo := by
  unfold State.sightingWindowExpiry; split <;> simp
@[simp] theorem State.sightingWindowExpiry_clear (s : State) : s.sightingWindowExpiry.clear = s.clear := by
  unfold State.sightingWindowExpiry; split <;> simp
@[simp] theorem State.sightingWindowExpiry_peers (s : State) : s.sightingWindowExpiry.peers = s.peers := by
  unfold State.sightingWindowExpiry; split <;> simp
@[simp] theorem State.sightingWindowExpiry_choices (s : State) : s.sightingWindowExpiry.choices = s.choices := by
  unfold State.sightingWindowExpiry; split <;> simp
@[simp] theorem State.sightingWindowExpiry_pending (s : State) : s.sightingWindowExpiry.pending = s.pending := by
  unfold State.sightingWindowExpiry; split <;> simp
@[simp] theorem State.judgeMissing_pins (s : State) : s.judgeMissing.pins = s.pins := by
  unfold State.judgeMissing; split <;> simp
@[simp] theorem State.judgeMissing_startup (s : State) : s.judgeMissing.startup = s.startup := by
  unfold State.judgeMissing; split <;> simp
@[simp] theorem State.judgeMissing_floor (s : State) : s.judgeMissing.floor = s.floor := by
  unfold State.judgeMissing; split <;> simp
@[simp] theorem State.judgeMissing_wall (s : State) : s.judgeMissing.wall = s.wall := by
  unfold State.judgeMissing; split <;> simp
@[simp] theorem State.judgeMissing_bump (s : State) : s.judgeMissing.bump = s.bump := by
  unfold State.judgeMissing; split <;> simp
@[simp] theorem State.judgeMissing_drop (s : State) : s.judgeMissing.drop = s.drop := by
  unfold State.judgeMissing; split <;> simp
@[simp] theorem State.judgeMissing_enc (s : State) : s.judgeMissing.enc = s.enc := by
  unfold State.judgeMissing; split <;> simp
@[simp] theorem State.judgeMissing_odo (s : State) : s.judgeMissing.odo = s.odo := by
  unfold State.judgeMissing; split <;> simp
@[simp] theorem State.judgeMissing_table (s : State) : s.judgeMissing.table = s.table := by
  unfold State.judgeMissing; split <;> simp
@[simp] theorem State.judgeMissing_report (s : State) : s.judgeMissing.report = s.report := by
  unfold State.judgeMissing; split <;> simp
@[simp] theorem State.judgeMissing_clear (s : State) : s.judgeMissing.clear = s.clear := by
  unfold State.judgeMissing; split <;> simp
@[simp] theorem State.judgeMissing_beacon (s : State) : s.judgeMissing.beacon = s.beacon := by
  unfold State.judgeMissing; split <;> simp
@[simp] theorem State.judgeMissing_link (s : State) : s.judgeMissing.link = s.link := by
  unfold State.judgeMissing; split <;> simp
@[simp] theorem State.judgeMissing_choices (s : State) : s.judgeMissing.choices = s.choices := by
  unfold State.judgeMissing; split <;> simp
@[simp] theorem State.judgeMissing_pending (s : State) : s.judgeMissing.pending = s.pending := by
  unfold State.judgeMissing; split <;> simp
@[simp] theorem State.peerHeard_pins (s : State) (h : Head) (b : Bool) : (s.peerHeard h b).pins = s.pins := rfl
@[simp] theorem State.peerHeard_startup (s : State) (h : Head) (b : Bool) : (s.peerHeard h b).startup = s.startup := rfl
@[simp] theorem State.peerHeard_floor (s : State) (h : Head) (b : Bool) : (s.peerHeard h b).floor = s.floor := rfl
@[simp] theorem State.peerHeard_wall (s : State) (h : Head) (b : Bool) : (s.peerHeard h b).wall = s.wall := rfl
@[simp] theorem State.peerHeard_bump (s : State) (h : Head) (b : Bool) : (s.peerHeard h b).bump = s.bump := rfl
@[simp] theorem State.peerHeard_drop (s : State) (h : Head) (b : Bool) : (s.peerHeard h b).drop = s.drop := rfl
@[simp] theorem State.peerHeard_enc (s : State) (h : Head) (b : Bool) : (s.peerHeard h b).enc = s.enc := rfl
@[simp] theorem State.peerHeard_odo (s : State) (h : Head) (b : Bool) : (s.peerHeard h b).odo = s.odo := rfl
@[simp] theorem State.peerHeard_table (s : State) (h : Head) (b : Bool) : (s.peerHeard h b).table = s.table := rfl
@[simp] theorem State.peerHeard_report (s : State) (h : Head) (b : Bool) : (s.peerHeard h b).report = s.report := rfl
@[simp] theorem State.peerHeard_clear (s : State) (h : Head) (b : Bool) : (s.peerHeard h b).clear = s.clear := rfl
@[simp] theorem State.peerHeard_beacon (s : State) (h : Head) (b : Bool) : (s.peerHeard h b).beacon = s.beacon := rfl
@[simp] theorem State.peerHeard_link (s : State) (h : Head) (b : Bool) : (s.peerHeard h b).link = s.link := rfl
@[simp] theorem State.peerHeard_choices (s : State) (h : Head) (b : Bool) : (s.peerHeard h b).choices = s.choices := rfl
@[simp] theorem State.peerHeard_pending (s : State) (h : Head) (b : Bool) : (s.peerHeard h b).pending = s.pending := rfl
@[simp] theorem State.peerAccept_pins (s : State) (h : Head) (b : Bool) : (s.peerAccept h b).pins = s.pins := by simp [State.peerAccept]
@[simp] theorem State.peerAccept_floor (s : State) (h : Head) (b : Bool) : (s.peerAccept h b).floor = s.floor := by simp [State.peerAccept]
@[simp] theorem State.peerAccept_wall (s : State) (h : Head) (b : Bool) : (s.peerAccept h b).wall = s.wall := by simp [State.peerAccept]
@[simp] theorem State.peerAccept_bump (s : State) (h : Head) (b : Bool) : (s.peerAccept h b).bump = s.bump := by simp [State.peerAccept]
@[simp] theorem State.peerAccept_drop (s : State) (h : Head) (b : Bool) : (s.peerAccept h b).drop = s.drop := by simp [State.peerAccept]
@[simp] theorem State.peerAccept_enc (s : State) (h : Head) (b : Bool) : (s.peerAccept h b).enc = s.enc := by simp [State.peerAccept]
@[simp] theorem State.peerAccept_odo (s : State) (h : Head) (b : Bool) : (s.peerAccept h b).odo = s.odo := by simp [State.peerAccept]
@[simp] theorem State.peerAccept_table (s : State) (h : Head) (b : Bool) : (s.peerAccept h b).table = s.table := by simp [State.peerAccept]
@[simp] theorem State.peerAccept_report (s : State) (h : Head) (b : Bool) : (s.peerAccept h b).report = s.report := by simp [State.peerAccept]
@[simp] theorem State.peerAccept_beacon (s : State) (h : Head) (b : Bool) : (s.peerAccept h b).beacon = s.beacon := by simp [State.peerAccept]
@[simp] theorem State.peerAccept_choices (s : State) (h : Head) (b : Bool) : (s.peerAccept h b).choices = s.choices := by simp [State.peerAccept]
@[simp] theorem State.peerAccept_pending (s : State) (h : Head) (b : Bool) : (s.peerAccept h b).pending = s.pending := by simp [State.peerAccept]
@[simp] theorem State.posClash_pins (s : State) : s.posClash.pins = s.pins := rfl
@[simp] theorem State.posClash_startup (s : State) : s.posClash.startup = s.startup := rfl
@[simp] theorem State.posClash_floor (s : State) : s.posClash.floor = s.floor := rfl
@[simp] theorem State.posClash_wall (s : State) : s.posClash.wall = s.wall := rfl
@[simp] theorem State.posClash_bump (s : State) : s.posClash.bump = s.bump := rfl
@[simp] theorem State.posClash_drop (s : State) : s.posClash.drop = s.drop := rfl
@[simp] theorem State.posClash_enc (s : State) : s.posClash.enc = s.enc := rfl
@[simp] theorem State.posClash_odo (s : State) : s.posClash.odo = s.odo := rfl
@[simp] theorem State.posClash_table (s : State) : s.posClash.table = s.table := rfl
@[simp] theorem State.posClash_report (s : State) : s.posClash.report = s.report := rfl
@[simp] theorem State.posClash_clear (s : State) : s.posClash.clear = s.clear := rfl
@[simp] theorem State.posClash_beacon (s : State) : s.posClash.beacon = s.beacon := rfl
@[simp] theorem State.posClash_link (s : State) : s.posClash.link = s.link := rfl
@[simp] theorem State.posClash_choices (s : State) : s.posClash.choices = s.choices := rfl
@[simp] theorem State.posClash_pending (s : State) : s.posClash.pending = s.pending := rfl
@[simp] theorem State.forgetSeq_pins (s : State) (p : Pos) : (s.forgetSeq p).pins = s.pins := rfl
@[simp] theorem State.forgetSeq_startup (s : State) (p : Pos) : (s.forgetSeq p).startup = s.startup := rfl
@[simp] theorem State.forgetSeq_floor (s : State) (p : Pos) : (s.forgetSeq p).floor = s.floor := rfl
@[simp] theorem State.forgetSeq_wall (s : State) (p : Pos) : (s.forgetSeq p).wall = s.wall := rfl
@[simp] theorem State.forgetSeq_bump (s : State) (p : Pos) : (s.forgetSeq p).bump = s.bump := rfl
@[simp] theorem State.forgetSeq_drop (s : State) (p : Pos) : (s.forgetSeq p).drop = s.drop := rfl
@[simp] theorem State.forgetSeq_enc (s : State) (p : Pos) : (s.forgetSeq p).enc = s.enc := rfl
@[simp] theorem State.forgetSeq_odo (s : State) (p : Pos) : (s.forgetSeq p).odo = s.odo := rfl
@[simp] theorem State.forgetSeq_table (s : State) (p : Pos) : (s.forgetSeq p).table = s.table := rfl
@[simp] theorem State.forgetSeq_report (s : State) (p : Pos) : (s.forgetSeq p).report = s.report := rfl
@[simp] theorem State.forgetSeq_clear (s : State) (p : Pos) : (s.forgetSeq p).clear = s.clear := rfl
@[simp] theorem State.forgetSeq_beacon (s : State) (p : Pos) : (s.forgetSeq p).beacon = s.beacon := rfl
@[simp] theorem State.forgetSeq_link (s : State) (p : Pos) : (s.forgetSeq p).link = s.link := rfl
@[simp] theorem State.forgetSeq_choices (s : State) (p : Pos) : (s.forgetSeq p).choices = s.choices := rfl
@[simp] theorem State.forgetSeq_pending (s : State) (p : Pos) : (s.forgetSeq p).pending = s.pending := rfl
@[simp] theorem State.peerSilent_pins (s : State) (p : Pos) : (s.peerSilent p).pins = s.pins := by
  unfold State.peerSilent; dsimp only; split <;> simp
@[simp] theorem State.peerSilent_floor (s : State) (p : Pos) : (s.peerSilent p).floor = s.floor := by
  unfold State.peerSilent; dsimp only; split <;> simp
@[simp] theorem State.peerSilent_wall (s : State) (p : Pos) : (s.peerSilent p).wall = s.wall := by
  unfold State.peerSilent; dsimp only; split <;> simp
@[simp] theorem State.peerSilent_bump (s : State) (p : Pos) : (s.peerSilent p).bump = s.bump := by
  unfold State.peerSilent; dsimp only; split <;> simp
@[simp] theorem State.peerSilent_drop (s : State) (p : Pos) : (s.peerSilent p).drop = s.drop := by
  unfold State.peerSilent; dsimp only; split <;> simp
@[simp] theorem State.peerSilent_enc (s : State) (p : Pos) : (s.peerSilent p).enc = s.enc := by
  unfold State.peerSilent; dsimp only; split <;> simp
@[simp] theorem State.peerSilent_odo (s : State) (p : Pos) : (s.peerSilent p).odo = s.odo := by
  unfold State.peerSilent; dsimp only; split <;> simp
@[simp] theorem State.peerSilent_table (s : State) (p : Pos) : (s.peerSilent p).table = s.table := by
  unfold State.peerSilent; dsimp only; split <;> simp
@[simp] theorem State.peerSilent_report (s : State) (p : Pos) : (s.peerSilent p).report = s.report := by
  unfold State.peerSilent; dsimp only; split <;> simp
@[simp] theorem State.peerSilent_beacon (s : State) (p : Pos) : (s.peerSilent p).beacon = s.beacon := by
  unfold State.peerSilent; dsimp only; split <;> simp
@[simp] theorem State.peerSilent_choices (s : State) (p : Pos) : (s.peerSilent p).choices = s.choices := by
  unfold State.peerSilent; dsimp only; split <;> simp
@[simp] theorem State.peerSilent_pending (s : State) (p : Pos) : (s.peerSilent p).pending = s.pending := by
  unfold State.peerSilent; dsimp only; split <;> simp
@[simp] theorem State.peerLost_pins (s : State) (p : Pos) : (s.peerLost p).pins = s.pins := by
  unfold State.peerLost; dsimp only; split <;> simp
@[simp] theorem State.peerLost_floor (s : State) (p : Pos) : (s.peerLost p).floor = s.floor := by
  unfold State.peerLost; dsimp only; split <;> simp
@[simp] theorem State.peerLost_wall (s : State) (p : Pos) : (s.peerLost p).wall = s.wall := by
  unfold State.peerLost; dsimp only; split <;> simp
@[simp] theorem State.peerLost_bump (s : State) (p : Pos) : (s.peerLost p).bump = s.bump := by
  unfold State.peerLost; dsimp only; split <;> simp
@[simp] theorem State.peerLost_drop (s : State) (p : Pos) : (s.peerLost p).drop = s.drop := by
  unfold State.peerLost; dsimp only; split <;> simp
@[simp] theorem State.peerLost_enc (s : State) (p : Pos) : (s.peerLost p).enc = s.enc := by
  unfold State.peerLost; dsimp only; split <;> simp
@[simp] theorem State.peerLost_beacon (s : State) (p : Pos) : (s.peerLost p).beacon = s.beacon := by
  unfold State.peerLost; dsimp only; split <;> simp
@[simp] theorem State.peerLost_choices (s : State) (p : Pos) : (s.peerLost p).choices = s.choices := by
  unfold State.peerLost; dsimp only; split <;> simp
@[simp] theorem State.peerLost_pending (s : State) (p : Pos) : (s.peerLost p).pending = s.pending := by
  unfold State.peerLost; dsimp only; split <;> simp
@[simp] theorem State.posHoldExpiry_pins (s : State) : s.posHoldExpiry.pins = s.pins := by
  unfold State.posHoldExpiry; split <;> simp
@[simp] theorem State.posHoldExpiry_floor (s : State) : s.posHoldExpiry.floor = s.floor := by
  unfold State.posHoldExpiry; split <;> simp
@[simp] theorem State.posHoldExpiry_wall (s : State) : s.posHoldExpiry.wall = s.wall := by
  unfold State.posHoldExpiry; split <;> simp
@[simp] theorem State.posHoldExpiry_bump (s : State) : s.posHoldExpiry.bump = s.bump := by
  unfold State.posHoldExpiry; split <;> simp
@[simp] theorem State.posHoldExpiry_drop (s : State) : s.posHoldExpiry.drop = s.drop := by
  unfold State.posHoldExpiry; split <;> simp
@[simp] theorem State.posHoldExpiry_enc (s : State) : s.posHoldExpiry.enc = s.enc := by
  unfold State.posHoldExpiry; split <;> simp
@[simp] theorem State.posHoldExpiry_odo (s : State) : s.posHoldExpiry.odo = s.odo := by
  unfold State.posHoldExpiry; split <;> simp
@[simp] theorem State.posHoldExpiry_table (s : State) : s.posHoldExpiry.table = s.table := by
  unfold State.posHoldExpiry; split <;> simp
@[simp] theorem State.posHoldExpiry_report (s : State) : s.posHoldExpiry.report = s.report := by
  unfold State.posHoldExpiry; split <;> simp
@[simp] theorem State.posHoldExpiry_beacon (s : State) : s.posHoldExpiry.beacon = s.beacon := by
  unfold State.posHoldExpiry; split <;> simp
@[simp] theorem State.posHoldExpiry_choices (s : State) : s.posHoldExpiry.choices = s.choices := by
  unfold State.posHoldExpiry; split <;> simp
@[simp] theorem State.posHoldExpiry_pending (s : State) : s.posHoldExpiry.pending = s.pending := by
  unfold State.posHoldExpiry; split <;> simp
@[simp] theorem State.roleHoldExpiry_pins (s : State) : s.roleHoldExpiry.pins = s.pins := by
  unfold State.roleHoldExpiry; split <;> simp
@[simp] theorem State.roleHoldExpiry_floor (s : State) : s.roleHoldExpiry.floor = s.floor := by
  unfold State.roleHoldExpiry; split <;> simp
@[simp] theorem State.roleHoldExpiry_wall (s : State) : s.roleHoldExpiry.wall = s.wall := by
  unfold State.roleHoldExpiry; split <;> simp
@[simp] theorem State.roleHoldExpiry_bump (s : State) : s.roleHoldExpiry.bump = s.bump := by
  unfold State.roleHoldExpiry; split <;> simp
@[simp] theorem State.roleHoldExpiry_drop (s : State) : s.roleHoldExpiry.drop = s.drop := by
  unfold State.roleHoldExpiry; split <;> simp
@[simp] theorem State.roleHoldExpiry_enc (s : State) : s.roleHoldExpiry.enc = s.enc := by
  unfold State.roleHoldExpiry; split <;> simp
@[simp] theorem State.roleHoldExpiry_odo (s : State) : s.roleHoldExpiry.odo = s.odo := by
  unfold State.roleHoldExpiry; split <;> simp
@[simp] theorem State.roleHoldExpiry_table (s : State) : s.roleHoldExpiry.table = s.table := by
  unfold State.roleHoldExpiry; split <;> simp
@[simp] theorem State.roleHoldExpiry_report (s : State) : s.roleHoldExpiry.report = s.report := by
  unfold State.roleHoldExpiry; split <;> simp
@[simp] theorem State.roleHoldExpiry_beacon (s : State) : s.roleHoldExpiry.beacon = s.beacon := by
  unfold State.roleHoldExpiry; split <;> simp
@[simp] theorem State.roleHoldExpiry_choices (s : State) : s.roleHoldExpiry.choices = s.choices := by
  unfold State.roleHoldExpiry; split <;> simp
@[simp] theorem State.roleHoldExpiry_pending (s : State) : s.roleHoldExpiry.pending = s.pending := by
  unfold State.roleHoldExpiry; split <;> simp
@[simp] theorem State.missingTimerExpiry_pins (s : State) : s.missingTimerExpiry.pins = s.pins := by
  unfold State.missingTimerExpiry; split <;> simp
@[simp] theorem State.missingTimerExpiry_floor (s : State) : s.missingTimerExpiry.floor = s.floor := by
  unfold State.missingTimerExpiry; split <;> simp
@[simp] theorem State.missingTimerExpiry_wall (s : State) : s.missingTimerExpiry.wall = s.wall := by
  unfold State.missingTimerExpiry; split <;> simp
@[simp] theorem State.missingTimerExpiry_bump (s : State) : s.missingTimerExpiry.bump = s.bump := by
  unfold State.missingTimerExpiry; split <;> simp
@[simp] theorem State.missingTimerExpiry_drop (s : State) : s.missingTimerExpiry.drop = s.drop := by
  unfold State.missingTimerExpiry; split <;> simp
@[simp] theorem State.missingTimerExpiry_enc (s : State) : s.missingTimerExpiry.enc = s.enc := by
  unfold State.missingTimerExpiry; split <;> simp
@[simp] theorem State.missingTimerExpiry_odo (s : State) : s.missingTimerExpiry.odo = s.odo := by
  unfold State.missingTimerExpiry; split <;> simp
@[simp] theorem State.missingTimerExpiry_table (s : State) : s.missingTimerExpiry.table = s.table := by
  unfold State.missingTimerExpiry; split <;> simp
@[simp] theorem State.missingTimerExpiry_report (s : State) : s.missingTimerExpiry.report = s.report := by
  unfold State.missingTimerExpiry; split <;> simp
@[simp] theorem State.missingTimerExpiry_beacon (s : State) : s.missingTimerExpiry.beacon = s.beacon := by
  unfold State.missingTimerExpiry; split <;> simp
@[simp] theorem State.missingTimerExpiry_choices (s : State) : s.missingTimerExpiry.choices = s.choices := by
  unfold State.missingTimerExpiry; split <;> simp
@[simp] theorem State.missingTimerExpiry_pending (s : State) : s.missingTimerExpiry.pending = s.pending := by
  unfold State.missingTimerExpiry; split <;> simp
@[simp] theorem State.lineFree_pins (s : State) : s.lineFree.pins = s.pins := by
  unfold State.lineFree; split <;> simp
@[simp] theorem State.lineFree_startup (s : State) : s.lineFree.startup = s.startup := by
  unfold State.lineFree; split <;> simp
@[simp] theorem State.lineFree_floor (s : State) : s.lineFree.floor = s.floor := by
  unfold State.lineFree; split <;> simp
@[simp] theorem State.lineFree_wall (s : State) : s.lineFree.wall = s.wall := by
  unfold State.lineFree; split <;> simp
@[simp] theorem State.lineFree_bump (s : State) : s.lineFree.bump = s.bump := by
  unfold State.lineFree; split <;> simp
@[simp] theorem State.lineFree_drop (s : State) : s.lineFree.drop = s.drop := by
  unfold State.lineFree; split <;> simp
@[simp] theorem State.lineFree_enc (s : State) : s.lineFree.enc = s.enc := by
  unfold State.lineFree; split <;> simp
@[simp] theorem State.lineFree_odo (s : State) : s.lineFree.odo = s.odo := by
  unfold State.lineFree; split <;> simp
@[simp] theorem State.lineFree_table (s : State) : s.lineFree.table = s.table := by
  unfold State.lineFree; split <;> simp
@[simp] theorem State.lineFree_report (s : State) : s.lineFree.report = s.report := by
  unfold State.lineFree; split <;> simp
@[simp] theorem State.lineFree_clear (s : State) : s.lineFree.clear = s.clear := by
  unfold State.lineFree; split <;> simp
@[simp] theorem State.lineFree_beacon (s : State) : s.lineFree.beacon = s.beacon := by
  unfold State.lineFree; split <;> simp
@[simp] theorem State.lineFree_peers (s : State) : s.lineFree.peers = s.peers := by
  unfold State.lineFree; split <;> simp
@[simp] theorem State.lineFree_choices (s : State) : s.lineFree.choices = s.choices := by
  unfold State.lineFree; split <;> simp
@[simp] theorem State.lineFree_pending (s : State) : s.lineFree.pending = s.pending := by
  unfold State.lineFree; split <;> simp
@[simp] theorem State.frameAbandoned_pins (s : State) : s.frameAbandoned.pins = s.pins := by simp [State.frameAbandoned]
@[simp] theorem State.frameAbandoned_startup (s : State) : s.frameAbandoned.startup = s.startup := by simp [State.frameAbandoned]
@[simp] theorem State.frameAbandoned_floor (s : State) : s.frameAbandoned.floor = s.floor := by simp [State.frameAbandoned]
@[simp] theorem State.frameAbandoned_wall (s : State) : s.frameAbandoned.wall = s.wall := by simp [State.frameAbandoned]
@[simp] theorem State.frameAbandoned_bump (s : State) : s.frameAbandoned.bump = s.bump := by simp [State.frameAbandoned]
@[simp] theorem State.frameAbandoned_drop (s : State) : s.frameAbandoned.drop = s.drop := by simp [State.frameAbandoned]
@[simp] theorem State.frameAbandoned_enc (s : State) : s.frameAbandoned.enc = s.enc := by simp [State.frameAbandoned]
@[simp] theorem State.frameAbandoned_odo (s : State) : s.frameAbandoned.odo = s.odo := by simp [State.frameAbandoned]
@[simp] theorem State.frameAbandoned_table (s : State) : s.frameAbandoned.table = s.table := by simp [State.frameAbandoned]
@[simp] theorem State.frameAbandoned_report (s : State) : s.frameAbandoned.report = s.report := by simp [State.frameAbandoned]
@[simp] theorem State.frameAbandoned_clear (s : State) : s.frameAbandoned.clear = s.clear := by simp [State.frameAbandoned]
@[simp] theorem State.frameAbandoned_beacon (s : State) : s.frameAbandoned.beacon = s.beacon := by simp [State.frameAbandoned]
@[simp] theorem State.frameAbandoned_peers (s : State) : s.frameAbandoned.peers = s.peers := by simp [State.frameAbandoned]
@[simp] theorem State.frameAbandoned_choices (s : State) : s.frameAbandoned.choices = s.choices := by simp [State.frameAbandoned]
@[simp] theorem State.frameAbandoned_pending (s : State) : s.frameAbandoned.pending = s.pending := by simp [State.frameAbandoned]
@[simp] theorem State.rxLengthMalformed_pins (s : State) (n : BitVec 4) : (s.rxLengthMalformed n).pins = s.pins := by
  unfold State.rxLengthMalformed; dsimp only; (repeat' split) <;> simp
@[simp] theorem State.rxLengthMalformed_startup (s : State) (n : BitVec 4) : (s.rxLengthMalformed n).startup = s.startup := by
  unfold State.rxLengthMalformed; dsimp only; (repeat' split) <;> simp
@[simp] theorem State.rxLengthMalformed_floor (s : State) (n : BitVec 4) : (s.rxLengthMalformed n).floor = s.floor := by
  unfold State.rxLengthMalformed; dsimp only; (repeat' split) <;> simp
@[simp] theorem State.rxLengthMalformed_wall (s : State) (n : BitVec 4) : (s.rxLengthMalformed n).wall = s.wall := by
  unfold State.rxLengthMalformed; dsimp only; (repeat' split) <;> simp
@[simp] theorem State.rxLengthMalformed_bump (s : State) (n : BitVec 4) : (s.rxLengthMalformed n).bump = s.bump := by
  unfold State.rxLengthMalformed; dsimp only; (repeat' split) <;> simp
@[simp] theorem State.rxLengthMalformed_drop (s : State) (n : BitVec 4) : (s.rxLengthMalformed n).drop = s.drop := by
  unfold State.rxLengthMalformed; dsimp only; (repeat' split) <;> simp
@[simp] theorem State.rxLengthMalformed_enc (s : State) (n : BitVec 4) : (s.rxLengthMalformed n).enc = s.enc := by
  unfold State.rxLengthMalformed; dsimp only; (repeat' split) <;> simp
@[simp] theorem State.rxLengthMalformed_odo (s : State) (n : BitVec 4) : (s.rxLengthMalformed n).odo = s.odo := by
  unfold State.rxLengthMalformed; dsimp only; (repeat' split) <;> simp
@[simp] theorem State.rxLengthMalformed_table (s : State) (n : BitVec 4) : (s.rxLengthMalformed n).table = s.table := by
  unfold State.rxLengthMalformed; dsimp only; (repeat' split) <;> simp
@[simp] theorem State.rxLengthMalformed_report (s : State) (n : BitVec 4) : (s.rxLengthMalformed n).report = s.report := by
  unfold State.rxLengthMalformed; dsimp only; (repeat' split) <;> simp
@[simp] theorem State.rxLengthMalformed_clear (s : State) (n : BitVec 4) : (s.rxLengthMalformed n).clear = s.clear := by
  unfold State.rxLengthMalformed; dsimp only; (repeat' split) <;> simp
@[simp] theorem State.rxLengthMalformed_beacon (s : State) (n : BitVec 4) : (s.rxLengthMalformed n).beacon = s.beacon := by
  unfold State.rxLengthMalformed; dsimp only; (repeat' split) <;> simp
@[simp] theorem State.rxLengthMalformed_peers (s : State) (n : BitVec 4) : (s.rxLengthMalformed n).peers = s.peers := by
  unfold State.rxLengthMalformed; dsimp only; (repeat' split) <;> simp
@[simp] theorem State.rxLengthMalformed_choices (s : State) (n : BitVec 4) : (s.rxLengthMalformed n).choices = s.choices := by
  unfold State.rxLengthMalformed; dsimp only; (repeat' split) <;> simp
@[simp] theorem State.rxLengthMalformed_pending (s : State) (n : BitVec 4) : (s.rxLengthMalformed n).pending = s.pending := by
  unfold State.rxLengthMalformed; dsimp only; (repeat' split) <;> simp
@[simp] theorem State.startBit_pins (s : State) (n : Nat) : (s.startBit n).pins = s.pins := by
  unfold State.startBit; split <;> simp
@[simp] theorem State.startBit_startup (s : State) (n : Nat) : (s.startBit n).startup = s.startup := by
  unfold State.startBit; split <;> simp
@[simp] theorem State.startBit_floor (s : State) (n : Nat) : (s.startBit n).floor = s.floor := by
  unfold State.startBit; split <;> simp
@[simp] theorem State.startBit_wall (s : State) (n : Nat) : (s.startBit n).wall = s.wall := by
  unfold State.startBit; split <;> simp
@[simp] theorem State.startBit_bump (s : State) (n : Nat) : (s.startBit n).bump = s.bump := by
  unfold State.startBit; split <;> simp
@[simp] theorem State.startBit_drop (s : State) (n : Nat) : (s.startBit n).drop = s.drop := by
  unfold State.startBit; split <;> simp
@[simp] theorem State.startBit_enc (s : State) (n : Nat) : (s.startBit n).enc = s.enc := by
  unfold State.startBit; split <;> simp
@[simp] theorem State.startBit_odo (s : State) (n : Nat) : (s.startBit n).odo = s.odo := by
  unfold State.startBit; split <;> simp
@[simp] theorem State.startBit_table (s : State) (n : Nat) : (s.startBit n).table = s.table := by
  unfold State.startBit; split <;> simp
@[simp] theorem State.startBit_report (s : State) (n : Nat) : (s.startBit n).report = s.report := by
  unfold State.startBit; split <;> simp
@[simp] theorem State.startBit_clear (s : State) (n : Nat) : (s.startBit n).clear = s.clear := by
  unfold State.startBit; split <;> simp
@[simp] theorem State.startBit_beacon (s : State) (n : Nat) : (s.startBit n).beacon = s.beacon := by
  unfold State.startBit; split <;> simp
@[simp] theorem State.startBit_peers (s : State) (n : Nat) : (s.startBit n).peers = s.peers := by
  unfold State.startBit; split <;> simp
@[simp] theorem State.startBit_choices (s : State) (n : Nat) : (s.startBit n).choices = s.choices := by
  unfold State.startBit; split <;> simp
@[simp] theorem State.startBit_pending (s : State) (n : Nat) : (s.startBit n).pending = s.pending := by
  unfold State.startBit; split <;> simp
@[simp] theorem State.routineYieldExpiry_pins (s : State) : s.routineYieldExpiry.pins = s.pins := by
  unfold State.routineYieldExpiry; split <;> simp
@[simp] theorem State.routineYieldExpiry_startup (s : State) : s.routineYieldExpiry.startup = s.startup := by
  unfold State.routineYieldExpiry; split <;> simp
@[simp] theorem State.routineYieldExpiry_floor (s : State) : s.routineYieldExpiry.floor = s.floor := by
  unfold State.routineYieldExpiry; split <;> simp
@[simp] theorem State.routineYieldExpiry_wall (s : State) : s.routineYieldExpiry.wall = s.wall := by
  unfold State.routineYieldExpiry; split <;> simp
@[simp] theorem State.routineYieldExpiry_bump (s : State) : s.routineYieldExpiry.bump = s.bump := by
  unfold State.routineYieldExpiry; split <;> simp
@[simp] theorem State.routineYieldExpiry_drop (s : State) : s.routineYieldExpiry.drop = s.drop := by
  unfold State.routineYieldExpiry; split <;> simp
@[simp] theorem State.routineYieldExpiry_enc (s : State) : s.routineYieldExpiry.enc = s.enc := by
  unfold State.routineYieldExpiry; split <;> simp
@[simp] theorem State.routineYieldExpiry_odo (s : State) : s.routineYieldExpiry.odo = s.odo := by
  unfold State.routineYieldExpiry; split <;> simp
@[simp] theorem State.routineYieldExpiry_table (s : State) : s.routineYieldExpiry.table = s.table := by
  unfold State.routineYieldExpiry; split <;> simp
@[simp] theorem State.routineYieldExpiry_report (s : State) : s.routineYieldExpiry.report = s.report := by
  unfold State.routineYieldExpiry; split <;> simp
@[simp] theorem State.routineYieldExpiry_clear (s : State) : s.routineYieldExpiry.clear = s.clear := by
  unfold State.routineYieldExpiry; split <;> simp
@[simp] theorem State.routineYieldExpiry_beacon (s : State) : s.routineYieldExpiry.beacon = s.beacon := by
  unfold State.routineYieldExpiry; split <;> simp
@[simp] theorem State.routineYieldExpiry_peers (s : State) : s.routineYieldExpiry.peers = s.peers := by
  unfold State.routineYieldExpiry; split <;> simp
@[simp] theorem State.routineYieldExpiry_choices (s : State) : s.routineYieldExpiry.choices = s.choices := by
  unfold State.routineYieldExpiry; split <;> simp
@[simp] theorem State.routineYieldExpiry_pending (s : State) : s.routineYieldExpiry.pending = s.pending := by
  unfold State.routineYieldExpiry; split <;> simp
@[simp] theorem State.putOnLine_pins (s : State) (e : TxEntry) (r : List TxEntry) : (s.putOnLine e r).pins = s.pins := rfl
@[simp] theorem State.putOnLine_startup (s : State) (e : TxEntry) (r : List TxEntry) : (s.putOnLine e r).startup = s.startup := rfl
@[simp] theorem State.putOnLine_floor (s : State) (e : TxEntry) (r : List TxEntry) : (s.putOnLine e r).floor = s.floor := rfl
@[simp] theorem State.putOnLine_wall (s : State) (e : TxEntry) (r : List TxEntry) : (s.putOnLine e r).wall = s.wall := rfl
@[simp] theorem State.putOnLine_bump (s : State) (e : TxEntry) (r : List TxEntry) : (s.putOnLine e r).bump = s.bump := rfl
@[simp] theorem State.putOnLine_drop (s : State) (e : TxEntry) (r : List TxEntry) : (s.putOnLine e r).drop = s.drop := rfl
@[simp] theorem State.putOnLine_enc (s : State) (e : TxEntry) (r : List TxEntry) : (s.putOnLine e r).enc = s.enc := rfl
@[simp] theorem State.putOnLine_odo (s : State) (e : TxEntry) (r : List TxEntry) : (s.putOnLine e r).odo = s.odo := rfl
@[simp] theorem State.putOnLine_table (s : State) (e : TxEntry) (r : List TxEntry) : (s.putOnLine e r).table = s.table := rfl
@[simp] theorem State.putOnLine_report (s : State) (e : TxEntry) (r : List TxEntry) : (s.putOnLine e r).report = s.report := rfl
@[simp] theorem State.putOnLine_clear (s : State) (e : TxEntry) (r : List TxEntry) : (s.putOnLine e r).clear = s.clear := rfl
@[simp] theorem State.putOnLine_beacon (s : State) (e : TxEntry) (r : List TxEntry) : (s.putOnLine e r).beacon = s.beacon := rfl
@[simp] theorem State.putOnLine_peers (s : State) (e : TxEntry) (r : List TxEntry) : (s.putOnLine e r).peers = s.peers := rfl
@[simp] theorem State.putOnLine_choices (s : State) (e : TxEntry) (r : List TxEntry) : (s.putOnLine e r).choices = s.choices := rfl
@[simp] theorem State.putOnLine_pending (s : State) (e : TxEntry) (r : List TxEntry) : (s.putOnLine e r).pending = s.pending := rfl
@[simp] theorem State.txAttemptStart_pins (s : State) : s.txAttemptStart.pins = s.pins := by
  unfold State.txAttemptStart; split
  · split <;> simp
  · simp
@[simp] theorem State.txAttemptStart_startup (s : State) : s.txAttemptStart.startup = s.startup := by
  unfold State.txAttemptStart; split
  · split <;> simp
  · simp
@[simp] theorem State.txAttemptStart_floor (s : State) : s.txAttemptStart.floor = s.floor := by
  unfold State.txAttemptStart; split
  · split <;> simp
  · simp
@[simp] theorem State.txAttemptStart_wall (s : State) : s.txAttemptStart.wall = s.wall := by
  unfold State.txAttemptStart; split
  · split <;> simp
  · simp
@[simp] theorem State.txAttemptStart_bump (s : State) : s.txAttemptStart.bump = s.bump := by
  unfold State.txAttemptStart; split
  · split <;> simp
  · simp
@[simp] theorem State.txAttemptStart_drop (s : State) : s.txAttemptStart.drop = s.drop := by
  unfold State.txAttemptStart; split
  · split <;> simp
  · simp
@[simp] theorem State.txAttemptStart_enc (s : State) : s.txAttemptStart.enc = s.enc := by
  unfold State.txAttemptStart; split
  · split <;> simp
  · simp
@[simp] theorem State.txAttemptStart_odo (s : State) : s.txAttemptStart.odo = s.odo := by
  unfold State.txAttemptStart; split
  · split <;> simp
  · simp
@[simp] theorem State.txAttemptStart_table (s : State) : s.txAttemptStart.table = s.table := by
  unfold State.txAttemptStart; split
  · split <;> simp
  · simp
@[simp] theorem State.txAttemptStart_report (s : State) : s.txAttemptStart.report = s.report := by
  unfold State.txAttemptStart; split
  · split <;> simp
  · simp
@[simp] theorem State.txAttemptStart_clear (s : State) : s.txAttemptStart.clear = s.clear := by
  unfold State.txAttemptStart; split
  · split <;> simp
  · simp
@[simp] theorem State.txAttemptStart_beacon (s : State) : s.txAttemptStart.beacon = s.beacon := by
  unfold State.txAttemptStart; split
  · split <;> simp
  · simp
@[simp] theorem State.txAttemptStart_peers (s : State) : s.txAttemptStart.peers = s.peers := by
  unfold State.txAttemptStart; split
  · split <;> simp
  · simp
@[simp] theorem State.txAttemptStart_choices (s : State) : s.txAttemptStart.choices = s.choices := by
  unfold State.txAttemptStart; split
  · split <;> simp
  · simp
@[simp] theorem State.txAttemptStart_pending (s : State) : s.txAttemptStart.pending = s.pending := by
  unfold State.txAttemptStart; split
  · split <;> simp
  · simp
@[simp] theorem State.returnEntry_pins (s : State) (e : TxEntry) : (s.returnEntry e).pins = s.pins := by
  unfold State.returnEntry; split
  · simp
  · split <;> simp
@[simp] theorem State.returnEntry_floor (s : State) (e : TxEntry) : (s.returnEntry e).floor = s.floor := by
  unfold State.returnEntry; split
  · simp
  · split <;> simp
@[simp] theorem State.returnEntry_wall (s : State) (e : TxEntry) : (s.returnEntry e).wall = s.wall := by
  unfold State.returnEntry; split
  · simp
  · split <;> simp
@[simp] theorem State.returnEntry_bump (s : State) (e : TxEntry) : (s.returnEntry e).bump = s.bump := by
  unfold State.returnEntry; split
  · simp
  · split <;> simp
@[simp] theorem State.returnEntry_drop (s : State) (e : TxEntry) : (s.returnEntry e).drop = s.drop := by
  unfold State.returnEntry; split
  · simp
  · split <;> simp
@[simp] theorem State.returnEntry_enc (s : State) (e : TxEntry) : (s.returnEntry e).enc = s.enc := by
  unfold State.returnEntry; split
  · simp
  · split <;> simp
@[simp] theorem State.returnEntry_odo (s : State) (e : TxEntry) : (s.returnEntry e).odo = s.odo := by
  unfold State.returnEntry; split
  · simp
  · split <;> simp
@[simp] theorem State.returnEntry_table (s : State) (e : TxEntry) : (s.returnEntry e).table = s.table := by
  unfold State.returnEntry; split
  · simp
  · split <;> simp
@[simp] theorem State.returnEntry_report (s : State) (e : TxEntry) : (s.returnEntry e).report = s.report := by
  unfold State.returnEntry; split
  · simp
  · split <;> simp
@[simp] theorem State.returnEntry_clear (s : State) (e : TxEntry) : (s.returnEntry e).clear = s.clear := by
  unfold State.returnEntry; split
  · simp
  · split <;> simp
@[simp] theorem State.returnEntry_beacon (s : State) (e : TxEntry) : (s.returnEntry e).beacon = s.beacon := by
  unfold State.returnEntry; split
  · simp
  · split <;> simp
@[simp] theorem State.returnEntry_peers (s : State) (e : TxEntry) : (s.returnEntry e).peers = s.peers := by
  unfold State.returnEntry; split
  · simp
  · split <;> simp
@[simp] theorem State.returnEntry_choices (s : State) (e : TxEntry) : (s.returnEntry e).choices = s.choices := by
  unfold State.returnEntry; split
  · simp
  · split <;> simp
@[simp] theorem State.returnEntry_pending (s : State) (e : TxEntry) : (s.returnEntry e).pending = s.pending := by
  unfold State.returnEntry; split
  · simp
  · split <;> simp
@[simp] theorem State.reportLoopback_pins (s : State) (e : TxEntry) (b : Bool) : (s.reportLoopback e b).pins = s.pins := by
  unfold State.reportLoopback; split <;> simp
@[simp] theorem State.reportLoopback_choices (s : State) (e : TxEntry) (b : Bool) : (s.reportLoopback e b).choices = s.choices := by
  unfold State.reportLoopback; split <;> simp
@[simp] theorem State.reportLoopback_pending (s : State) (e : TxEntry) (b : Bool) : (s.reportLoopback e b).pending = s.pending := by
  unfold State.reportLoopback; split <;> simp
@[simp] theorem State.afterStopped_pins (s : State) (e : TxEntry) : (s.afterStopped e).pins = s.pins := by
  unfold State.afterStopped; split <;> simp
@[simp] theorem State.afterStopped_choices (s : State) (e : TxEntry) : (s.afterStopped e).choices = s.choices := by
  unfold State.afterStopped; split <;> simp
@[simp] theorem State.afterStopped_pending (s : State) (e : TxEntry) : (s.afterStopped e).pending = s.pending := by
  unfold State.afterStopped; split <;> simp
@[simp] theorem State.txMismatch_pins (s : State) : s.txMismatch.pins = s.pins := by
  unfold State.txMismatch; split
  · split <;> simp
  · simp
@[simp] theorem State.txMismatch_choices (s : State) : s.txMismatch.choices = s.choices := by
  unfold State.txMismatch; split
  · split <;> simp
  · simp
@[simp] theorem State.txMismatch_pending (s : State) : s.txMismatch.pending = s.pending := by
  unfold State.txMismatch; split
  · split <;> simp
  · simp
@[simp] theorem State.ownCompletion_pins (s : State) (e : TxEntry) : (s.ownCompletion e).pins = s.pins := by
  unfold State.ownCompletion; split <;> simp
@[simp] theorem State.ownCompletion_floor (s : State) (e : TxEntry) : (s.ownCompletion e).floor = s.floor := by
  unfold State.ownCompletion; split <;> simp
@[simp] theorem State.ownCompletion_wall (s : State) (e : TxEntry) : (s.ownCompletion e).wall = s.wall := by
  unfold State.ownCompletion; split <;> simp
@[simp] theorem State.ownCompletion_bump (s : State) (e : TxEntry) : (s.ownCompletion e).bump = s.bump := by
  unfold State.ownCompletion; split <;> simp
@[simp] theorem State.ownCompletion_drop (s : State) (e : TxEntry) : (s.ownCompletion e).drop = s.drop := by
  unfold State.ownCompletion; split <;> simp
@[simp] theorem State.ownCompletion_report (s : State) (e : TxEntry) : (s.ownCompletion e).report = s.report := by
  unfold State.ownCompletion; split <;> simp
@[simp] theorem State.ownCompletion_beacon (s : State) (e : TxEntry) : (s.ownCompletion e).beacon = s.beacon := by
  unfold State.ownCompletion; split <;> simp
@[simp] theorem State.ownCompletion_peers (s : State) (e : TxEntry) : (s.ownCompletion e).peers = s.peers := by
  unfold State.ownCompletion; split <;> simp
@[simp] theorem State.ownCompletion_choices (s : State) (e : TxEntry) : (s.ownCompletion e).choices = s.choices := by
  unfold State.ownCompletion; split <;> simp
@[simp] theorem State.ownCompletion_pending (s : State) (e : TxEntry) : (s.ownCompletion e).pending = s.pending := by
  unfold State.ownCompletion; split <;> simp
@[simp] theorem State.txComplete_pins (s : State) : s.txComplete.pins = s.pins := by
  unfold State.txComplete; split <;> simp
@[simp] theorem State.txComplete_choices (s : State) : s.txComplete.choices = s.choices := by
  unfold State.txComplete; split <;> simp
@[simp] theorem State.txComplete_pending (s : State) : s.txComplete.pending = s.pending := by
  unfold State.txComplete; split <;> simp
@[simp] theorem State.sendHealth_pins (s : State) : s.sendHealth.pins = s.pins := by
  unfold State.sendHealth; split <;> simp
@[simp] theorem State.sendHealth_floor (s : State) : s.sendHealth.floor = s.floor := by
  unfold State.sendHealth; split <;> simp
@[simp] theorem State.sendHealth_wall (s : State) : s.sendHealth.wall = s.wall := by
  unfold State.sendHealth; split <;> simp
@[simp] theorem State.sendHealth_bump (s : State) : s.sendHealth.bump = s.bump := by
  unfold State.sendHealth; split <;> simp
@[simp] theorem State.sendHealth_drop (s : State) : s.sendHealth.drop = s.drop := by
  unfold State.sendHealth; split <;> simp
@[simp] theorem State.sendHealth_enc (s : State) : s.sendHealth.enc = s.enc := by
  unfold State.sendHealth; split <;> simp
@[simp] theorem State.sendHealth_odo (s : State) : s.sendHealth.odo = s.odo := by
  unfold State.sendHealth; split <;> simp
@[simp] theorem State.sendHealth_table (s : State) : s.sendHealth.table = s.table := by
  unfold State.sendHealth; split <;> simp
@[simp] theorem State.sendHealth_report (s : State) : s.sendHealth.report = s.report := by
  unfold State.sendHealth; split <;> simp
@[simp] theorem State.sendHealth_clear (s : State) : s.sendHealth.clear = s.clear := by
  unfold State.sendHealth; split <;> simp
@[simp] theorem State.sendHealth_beacon (s : State) : s.sendHealth.beacon = s.beacon := by
  unfold State.sendHealth; split <;> simp
@[simp] theorem State.sendHealth_peers (s : State) : s.sendHealth.peers = s.peers := by
  unfold State.sendHealth; split <;> simp
@[simp] theorem State.sendHealth_choices (s : State) : s.sendHealth.choices = s.choices := by
  unfold State.sendHealth; split <;> simp
@[simp] theorem State.sendHealth_pending (s : State) : s.sendHealth.pending = s.pending := by
  unfold State.sendHealth; split <;> simp
@[simp] theorem State.healthTimerExpiry_pins (s : State) : s.healthTimerExpiry.pins = s.pins := by
  unfold State.healthTimerExpiry; split <;> simp
@[simp] theorem State.healthTimerExpiry_floor (s : State) : s.healthTimerExpiry.floor = s.floor := by
  unfold State.healthTimerExpiry; split <;> simp
@[simp] theorem State.healthTimerExpiry_wall (s : State) : s.healthTimerExpiry.wall = s.wall := by
  unfold State.healthTimerExpiry; split <;> simp
@[simp] theorem State.healthTimerExpiry_bump (s : State) : s.healthTimerExpiry.bump = s.bump := by
  unfold State.healthTimerExpiry; split <;> simp
@[simp] theorem State.healthTimerExpiry_drop (s : State) : s.healthTimerExpiry.drop = s.drop := by
  unfold State.healthTimerExpiry; split <;> simp
@[simp] theorem State.healthTimerExpiry_enc (s : State) : s.healthTimerExpiry.enc = s.enc := by
  unfold State.healthTimerExpiry; split <;> simp
@[simp] theorem State.healthTimerExpiry_odo (s : State) : s.healthTimerExpiry.odo = s.odo := by
  unfold State.healthTimerExpiry; split <;> simp
@[simp] theorem State.healthTimerExpiry_table (s : State) : s.healthTimerExpiry.table = s.table := by
  unfold State.healthTimerExpiry; split <;> simp
@[simp] theorem State.healthTimerExpiry_report (s : State) : s.healthTimerExpiry.report = s.report := by
  unfold State.healthTimerExpiry; split <;> simp
@[simp] theorem State.healthTimerExpiry_clear (s : State) : s.healthTimerExpiry.clear = s.clear := by
  unfold State.healthTimerExpiry; split <;> simp
@[simp] theorem State.healthTimerExpiry_beacon (s : State) : s.healthTimerExpiry.beacon = s.beacon := by
  unfold State.healthTimerExpiry; split <;> simp
@[simp] theorem State.healthTimerExpiry_peers (s : State) : s.healthTimerExpiry.peers = s.peers := by
  unfold State.healthTimerExpiry; split <;> simp
@[simp] theorem State.healthTimerExpiry_choices (s : State) : s.healthTimerExpiry.choices = s.choices := by
  unfold State.healthTimerExpiry; split <;> simp
@[simp] theorem State.healthTimerExpiry_pending (s : State) : s.healthTimerExpiry.pending = s.pending := by
  unfold State.healthTimerExpiry; split <;> simp
@[simp] theorem State.stopHoldExpiry_pins (s : State) : s.stopHoldExpiry.pins = s.pins := by
  unfold State.stopHoldExpiry; split
  · split <;> simp
  · simp
@[simp] theorem State.stopHoldExpiry_floor (s : State) : s.stopHoldExpiry.floor = s.floor := by
  unfold State.stopHoldExpiry; split
  · split <;> simp
  · simp
@[simp] theorem State.stopHoldExpiry_wall (s : State) : s.stopHoldExpiry.wall = s.wall := by
  unfold State.stopHoldExpiry; split
  · split <;> simp
  · simp
@[simp] theorem State.stopHoldExpiry_bump (s : State) : s.stopHoldExpiry.bump = s.bump := by
  unfold State.stopHoldExpiry; split
  · split <;> simp
  · simp
@[simp] theorem State.stopHoldExpiry_drop (s : State) : s.stopHoldExpiry.drop = s.drop := by
  unfold State.stopHoldExpiry; split
  · split <;> simp
  · simp
@[simp] theorem State.stopHoldExpiry_enc (s : State) : s.stopHoldExpiry.enc = s.enc := by
  unfold State.stopHoldExpiry; split
  · split <;> simp
  · simp
@[simp] theorem State.stopHoldExpiry_odo (s : State) : s.stopHoldExpiry.odo = s.odo := by
  unfold State.stopHoldExpiry; split
  · split <;> simp
  · simp
@[simp] theorem State.stopHoldExpiry_table (s : State) : s.stopHoldExpiry.table = s.table := by
  unfold State.stopHoldExpiry; split
  · split <;> simp
  · simp
@[simp] theorem State.stopHoldExpiry_report (s : State) : s.stopHoldExpiry.report = s.report := by
  unfold State.stopHoldExpiry; split
  · split <;> simp
  · simp
@[simp] theorem State.stopHoldExpiry_beacon (s : State) : s.stopHoldExpiry.beacon = s.beacon := by
  unfold State.stopHoldExpiry; split
  · split <;> simp
  · simp
@[simp] theorem State.stopHoldExpiry_peers (s : State) : s.stopHoldExpiry.peers = s.peers := by
  unfold State.stopHoldExpiry; split
  · split <;> simp
  · simp
@[simp] theorem State.stopHoldExpiry_choices (s : State) : s.stopHoldExpiry.choices = s.choices := by
  unfold State.stopHoldExpiry; split
  · split <;> simp
  · simp
@[simp] theorem State.stopHoldExpiry_pending (s : State) : s.stopHoldExpiry.pending = s.pending := by
  unfold State.stopHoldExpiry; split
  · split <;> simp
  · simp
@[simp] theorem State.stopLineChange_floor (s : State) (b : Bool) : (s.stopLineChange b).floor = s.floor := by
  unfold State.stopLineChange; dsimp only; split <;> simp
@[simp] theorem State.stopLineChange_wall (s : State) (b : Bool) : (s.stopLineChange b).wall = s.wall := by
  unfold State.stopLineChange; dsimp only; split <;> simp
@[simp] theorem State.stopLineChange_bump (s : State) (b : Bool) : (s.stopLineChange b).bump = s.bump := by
  unfold State.stopLineChange; dsimp only; split <;> simp
@[simp] theorem State.stopLineChange_drop (s : State) (b : Bool) : (s.stopLineChange b).drop = s.drop := by
  unfold State.stopLineChange; dsimp only; split <;> simp
@[simp] theorem State.stopLineChange_enc (s : State) (b : Bool) : (s.stopLineChange b).enc = s.enc := by
  unfold State.stopLineChange; dsimp only; split <;> simp
@[simp] theorem State.stopLineChange_odo (s : State) (b : Bool) : (s.stopLineChange b).odo = s.odo := by
  unfold State.stopLineChange; dsimp only; split <;> simp
@[simp] theorem State.stopLineChange_table (s : State) (b : Bool) : (s.stopLineChange b).table = s.table := by
  unfold State.stopLineChange; dsimp only; split <;> simp
@[simp] theorem State.stopLineChange_report (s : State) (b : Bool) : (s.stopLineChange b).report = s.report := by
  unfold State.stopLineChange; dsimp only; split <;> simp
@[simp] theorem State.stopLineChange_beacon (s : State) (b : Bool) : (s.stopLineChange b).beacon = s.beacon := by
  unfold State.stopLineChange; dsimp only; split <;> simp
@[simp] theorem State.stopLineChange_peers (s : State) (b : Bool) : (s.stopLineChange b).peers = s.peers := by
  unfold State.stopLineChange; dsimp only; split <;> simp
@[simp] theorem State.stopLineChange_choices (s : State) (b : Bool) : (s.stopLineChange b).choices = s.choices := by
  unfold State.stopLineChange; dsimp only; split <;> simp
@[simp] theorem State.stopLineChange_pending (s : State) (b : Bool) : (s.stopLineChange b).pending = s.pending := by
  unfold State.stopLineChange; dsimp only; split <;> simp
@[simp] theorem State.verdictTimerExpiry_pins (s : State) : s.verdictTimerExpiry.pins = s.pins := by
  unfold State.verdictTimerExpiry; split <;> simp
@[simp] theorem State.verdictTimerExpiry_floor (s : State) : s.verdictTimerExpiry.floor = s.floor := by
  unfold State.verdictTimerExpiry; split <;> simp
@[simp] theorem State.verdictTimerExpiry_wall (s : State) : s.verdictTimerExpiry.wall = s.wall := by
  unfold State.verdictTimerExpiry; split <;> simp
@[simp] theorem State.verdictTimerExpiry_bump (s : State) : s.verdictTimerExpiry.bump = s.bump := by
  unfold State.verdictTimerExpiry; split <;> simp
@[simp] theorem State.verdictTimerExpiry_drop (s : State) : s.verdictTimerExpiry.drop = s.drop := by
  unfold State.verdictTimerExpiry; split <;> simp
@[simp] theorem State.verdictTimerExpiry_enc (s : State) : s.verdictTimerExpiry.enc = s.enc := by
  unfold State.verdictTimerExpiry; split <;> simp
@[simp] theorem State.verdictTimerExpiry_odo (s : State) : s.verdictTimerExpiry.odo = s.odo := by
  unfold State.verdictTimerExpiry; split <;> simp
@[simp] theorem State.verdictTimerExpiry_table (s : State) : s.verdictTimerExpiry.table = s.table := by
  unfold State.verdictTimerExpiry; split <;> simp
@[simp] theorem State.verdictTimerExpiry_report (s : State) : s.verdictTimerExpiry.report = s.report := by
  unfold State.verdictTimerExpiry; split <;> simp
@[simp] theorem State.verdictTimerExpiry_beacon (s : State) : s.verdictTimerExpiry.beacon = s.beacon := by
  unfold State.verdictTimerExpiry; split <;> simp
@[simp] theorem State.verdictTimerExpiry_peers (s : State) : s.verdictTimerExpiry.peers = s.peers := by
  unfold State.verdictTimerExpiry; split <;> simp
@[simp] theorem State.verdictTimerExpiry_choices (s : State) : s.verdictTimerExpiry.choices = s.choices := by
  unfold State.verdictTimerExpiry; split <;> simp
@[simp] theorem State.verdictTimerExpiry_pending (s : State) : s.verdictTimerExpiry.pending = s.pending := by
  unfold State.verdictTimerExpiry; split <;> simp
@[simp] theorem State.hazardBlock_pins (s : State) (h : Head) (d : HazardData) : (s.hazardBlock h d).pins = s.pins := by
  unfold State.hazardBlock; split <;> simp
@[simp] theorem State.hazardBlock_floor (s : State) (h : Head) (d : HazardData) : (s.hazardBlock h d).floor = s.floor := by
  unfold State.hazardBlock; split <;> simp
@[simp] theorem State.hazardBlock_wall (s : State) (h : Head) (d : HazardData) : (s.hazardBlock h d).wall = s.wall := by
  unfold State.hazardBlock; split <;> simp
@[simp] theorem State.hazardBlock_bump (s : State) (h : Head) (d : HazardData) : (s.hazardBlock h d).bump = s.bump := by
  unfold State.hazardBlock; split <;> simp
@[simp] theorem State.hazardBlock_drop (s : State) (h : Head) (d : HazardData) : (s.hazardBlock h d).drop = s.drop := by
  unfold State.hazardBlock; split <;> simp
@[simp] theorem State.hazardBlock_enc (s : State) (h : Head) (d : HazardData) : (s.hazardBlock h d).enc = s.enc := by
  unfold State.hazardBlock; split <;> simp
@[simp] theorem State.hazardBlock_odo (s : State) (h : Head) (d : HazardData) : (s.hazardBlock h d).odo = s.odo := by
  unfold State.hazardBlock; split <;> simp
@[simp] theorem State.hazardBlock_clear (s : State) (h : Head) (d : HazardData) : (s.hazardBlock h d).clear = s.clear := by
  unfold State.hazardBlock; split <;> simp
@[simp] theorem State.hazardBlock_beacon (s : State) (h : Head) (d : HazardData) : (s.hazardBlock h d).beacon = s.beacon := by
  unfold State.hazardBlock; split <;> simp
@[simp] theorem State.hazardBlock_peers (s : State) (h : Head) (d : HazardData) : (s.hazardBlock h d).peers = s.peers := by
  unfold State.hazardBlock; split <;> simp
@[simp] theorem State.hazardBlock_choices (s : State) (h : Head) (d : HazardData) : (s.hazardBlock h d).choices = s.choices := by
  unfold State.hazardBlock; split <;> simp
@[simp] theorem State.hazardBlock_pending (s : State) (h : Head) (d : HazardData) : (s.hazardBlock h d).pending = s.pending := by
  unfold State.hazardBlock; split <;> simp
@[simp] theorem State.requestBlock_pins (s : State) (h : Head) (d : CheckRequestData) : (s.requestBlock h d).pins = s.pins := by
  unfold State.requestBlock; split <;> simp
@[simp] theorem State.requestBlock_floor (s : State) (h : Head) (d : CheckRequestData) : (s.requestBlock h d).floor = s.floor := by
  unfold State.requestBlock; split <;> simp
@[simp] theorem State.requestBlock_wall (s : State) (h : Head) (d : CheckRequestData) : (s.requestBlock h d).wall = s.wall := by
  unfold State.requestBlock; split <;> simp
@[simp] theorem State.requestBlock_bump (s : State) (h : Head) (d : CheckRequestData) : (s.requestBlock h d).bump = s.bump := by
  unfold State.requestBlock; split <;> simp
@[simp] theorem State.requestBlock_drop (s : State) (h : Head) (d : CheckRequestData) : (s.requestBlock h d).drop = s.drop := by
  unfold State.requestBlock; split <;> simp
@[simp] theorem State.requestBlock_enc (s : State) (h : Head) (d : CheckRequestData) : (s.requestBlock h d).enc = s.enc := by
  unfold State.requestBlock; split <;> simp
@[simp] theorem State.requestBlock_odo (s : State) (h : Head) (d : CheckRequestData) : (s.requestBlock h d).odo = s.odo := by
  unfold State.requestBlock; split <;> simp
@[simp] theorem State.requestBlock_clear (s : State) (h : Head) (d : CheckRequestData) : (s.requestBlock h d).clear = s.clear := by
  unfold State.requestBlock; split <;> simp
@[simp] theorem State.requestBlock_beacon (s : State) (h : Head) (d : CheckRequestData) : (s.requestBlock h d).beacon = s.beacon := by
  unfold State.requestBlock; split <;> simp
@[simp] theorem State.requestBlock_peers (s : State) (h : Head) (d : CheckRequestData) : (s.requestBlock h d).peers = s.peers := by
  unfold State.requestBlock; split <;> simp
@[simp] theorem State.requestBlock_choices (s : State) (h : Head) (d : CheckRequestData) : (s.requestBlock h d).choices = s.choices := by
  unfold State.requestBlock; split <;> simp
@[simp] theorem State.requestBlock_pending (s : State) (h : Head) (d : CheckRequestData) : (s.requestBlock h d).pending = s.pending := by
  unfold State.requestBlock; split <;> simp
@[simp] theorem State.kindBlock_pins (s : State) (f : Frame) : (s.kindBlock f).pins = s.pins := by
  unfold State.kindBlock; split <;> simp
@[simp] theorem State.kindBlock_pending (s : State) (f : Frame) : (s.kindBlock f).pending = s.pending := by
  unfold State.kindBlock; split <;> simp
@[simp] theorem State.acceptFrame_pins (s : State) (f : Frame) : (s.acceptFrame f).pins = s.pins := by simp [State.acceptFrame]
@[simp] theorem State.acceptFrame_pending (s : State) (f : Frame) : (s.acceptFrame f).pending = s.pending := by simp [State.acceptFrame]
@[simp] theorem State.beforeTest_pins (s : State) (f : Frame) : (s.beforeTest f).pins = s.pins := by
  unfold State.beforeTest; split <;> simp
@[simp] theorem State.beforeTest_startup (s : State) (f : Frame) : (s.beforeTest f).startup = s.startup := by
  unfold State.beforeTest; split <;> simp
@[simp] theorem State.beforeTest_floor (s : State) (f : Frame) : (s.beforeTest f).floor = s.floor := by
  unfold State.beforeTest; split <;> simp
@[simp] theorem State.beforeTest_wall (s : State) (f : Frame) : (s.beforeTest f).wall = s.wall := by
  unfold State.beforeTest; split <;> simp
@[simp] theorem State.beforeTest_bump (s : State) (f : Frame) : (s.beforeTest f).bump = s.bump := by
  unfold State.beforeTest; split <;> simp
@[simp] theorem State.beforeTest_drop (s : State) (f : Frame) : (s.beforeTest f).drop = s.drop := by
  unfold State.beforeTest; split <;> simp
@[simp] theorem State.beforeTest_enc (s : State) (f : Frame) : (s.beforeTest f).enc = s.enc := by
  unfold State.beforeTest; split <;> simp
@[simp] theorem State.beforeTest_odo (s : State) (f : Frame) : (s.beforeTest f).odo = s.odo := by
  unfold State.beforeTest; split <;> simp
@[simp] theorem State.beforeTest_table (s : State) (f : Frame) : (s.beforeTest f).table = s.table := by
  unfold State.beforeTest; split <;> simp
@[simp] theorem State.beforeTest_report (s : State) (f : Frame) : (s.beforeTest f).report = s.report := by
  unfold State.beforeTest; split <;> simp
@[simp] theorem State.beforeTest_clear (s : State) (f : Frame) : (s.beforeTest f).clear = s.clear := by
  unfold State.beforeTest; split <;> simp
@[simp] theorem State.beforeTest_beacon (s : State) (f : Frame) : (s.beforeTest f).beacon = s.beacon := by
  unfold State.beforeTest; split <;> simp
@[simp] theorem State.beforeTest_link (s : State) (f : Frame) : (s.beforeTest f).link = s.link := by
  unfold State.beforeTest; split <;> simp
@[simp] theorem State.beforeTest_choices (s : State) (f : Frame) : (s.beforeTest f).choices = s.choices := by
  unfold State.beforeTest; split <;> simp
@[simp] theorem State.beforeTest_pending (s : State) (f : Frame) : (s.beforeTest f).pending = s.pending := by
  unfold State.beforeTest; split <;> simp
@[simp] theorem State.handFrame_pins (s : State) (f : Frame) : (s.handFrame f).pins = s.pins := by
  unfold State.handFrame; split <;> simp
@[simp] theorem State.handFrame_pending (s : State) (f : Frame) : (s.handFrame f).pending = s.pending := by
  unfold State.handFrame; split <;> simp

@[simp] theorem State.handOn_pins (s : State) (rx : List Frame) : (s.handOn rx).pins = s.pins := by
  induction rx generalizing s with
  | nil => simp [State.handOn]
  | cons f rest ih => unfold State.handOn; dsimp only; split <;> simp [ih]
@[simp] theorem State.handOn_pending (s : State) (rx : List Frame) : (s.handOn rx).pending = s.pending := by
  induction rx generalizing s with
  | nil => simp [State.handOn]
  | cons f rest ih => unfold State.handOn; dsimp only; split <;> simp [ih]
@[simp] theorem State.bufferFrame_pins (s : State) (f : Frame) : (s.bufferFrame f).pins = s.pins := by
  unfold State.bufferFrame; (repeat' split) <;> simp
@[simp] theorem State.receiveFrame_pins (s : State) (f : Frame) : (s.receiveFrame f).pins = s.pins := by
  unfold State.receiveFrame; dsimp only; (repeat' split) <;> simp
@[simp] theorem State.rxFrameRejected_pins (s : State) (l : List Byte) : (s.rxFrameRejected l).pins = s.pins := by
  unfold State.rxFrameRejected; dsimp only; (repeat' split) <;> simp
@[simp] theorem State.frameHandlingEnd_pins (s : State) : s.frameHandlingEnd.pins = s.pins := by
  unfold State.frameHandlingEnd; split <;> simp
@[simp] theorem State.bufferFrame_pending (s : State) (f : Frame) : (s.bufferFrame f).pending = s.pending := by
  unfold State.bufferFrame; (repeat' split) <;> simp
@[simp] theorem State.receiveFrame_pending (s : State) (f : Frame) : (s.receiveFrame f).pending = s.pending := by
  unfold State.receiveFrame; dsimp only; (repeat' split) <;> simp
@[simp] theorem State.rxFrameRejected_pending (s : State) (l : List Byte) : (s.rxFrameRejected l).pending = s.pending := by
  unfold State.rxFrameRejected; dsimp only; (repeat' split) <;> simp
@[simp] theorem State.frameHandlingEnd_pending (s : State) : s.frameHandlingEnd.pending = s.pending := by
  unfold State.frameHandlingEnd; split <;> simp

end Sys2Proof.Machine
end

