-- ==== Sys2Proof/Laws/PerInstr.lean ====
section
/-! SUPPORT. Statements made command by command. `PayloadFits`: the frame that a receive command carries has a payload
of at most 12 bytes, so its length field stays clear of the values R173 abandons. -/

namespace Sys2Proof.Laws

open Sys2Proof

/-- The payload a command carries, if it is a received frame. -/
def payloadOf : Instr → Option Payload
  | .hardReset => none
  | .strapSample .. => none
  | .tableSlotTest .. => none
  | .crcSelfTest .. => none
  | .linkLoopbackTimeout => none
  | .floorEmitterTest .. => none
  | .wallEmitterTest .. => none
  | .bootTimerExpiry => none
  | .setupPart _ d => some (.setup d)
  | .rejoinOrder _ dest => some (.rejoin dest)
  | .modeOrder _ value => some (.mode value)
  | .floorPeriodExpiry => none
  | .wallPeriodExpiry => none
  | .guardedBurstStart .. => none
  | .floorBurstEnd .. => none
  | .wallBurstEnd .. => none
  | .bumpChange .. => none
  | .dropChange .. => none
  | .encoderEdge .. => none
  | .odoTimerExpiry => none
  | .odometryFrame _ d => some (.odometry d)
  | .stalledTimerExpiry => none
  | .odoRoleClashHoldExpiry => none
  | .carryEnd => none
  | .ageTimerExpiry => none
  | .ageTicksApplied => none
  | .serveOwnObservation => none
  | .serveOwnCliff => none
  | .serveFloorEvidence => none
  | .serveWallClear => none
  | .servePeerAdd => none
  | .servePeerUpdate => none
  | .servePeerWithdraw => none
  | .serveCheckOutcome => none
  | .serveLookup => none
  | .checkTimeout => none
  | .checkAnswer _ d => some (.checkAnswer d)
  | .checkRequest _ d => some (.checkRequest d)
  | .hazardReport _ d => some (.hazard d)
  | .bootStatus _ d => some (.boot d)
  | .verdict _ d => some (.verdict d)
  | .healthReport _ d => some (.health d)
  | .rxFrameRejected .. => none
  | .rxLengthMalformed .. => none
  | .frameAbandoned => none
  | .frameHandlingEnd => none
  | .txAttemptStart => none
  | .txMismatch => none
  | .txComplete => none
  | .routineYieldExpiry => none
  | .healthTimerExpiry => none
  | .stopHoldExpiry => none
  | .stopLineChange .. => none
  | .verdictTimerExpiry => none
  | .beaconEdge .. => none
  | .beaconSpaceTimeout => none
  | .sightingWindowExpiry => none
  | .peerSilent .. => none
  | .peerLost .. => none
  | .posClashHoldExpiry => none
  | .roleClashHoldExpiry => none
  | .missingPeerTimerExpiry => none
  | .startBit .. => none
  | .ledFlash => none

/-- The statement of the family. -/
def PayloadFits.Statement (i : Instr) : Prop :=
  ∀ p, payloadOf i = some p → (Machine.payloadBytes p).length ≤ 12

/-- Every payload is at most 12 bytes long (11.2). -/
theorem payloadBytes_length (p : Payload) : (Machine.payloadBytes p).length ≤ 12 := by
  cases p with
  | setup d => rcases d with ⟨dest, p⟩; cases p <;> simp [Machine.payloadBytes, Machine.partBytes, Machine.halfBytes]
  | _ => simp [Machine.payloadBytes, Machine.hazardBytes, Machine.verdictBytes, Machine.halfBytes]

theorem PayloadFits.hardReset : PayloadFits.Statement (.hardReset) :=
  fun p _ => payloadBytes_length p
theorem PayloadFits.strapSample (pos2 pos1 pos0 role : Bool) : PayloadFits.Statement (.strapSample pos2 pos1 pos0 role) :=
  fun p _ => payloadBytes_length p
theorem PayloadFits.tableSlotTest (good : BitVec 24) : PayloadFits.Statement (.tableSlotTest good) :=
  fun p _ => payloadBytes_length p
theorem PayloadFits.crcSelfTest (result : Half) : PayloadFits.Statement (.crcSelfTest result) :=
  fun p _ => payloadBytes_length p
theorem PayloadFits.linkLoopbackTimeout : PayloadFits.Statement (.linkLoopbackTimeout) :=
  fun p _ => payloadBytes_length p
theorem PayloadFits.floorEmitterTest (drive : Drive) : PayloadFits.Statement (.floorEmitterTest drive) :=
  fun p _ => payloadBytes_length p
theorem PayloadFits.wallEmitterTest (drive : Drive) : PayloadFits.Statement (.wallEmitterTest drive) :=
  fun p _ => payloadBytes_length p
theorem PayloadFits.bootTimerExpiry : PayloadFits.Statement (.bootTimerExpiry) :=
  fun p _ => payloadBytes_length p
theorem PayloadFits.setupPart (h : Head) (d : SetupData) : PayloadFits.Statement (.setupPart h d) :=
  fun p _ => payloadBytes_length p
theorem PayloadFits.rejoinOrder (h : Head) (dest : Pos) : PayloadFits.Statement (.rejoinOrder h dest) :=
  fun p _ => payloadBytes_length p
theorem PayloadFits.modeOrder (h : Head) (value : Byte) : PayloadFits.Statement (.modeOrder h value) :=
  fun p _ => payloadBytes_length p
theorem PayloadFits.floorPeriodExpiry : PayloadFits.Statement (.floorPeriodExpiry) :=
  fun p _ => payloadBytes_length p
theorem PayloadFits.wallPeriodExpiry : PayloadFits.Statement (.wallPeriodExpiry) :=
  fun p _ => payloadBytes_length p
theorem PayloadFits.guardedBurstStart (c : Chan) : PayloadFits.Statement (.guardedBurstStart c) :=
  fun p _ => payloadBytes_length p
theorem PayloadFits.floorBurstEnd (ambient lit : BitVec 10) : PayloadFits.Statement (.floorBurstEnd ambient lit) :=
  fun p _ => payloadBytes_length p
theorem PayloadFits.wallBurstEnd (ambient lit : BitVec 10) : PayloadFits.Statement (.wallBurstEnd ambient lit) :=
  fun p _ => payloadBytes_length p
theorem PayloadFits.bumpChange (active : Bool) : PayloadFits.Statement (.bumpChange active) :=
  fun p _ => payloadBytes_length p
theorem PayloadFits.dropChange (active : Bool) : PayloadFits.Statement (.dropChange active) :=
  fun p _ => payloadBytes_length p
theorem PayloadFits.encoderEdge (wheel : Wheel) (a b : Bool) : PayloadFits.Statement (.encoderEdge wheel a b) :=
  fun p _ => payloadBytes_length p
theorem PayloadFits.odoTimerExpiry : PayloadFits.Statement (.odoTimerExpiry) :=
  fun p _ => payloadBytes_length p
theorem PayloadFits.odometryFrame (h : Head) (d : OdometryData) : PayloadFits.Statement (.odometryFrame h d) :=
  fun p _ => payloadBytes_length p
theorem PayloadFits.stalledTimerExpiry : PayloadFits.Statement (.stalledTimerExpiry) :=
  fun p _ => payloadBytes_length p
theorem PayloadFits.odoRoleClashHoldExpiry : PayloadFits.Statement (.odoRoleClashHoldExpiry) :=
  fun p _ => payloadBytes_length p
theorem PayloadFits.carryEnd : PayloadFits.Statement (.carryEnd) :=
  fun p _ => payloadBytes_length p
theorem PayloadFits.ageTimerExpiry : PayloadFits.Statement (.ageTimerExpiry) :=
  fun p _ => payloadBytes_length p
theorem PayloadFits.ageTicksApplied : PayloadFits.Statement (.ageTicksApplied) :=
  fun p _ => payloadBytes_length p
theorem PayloadFits.serveOwnObservation : PayloadFits.Statement (.serveOwnObservation) :=
  fun p _ => payloadBytes_length p
theorem PayloadFits.serveOwnCliff : PayloadFits.Statement (.serveOwnCliff) :=
  fun p _ => payloadBytes_length p
theorem PayloadFits.serveFloorEvidence : PayloadFits.Statement (.serveFloorEvidence) :=
  fun p _ => payloadBytes_length p
theorem PayloadFits.serveWallClear : PayloadFits.Statement (.serveWallClear) :=
  fun p _ => payloadBytes_length p
theorem PayloadFits.servePeerAdd : PayloadFits.Statement (.servePeerAdd) :=
  fun p _ => payloadBytes_length p
theorem PayloadFits.servePeerUpdate : PayloadFits.Statement (.servePeerUpdate) :=
  fun p _ => payloadBytes_length p
theorem PayloadFits.servePeerWithdraw : PayloadFits.Statement (.servePeerWithdraw) :=
  fun p _ => payloadBytes_length p
theorem PayloadFits.serveCheckOutcome : PayloadFits.Statement (.serveCheckOutcome) :=
  fun p _ => payloadBytes_length p
theorem PayloadFits.serveLookup : PayloadFits.Statement (.serveLookup) :=
  fun p _ => payloadBytes_length p
theorem PayloadFits.checkTimeout : PayloadFits.Statement (.checkTimeout) :=
  fun p _ => payloadBytes_length p
theorem PayloadFits.checkAnswer (h : Head) (d : CheckAnswerData) : PayloadFits.Statement (.checkAnswer h d) :=
  fun p _ => payloadBytes_length p
theorem PayloadFits.checkRequest (h : Head) (d : CheckRequestData) : PayloadFits.Statement (.checkRequest h d) :=
  fun p _ => payloadBytes_length p
theorem PayloadFits.hazardReport (h : Head) (d : HazardData) : PayloadFits.Statement (.hazardReport h d) :=
  fun p _ => payloadBytes_length p
theorem PayloadFits.bootStatus (h : Head) (d : BootData) : PayloadFits.Statement (.bootStatus h d) :=
  fun p _ => payloadBytes_length p
theorem PayloadFits.verdict (h : Head) (d : VerdictData) : PayloadFits.Statement (.verdict h d) :=
  fun p _ => payloadBytes_length p
theorem PayloadFits.healthReport (h : Head) (d : Counts) : PayloadFits.Statement (.healthReport h d) :=
  fun p _ => payloadBytes_length p
theorem PayloadFits.rxFrameRejected (bytes : List Byte) : PayloadFits.Statement (.rxFrameRejected bytes) :=
  fun p _ => payloadBytes_length p
theorem PayloadFits.rxLengthMalformed (length : BitVec 4) : PayloadFits.Statement (.rxLengthMalformed length) :=
  fun p _ => payloadBytes_length p
theorem PayloadFits.frameAbandoned : PayloadFits.Statement (.frameAbandoned) :=
  fun p _ => payloadBytes_length p
theorem PayloadFits.frameHandlingEnd : PayloadFits.Statement (.frameHandlingEnd) :=
  fun p _ => payloadBytes_length p
theorem PayloadFits.txAttemptStart : PayloadFits.Statement (.txAttemptStart) :=
  fun p _ => payloadBytes_length p
theorem PayloadFits.txMismatch : PayloadFits.Statement (.txMismatch) :=
  fun p _ => payloadBytes_length p
theorem PayloadFits.txComplete : PayloadFits.Statement (.txComplete) :=
  fun p _ => payloadBytes_length p
theorem PayloadFits.routineYieldExpiry : PayloadFits.Statement (.routineYieldExpiry) :=
  fun p _ => payloadBytes_length p
theorem PayloadFits.healthTimerExpiry : PayloadFits.Statement (.healthTimerExpiry) :=
  fun p _ => payloadBytes_length p
theorem PayloadFits.stopHoldExpiry : PayloadFits.Statement (.stopHoldExpiry) :=
  fun p _ => payloadBytes_length p
theorem PayloadFits.stopLineChange (asserted : Bool) : PayloadFits.Statement (.stopLineChange asserted) :=
  fun p _ => payloadBytes_length p
theorem PayloadFits.verdictTimerExpiry : PayloadFits.Statement (.verdictTimerExpiry) :=
  fun p _ => payloadBytes_length p
theorem PayloadFits.beaconEdge (mark : Bool) (waited : Nat) : PayloadFits.Statement (.beaconEdge mark waited) :=
  fun p _ => payloadBytes_length p
theorem PayloadFits.beaconSpaceTimeout : PayloadFits.Statement (.beaconSpaceTimeout) :=
  fun p _ => payloadBytes_length p
theorem PayloadFits.sightingWindowExpiry : PayloadFits.Statement (.sightingWindowExpiry) :=
  fun p _ => payloadBytes_length p
theorem PayloadFits.peerSilent (p : Pos) : PayloadFits.Statement (.peerSilent p) :=
  fun p _ => payloadBytes_length p
theorem PayloadFits.peerLost (p : Pos) : PayloadFits.Statement (.peerLost p) :=
  fun p _ => payloadBytes_length p
theorem PayloadFits.posClashHoldExpiry : PayloadFits.Statement (.posClashHoldExpiry) :=
  fun p _ => payloadBytes_length p
theorem PayloadFits.roleClashHoldExpiry : PayloadFits.Statement (.roleClashHoldExpiry) :=
  fun p _ => payloadBytes_length p
theorem PayloadFits.missingPeerTimerExpiry : PayloadFits.Statement (.missingPeerTimerExpiry) :=
  fun p _ => payloadBytes_length p
theorem PayloadFits.startBit (waited : Nat) : PayloadFits.Statement (.startBit waited) :=
  fun p _ => payloadBytes_length p
theorem PayloadFits.ledFlash : PayloadFits.Statement (.ledFlash) :=
  fun p _ => payloadBytes_length p

end Sys2Proof.Laws
end

