-- ==== Sys2Proof/Tests/Slice0.lean ====
section
/-! SUPPORT. Tests: the checks of WellFormed, the worked examples of spec/, and for each statement with hypotheses a
state and operands that meet them. -/

namespace Sys2Proof.Tests

open Sys2Proof Sys2Proof.Machine

/-! ### States to test on -/

/-- The setup of the worked examples (01 section 1.8, 02 section 2.8, 06 section 6.7). -/
def setup : SetupValues :=
  { fx := 40, fy := 0, mx := 150, my := 110, ax := 11585, ay := 11585, kw := 6000, xf := 180, xr := 160, hw := 170,
    sBase := 40, fd := 626, fh := 7092, expected := 0x02#8, lf := 4, lm := 15, w := 2, texture := 20,
    bumpFitted := true, dropFitted := true, reverseLeft := false, reverseRight := false }

def noFlags : Flags := flagsOf 0

def lastVerdict : VerdictData :=
  { ahead := 2047, behind := 2047, flags := noFlags, floorClass := .hard, wall := .unseen }

/-- A SENSE node at position 2 in RUN, locked at step 4 on HARD, with an empty table and every timer running. -/
def run : State :=
  { State.reset with
    startup := { Startup.reset with node := .run, pos := 2, setup := some setup, code := some .c1, led := .steady }
    floor := { FloorChannel.reset with
      accepted := .hard, ch := { Channel.reset with period := some 0, bursting := true } }
    wall := { WallChannel.reset with ch := { Channel.reset with period := some 0, bursting := true, step := 11 } }
    table := { TableManager.reset with good := 0xFFFFFF#24, ageTimer := some 0 }
    clear := { Clearance.reset with
      ownStop := false, driver := false, last := some lastVerdict, verdictTimer := some 0 }
    link := { Link.reset with healthTimer := some 0 }
    peers := { PeerMonitor.reset with missingTimer := some 0 } }

/-- The node in a state of its start-up. -/
def at' (n : NodeState) (k : Option TestStep) : State :=
  State.reset.setStartup { Startup.reset with node := n, step := k, pos := 2, bootTimer := some 0 }

def entry (p : Payload) (urgent : Bool) (order : Nat) : TxEntry :=
  { payload := p, urgent := urgent, seq := none, crc := none, attempts := 0, order := order }

/-- A queue of urgent frames. -/
def answers (n : Nat) : List TxEntry :=
  (List.range n).map fun i => entry (.checkAnswer { dest := 1, id := 0, answer := .none, conf := 0 }) true i

/-- A record of the list of 06 section 6.7, or one like it. -/
def rec (slot : Slot) (kind : Hazard) (x y : Int) (conf : Nat) (own : Option Origin) (keys : List Key) : Record :=
  { slot := slot, kind := kind, x := x, y := y, conf := conf, age := 0, own := own, reported := false, keys := keys,
    check := if kind.isCliff then some .none else none
    clearRun := if kind = .obstacle ∧ own = some .wall then some 0 else none }

/-- The table of the worked example of 06 section 6.7. -/
def records : List Record :=
  [rec 7 .obstacle (-250) 60 10 (some .bump) [], rec 5 .obstacle 260 120 5 (some .wall) [],
   rec 8 (.rug .dark) 300 20 9 (some .floor) [], rec 3 .cliff 310 (-95) 8 (some .floor) [],
   rec 2 .obstacle 477 436 9 none [⟨4, 1⟩], rec 0 (.rug .light) 620 (-300) 9 (some .floor) []]

/-- RUN with that table under tag 22, the Table Manager at some work, and the ring of 02 section 2.9 after seq 22. -/
def ring : List RingEntry := [.motion 17 18 8 2, .motion 18 20 17 3, .motion 20 21 0 208, .motion 21 22 38 3]

def odo : Odometry :=
  { Odometry.reset with
    state := .tracking, source := some 3, baseline := some (1240, 1345), tag := some 22, ring := ring, lastDs := 38,
    stalled := some 0, clashHold := some 0 }

def busy (w : Work) : State :=
  { run with table := { run.table with records := records, tag := some 22, work := w, workTimer := some 0 }, odo := odo }

def serving (i : Item) : State := busy (.serving i)

/-- RUN with one transmission on the line. -/
def sending (p : Payload) (urgent : Bool) (attempts : Nat) : State :=
  run.setLink { run.link with
    onLine := some { entry := { entry p urgent 9 with seq := some 7, crc := some 0, attempts := attempts },
                     retry := true }, line := .busy }

def sense (src : Pos) (seq : Seq) : Head := { src := src, urgent := false, seq := seq, role := .sense }
def wheel (src : Pos) (seq : Seq) : Head := { src := src, urgent := true, seq := seq, role := .wheel }
def controller (seq : Seq) : Head := { src := 0, urgent := false, seq := seq, role := .controller }

/-- One property of the state a command gives. -/
def after (c : Instr) (s : State) (p : State → Bool) : Bool :=
  match exec c s with
  | .next t => p t
  | _ => false

/-! ### WellFormed -/

theorem test_wf_refuses_empty_zone (h : Head) :
    Instr.wf (.hazardReport h { action := .add, kind := .dock Zone.empty, id := 0, x := 0, y := 0, conf := 0, tag := none })
      = false := rfl
theorem test_wf_refuses_short_frame : Instr.wf (.rxFrameRejected [0x24, 0xC8]) = false := by decide
theorem test_wf_refuses_wrong_length : Instr.wf (.rxFrameRejected [0x24, 0xC8, 0x01, 0, 0]) = false := by decide
theorem test_wf_refuses_length_13 : Instr.wf (.rxFrameRejected (0x24 :: 0xC8 :: 0x0D :: List.replicate 15 0)) = false := by
  decide
theorem test_wf_accepts_frame : Instr.wf (.rxFrameRejected [0xA0, 0, 0x01, 2, 0, 0]) = true := by decide
theorem test_wf_refuses_length_field_12 : Instr.wf (.rxLengthMalformed 12) = false := by decide
theorem test_wf_accepts_length_field_13 : Instr.wf (.rxLengthMalformed 13) = true := by decide

/-! ### Worked examples of spec/ -/

/-- R162, R183: the CRC of 0x31 to 0x39 is 0x29B1. -/
theorem test_crc_check_value :
    crc16 [0x31#8, 0x32#8, 0x33#8, 0x34#8, 0x35#8, 0x36#8, 0x37#8, 0x38#8, 0x39#8] = 0x29B1#16 := by decide +kernel

/-- 11, worked example: the eleven bytes of one hazard report. -/
theorem test_hazard_report_bytes :
    frameBody { head := sense 2 200
                payload := .hazard { action := .add, kind := .obstacle, id := 5, x := BitVec.ofInt 16 (-250), y := 60,
                                     conf := 10, tag := some 41 } } =
      [0x24#8, 0xC8#8, 0x08#8, 0x20#8, 0x05#8, 0xFF#8, 0x06#8, 0x00#8, 0x3C#8, 0x0A#8, 0x29#8] := by decide

/-- 11, worked example: payload byte 0 read as 0xE0 is malformed. -/
theorem test_hazard_action_3_malformed :
    readBody [0x24, 0xC8, 0x08, 0xE0, 0x05, 0xFF, 0x06, 0x00, 0x3C, 0x0A, 0x29] = none := by decide

/-- 01 section 1.8, worked example: R, isqrt, d and the obstacle point. -/
theorem test_wall_distance :
    isqrt (512 * 256 / gain 11) = 13 ∧ wallDistance 6000 512 11 = 461 ∧
      alongAxis setup 461 = (476, 436) := by decide

/-- 01 section 1.5, the black rug at b9: the window's differences add up to 334. -/
theorem test_texture_sum : textureSum [312, 290, 335, 270, 318, 281, 330, 262] = 334 := by decide

/-- 02 section 2.9: the deltas of seqs 18, 20, 21 and 22. -/
theorem test_pose_deltas :
    (poseDs 626 13 14, poseDth 7092 13 14) = (8, 2) ∧ (poseDs 626 26 28, poseDth 7092 26 28) = (17, 3) ∧
      (poseDs 626 (-60) 60, poseDth 7092 (-60) 60) = (0, 208) ∧
      (poseDs 626 61 63, poseDth 7092 61 63) = (38, 3) := by decide

/-- 04 section 4.2: the table of sine and cosine terms. -/
theorem test_turn_terms :
    [1, 3, 8, 9, 104, 115, 116, 128].map (fun p => (Machine.sineTerm p, cosineTerm p)) =
      [(25, 16384), (75, 16384), (201, 16383), (226, 16382), (2613, 16176), (2889, 16129), (2915, 16125),
       (3216, 16068)] := by decide

/-- 04 section 4.7, cases A, B and C. -/
theorem test_carry_cases :
    carryPointAll (subSteps 8 3) (300, -40) = (292, -41) ∧ subSteps 0 346 = [(0, 116), (0, 115), (0, 115)] ∧
      carryPointAll (subSteps 0 346) (400, 0) = (345, -203) ∧ subSteps 370 17 = [(185, 9), (185, 8)] ∧
      carryPointAll (subSteps 370 17) (620, 150) = (254, 141) ∧
      carryPointAll (subSteps 370 17) (-1400, 200) = (-1764, 244) := by decide

/-- 04 section 4.7: four tags reconciled against one ring. -/
theorem test_reconciliation :
    (busy .idle).reconcile (some 22) = .asIs ∧ ((busy .idle).reconcile (some 21)).point 500 60 = (462, 58) ∧
      (busy .idle).reconcile (some 24) = .ahead ∧ (busy .idle).reconcile (some 12) = .failed := by decide

/-- 06 section 6.7, worked example: one verdict. -/
theorem test_clearance_example :
    clearAhead setup .clean records = 130 ∧ clearBehind setup .clean records = 90 := by decide

/-! ### One step each, from the worked examples and the tables of the rules -/

/-- 01 section 1.8: the burst is detecting, the step is held, and the observation is made. -/
theorem test_wall_burst :
    after (.wallBurstEnd 0 512) run (fun t => t.wall.result = .obstacle ∧ t.wall.ch.step = 11 ∧
      t.table.work = .serving (.own .obstacle .wall 476 436 none)) = true := by decide

/-- 01 section 1.5, a drop, b1: A = 4 at step 4 jumps to step 15 and is not classified. -/
theorem test_drop_b1 :
    after (.floorBurstEnd 10 14) run (fun t => t.floor.ch.step = 15 ∧ t.floor.accepted = .hard ∧
      t.floor.runClass = none) = true := by decide

/-- 01 section 1.5, a drop, b3: the second CLIFF burst at step 15 accepts CLIFF and makes a CLIFF observation. -/
theorem test_drop_b3 :
    after (.floorBurstEnd 10 12)
      (run.setFloor { run.floor with ch := { run.floor.ch with step := 15 }, runClass := some .cliff, runCount := 1 })
      (fun t => t.floor.accepted = .cliff ∧ t.floor.runClass = none ∧
        t.table.work = .serving (.own .cliff .floor 40 0 none)) = true := by decide

/-- 01 R4: an ambient sample of 301 is blinded; of 300 it is not. -/
theorem test_blinded_edge :
    after (.floorBurstEnd 301 700) run (fun t => t.floor.ch.blinded = 1 ∧ t.link.counts.blindedBursts = 1) = true ∧
      after (.floorBurstEnd 300 700) run (fun t => t.floor.ch.blinded = 0 ∧ t.floor.window = [400]) = true := by decide

/-- 01 R5: the edges of the bands at step 4: 7 and 8, 199 and 200, 900 and 901. -/
theorem test_ladder_edges :
    [7, 8, 199, 200, 900, 901].map (fun a =>
      after (.wallBurstEnd 0 (BitVec.ofNat 10 a)) run fun t => t.wall.ch.step = 11) =
      [false, true, true, true, true, false] := by decide

/-- 02 R27: the count wraps, and option "reverse" inverts the step. -/
theorem test_encoder_wraps :
    after (.encoderEdge .left false true)
      { run with
        startup := { run.startup with role := .wheel }
        enc := { run.enc with left := 0x7FFF#16, quadLeft := some ⟨false, false⟩ } }
      (fun t => t.enc.left = 0x8000#16 ∧ t.enc.quadLeft = some ⟨false, true⟩) = true := by decide

/-- 02 section 2.9, seq 23: a jump appends a break, and the oldest entry leaves the ring. -/
theorem test_odometry_jump :
    after (.odometryFrame (wheel 3 23) { left := 4000, right := 1352, interval := 10, errors := 0 }) (busy .idle)
      (fun t => t.odo.ring = ring.drop 1 ++ [.brk 22 23] ∧ t.odo.tag = some 23 ∧ t.odo.lastDs = 0) = true := by decide

/-- 04 R77 row 4: a carry from tag 21 to 22 moves every record through (38, 3). -/
theorem test_carry_moves :
    after .carryEnd (busy (.carrying { tableTag := some 21, odoTag := some 22, ring := ring, occupied := 6 }))
      (fun t => (t.at 8).map (fun r => (r.x, r.y)) = some (262, 19) ∧ t.table.tag = some 22) = true := by decide

/-- 04 section 4.7: a degrade halves 9 to 4 and keeps the place. -/
theorem test_carry_degrades :
    after .carryEnd (busy (.carrying { tableTag := some 12, odoTag := some 22, ring := ring, occupied := 6 }))
      (fun t => (t.at 8).map (fun r => (r.x, r.conf)) = some (300, 4)) = true := by decide

/-- 06 section 6.7: with last Δs = 8 the own stop condition is met and the driver asserted. -/
theorem test_stop_term :
    after .verdictTimerExpiry { busy .idle with odo := { odo with lastDs := 8 } }
      (fun t => t.clear.ahead = 130 ∧ t.clear.ownStop = true ∧ t.clear.driver = true ∧
        t.clear.hold = some 30000) = true ∧
      after .verdictTimerExpiry { busy .idle with odo := { odo with lastDs := 4 } }
        (fun t => t.clear.ownStop = false ∧ t.clear.driver = false) = true := by decide

/-- 07 worked example: data mark 7 completes 0x54, HALO. -/
theorem test_halo_byte :
    after (.beaconEdge false 20)
      (run.setBeacon { Beacon.reset with
        mark := true, decode := .bitMark 7, code := [false, true, false, true, false, true, false] })
      (fun t => t.beacon.set.halo = true ∧ t.beacon.set.left = false ∧ t.beacon.window = some 120000) = true := by decide

/-- 07 R147: HALO makes a DOCK observation 150 mm along the wall axis: 150 · 11585 / 16384 = 106.06. -/
theorem test_dock_point :
    after .sightingWindowExpiry
      (run.setBeacon { Beacon.reset with window := some 0, set := { left := false, right := false, halo := true } })
      (fun t => t.table.work = .serving (.own (.dock { left := false, right := false, halo := true }) .beacon 256 216
        none)) = true := by decide

/-- 11 worked example: the report's bytes and their CRC are taken in; one bit wrong is a CRC error (R173). -/
theorem test_report_received :
    after (.rxFrameRejected (frameBytes { head := sense 4 200, payload := .mode 0 })) run
      (fun t => t.link.rx = [{ head := sense 4 200, payload := .mode 0 }] ∧ t.link.counts.crcError = 0) = true ∧
      after (.rxFrameRejected [0x98, 0xC8, 0x01, 0x00, 0, 0]) run (fun t => t.link.counts.crcError = 1) = true := by
  decide +kernel

/-! ### Witnesses: for each statement with hypotheses, a state and operands that meet them -/

theorem run_stopHeld : run.StopHeld := by unfold State.StopHeld; decide

theorem busy_tableOk (w : Work) (h : ∀ i, w = .serving i → i.ConfOk) : (busy w).TableOk := by
  refine ⟨⟨by simp [busy, run, TableManager.reset], by simp [busy, run, TableManager.reset], ?_⟩, ?_, ?_, ?_, ?_, ?_⟩
  · cases w <;> first | trivial | exact h _ rfl
  · show (records.map Record.slot).Nodup ∧ ∀ r ∈ records, (0xFFFFFF#24).getLsbD r.slot = true; decide
  · show records.Pairwise Record.before; decide
  · show ∀ r ∈ records, r.FieldsOk; unfold Record.FieldsOk Record.InRange; decide
  · show (records.flatMap Record.keys).Nodup; decide
  · intro h; cases h

theorem witness_StepRunsFrontCommand :
    (State.reset.setPending [.hardReset, .ledFlash]).pending = .hardReset :: [.ledFlash] := rfl

theorem witness_IdleStepIsTheClock :
    State.reset.pending = [] ∧ State.reset.due = [] ∧ run.pending = [] ∧
      (∃ c rest, (at' .awaitSetup none).due = c :: rest) ∧ State.reset.onLink = false :=
  ⟨rfl, by decide, rfl, ⟨_, _, rfl⟩, rfl⟩

/-- A WHEEL node in RUN with nothing due, each filter one microsecond before a second equal sample. -/
def calm : State :=
  { run with
    pins := { Pins.reset with bump := true, drop := true, stopLine := .low, beaconMark := true,
                              encLeft := ⟨false, true⟩, encRight := ⟨true, true⟩ }
    startup := { run.startup with role := .wheel }
    floor := { run.floor with ch := { run.floor.ch with period := some 5, ambient := some 2 } }
    wall := { run.wall with ch := { run.wall.ch with period := some 5, ambient := some 1 } }
    bump := { accepted := false, last := some true, sample := some 1 }
    drop := { accepted := false, last := some true, sample := some 1 }
    enc := { run.enc with quadLeft := some ⟨false, false⟩, lastLeft := some ⟨false, true⟩,
                          quadRight := some ⟨false, false⟩, lastRight := some ⟨false, false⟩, sample := some 1 }
    table := { run.table with ageTimer := some 5 }
    clear := { run.clear with
      verdictTimer := some 5, line := { accepted := false, last := some true, sample := some 1 } }
    beacon := { run.beacon with last := some true, sample := some 1 }
    peers := { run.peers with missingTimer := some 5 }
    link := { run.link with healthTimer := some 5, line := .low } }

/-- One property of the state a step gives. -/
def stepped (s : State) (p : State → Bool) : Bool :=
  match step s with
  | .next t => p t
  | _ => false

theorem witness_IdleStepIsTheClock_filters :
    calm.pending = [] ∧ calm.due = [] ∧ calm.onLink = true ∧ calm.link.line = .low ∧
      calm.floor.ch.ambient = some 2 ∧ calm.wall.ch.ambient = some 1 ∧ calm.enc.quadLeft = some ⟨false, false⟩ ∧
      calm.enc.lastLeft = some ⟨false, true⟩ := by decide

/-- R21, R126, R137: a second equal sample becomes a command; R26, R27: an encoder level sampled twice is counted, and
one sampled once is not. -/
theorem test_second_samples :
    stepped calm (fun t => t.pending = [.bumpChange true, .dropChange true, .stopLineChange true, .beaconEdge true 0] ∧
      t.enc.left = 1 ∧ t.enc.right = 0 ∧ t.enc.quadRight = some ⟨false, false⟩) = true ∧
      stepped { calm with beacon := { calm.beacon with last := some false } }
        (fun t => .beaconEdge true 0 ∉ t.pending ∧ t.beacon.last = some true) = true := by decide

/-- R1: the ambient sample gives way to the lit one, and FEMIT is then driven until the burst ends. -/
theorem test_emitter :
    stepped { calm with floor := { calm.floor with ch := { calm.floor.ch with ambient := some 1 } } }
        (fun t => t.femit) = true ∧
      stepped calm (fun t => t.femit) = false ∧ run.femit = true ∧
      after (.floorBurstEnd 0 500) run (fun t => t.femit) = false ∧
      after (.modeOrder (controller 5) 2) run (fun t => t.wemit) = false := by decide

/-- R161, R179: the idle time counts from the end of a 0-level bit, and not before SELF-TEST. -/
theorem test_idle_time :
    stepped calm (fun t => t.link.line = .idle 0 ∧ t.link.access = 1) = true ∧
      stepped State.reset (fun t => t.link.line = .idle 0 ∧ t.link.access = 0) = true := by decide

/-- RUN with two frames queued, one buffered, and a command waiting. -/
def full : State :=
  let s := busy .idle
  { s with
    link := { s.link with
      queue := [entry (.checkAnswer { dest := 1, id := 0, answer := .none, conf := 0 }) true 0,
                entry (.health Counts.zero) false 1]
      rx := [{ head := sense 4 9, payload := .mode 0 }], handling := some { timer := 0, wait := .no } }
    pending := [.ledFlash] }

theorem witness_full_steps : ∃ t, step full = .next t := ⟨_, rfl⟩
theorem witness_StepKeepsStopAsserted : full.StopHeld := by unfold State.StopHeld; decide
theorem witness_StepKeepsTransmitQueue : full.link.QueueOk := by unfold Link.QueueOk; decide
theorem witness_StepKeepsReceiveBuffers : full.link.BuffersOk := by unfold Link.BuffersOk; decide
theorem witness_StepKeepsOdometryRing : full.odo.RingOk := by unfold Odometry.RingOk chained; decide
theorem witness_StepKeepsTable : full.TableOk := busy_tableOk .idle fun _ h => nomatch h
theorem witness_StepKeepsReport : full.ReportOk := by unfold State.ReportOk; decide
theorem witness_StepKeepsRequestFifo : full.table.FifoOk := witness_StepKeepsTable.1
theorem witness_StepKeepsSetupAndScale : full.SetUp ∧ full.clear.InScale := by
  unfold State.SetUp Clearance.InScale; decide

theorem witness_FrameBytesReadBack :
    (Payload.hazard { action := .add, kind := .dock { left := true, right := false, halo := false }, id := 23,
                      x := 0, y := 0, conf := 15, tag := none }).wf = true := rfl

theorem witness_ReceiveChecksInOrder :
    (0#16 ≠ crc16 [0x94#8, 0#8, 0x01#8, 0#8]) ∧ (0x04#8).extractLsb' 4 4 = 0#4 ∧
      10 < ((0xB4#8).extractLsb' 4 4).toNat ∧ (0x41#8).extractLsb' 6 2 ≠ 0#2 ∧
      ((0x02#8).extractLsb' 0 4).toNat ≠ [0#8].length ∧
      checkFrame (frameBytes { head := sense 4 9, payload := .mode 3 }) =
        .good { head := sense 4 9, payload := .mode 3 } := by decide +kernel

/-- R192, R193: a mode order of two bytes, a position of 8, a setup part 1 with the length of part 0, a floor class of 6,
a code of 8, a no-tag marker over a tag, and reserved bits of an answer are refused; the values beside them are not. -/
theorem test_refused_payloads :
    [(9, [0, 0]), (10, [8]), (8, [2, 1, 0, 0, 0, 0, 0, 0, 0, 0]), (3, [0, 0, 0, 0, 0, 0, 6]), (7, [8, 0, 0, 0]),
      (4, [0x80, 0, 0, 0, 0, 1]), (5, [1, 0x10, 0, 0])].map (fun p => (readPayload p.1 p.2).isSome) =
        List.replicate 7 false ∧
      [(9, [0]), (10, [7]), (8, [2, 1, 0, 0, 0, 0, 0, 0]), (3, [0, 0, 0, 0, 0, 0, 5]), (7, [7, 0, 0, 0]),
        (4, [0x80, 0, 0, 0, 0, 0]), (5, [1, 0x0F, 0, 0])].map (fun p => (readPayload p.1 p.2).isSome) =
        List.replicate 7 true := by decide

theorem witness_StrapSampleEntersSelfTest :
    ((at' .held none).startup.node = .held ∨ (at' .held none).startup.node = .strap) ∧
      (at' .held none).link.queue.length < txQueueSize ∧ (at' .strap none).startup.node = .strap := by decide

theorem witness_SelfTestStepsPass :
    (at' .selfTest (some .s7)).link.queue.length < txQueueSize ∧ (at' .selfTest (some .s7)).inStep .s7 = true ∧
      leastUsable ≤ goodSlots 0x00FFFF#24 ∧ (at' .selfTest (some .s6)).inStep .s6 = true ∧
      (at' .selfTest (some .s4)).inStep .s4 = true ∧ (at' .selfTest (some .s3)).inStep .s3 = true := by decide

theorem witness_SelfTestFailuresEnterFault :
    (at' .selfTest (some .s7)).inStep .s7 = true ∧ goodSlots 0x007FFF#24 < leastUsable ∧
      0x29B0#16 ≠ 0x29B1#16 ∧ (at' .selfTest (some .s5)).inStep .s5 = true ∧ Drive.tooLittle ≠ .inBand ∧
      ((at' .selfTest (some .s7)).link.queue.filter fun e => e.payload.isBoot).length < txQueueSize := by decide

/-- AWAIT-SETUP with its boot frame still pending. -/
def pendingBoot : State :=
  (at' .awaitSetup none).setStartup { (at' .awaitSetup none).startup with bootPending := some 0 }

theorem witness_BootTimerAndLedPace :
    (at' .awaitSetup none).startup.bootTimer.isSome ∧ (at' .awaitSetup none).startup.node = .awaitSetup ∧
      (at' .fault none).startup.node = .fault ∧ (at' .fault none).startup.bootTimer.isSome ∧
      (at' .awaitSetup none).startup.bootPending = none ∧ (at' .awaitSetup none).link.queue.length < txQueueSize ∧
      pendingBoot.startup.bootPending ≠ none ∧ pendingBoot.startup.bootTimer.isSome := by decide

/-- LED_FLASH from each pattern: the last flash of a group of 7, and the one before it. -/
theorem test_led_flash :
    [Led.flashOn 7 6, .flashOff 7 5, .flashOff 7 6, .gap, .faultOn, .faultOff].map (fun l =>
      after .ledFlash (State.reset.setStartup { Startup.reset with led := l, code := some .c7 }) fun t =>
        t.startup.led = (match l with
          | .flashOn n k => .flashOff n k
          | .flashOff _ 5 => .flashOn 7 6
          | .flashOff _ _ => .gap
          | .gap => .flashOn 7 0
          | .faultOn => .faultOff
          | l => if l = .faultOff then .faultOn else l)) = List.replicate 6 true := by decide

def part0 : Part0 := { fx := 40, fy := 0, mx := 150, my := 110 }
def part1 : Part1 := { ax := 11585, ay := 11585, kw := 6000 }
def part2 : Part2 := { xf := 180, xr := 160, hw := 170, sBase := 40 }
def part3 : Part3 :=
  { fd := 626, fh := 7092, expected := 0x02, lf := 4, lm := 15, w := 2, texture := 20, options := 0x03 }

/-- AWAIT-SETUP with parts 0 to 2 held. -/
def nearlySetUp : State :=
  (at' .awaitSetup none).setStartup { (at' .awaitSetup none).startup with
    part0 := some part0, part1 := some part1, part2 := some part2 }

theorem witness_SetupPartIsJudged :
    (at' .awaitSetup none).Accepts (controller 5) ∧ (3 : Pos) ≠ (at' .awaitSetup none).startup.pos ∧
      (at' .awaitSetup none).Accepts (sense 4 5) ∧ (sense 4 5).role ≠ .controller ∧
      (2 : Pos) = (at' .awaitSetup none).startup.pos ∧ (controller 5).role = .controller ∧
      ((at' .awaitSetup none).startup.holdPart (.part0 part0)).complete = false := by
  unfold State.Accepts; decide

theorem witness_SetupCompletionEntersRun :
    nearlySetUp.Accepts (controller 5) ∧ (2 : Pos) = nearlySetUp.startup.pos ∧
      nearlySetUp.startup.node = .awaitSetup ∧
      (nearlySetUp.startup.holdPart (.part3 part3)).part0 = some part0 ∧
      (nearlySetUp.startup.holdPart (.part3 part3)).part1 = some part1 ∧
      (nearlySetUp.startup.holdPart (.part3 part3)).part2 = some part2 ∧
      (nearlySetUp.startup.holdPart (.part3 part3)).part3 = some part3 ∧ nearlySetUp.link.queue.length < 4 ∧
      (∀ e ∈ nearlySetUp.link.queue, e.payload.isVerdict = false ∧ e.payload.isOdometry = false) := by
  unfold State.Accepts; decide

/-- R30, R134, R188: behind a boot frame that waits stand the code 1 frame and the first verdict; a WHEEL node's first
odometry frame stands ahead of them (with the wall channel FAILED, so that no free choice of R3 is met). -/
theorem test_run_entry_frames :
    let waiting := entry (.boot { code := .c2, cause := .none, usable := 24, floorEmitter := .ok, wallEmitter := .ok })
      false 0
    let s := nearlySetUp.setLink { nearlySetUp.link with queue := [waiting], nextOrder := 1 }
    let s := s.setWall { s.wall with healthOk := false }
    let orders := fun t : State => t.link.queue.map fun e => (e.order, e.urgent, e.payload.isBoot, e.payload.isVerdict)
    after (.setupPart (controller 5) { dest := 2, part := .part3 part3 }) s
        (fun t => orders t = [(0, false, true, false), (1, false, true, false), (2, false, false, true)]) = true ∧
      after (.setupPart (controller 5) { dest := 2, part := .part3 part3 })
        (s.setStartup { s.startup with role := .wheel })
        (fun t => orders t = [(2, true, false, false), (0, false, true, false), (1, false, true, false),
          (3, false, false, true)]) = true := by decide +kernel

theorem witness_orders :
    run.Accepts (controller 5) ∧ run.startup.node = .run ∧ (controller 5).role = .controller ∧
      (3 : Pos) ≠ run.startup.pos ∧ (2 : Pos) = run.startup.pos ∧ run.Accepts (sense 4 5) ∧
      (sense 4 5).role ≠ .controller ∧ 2 < (3#8 : Byte).toNat ∧ run.peers.mode ≠ .park ∧
      (at' .selfTest (some .s4)).Accepts (controller 5) ∧
      (at' .selfTest (some .s4)).startup.node = .selfTest := by
  unfold State.Accepts; decide

theorem witness_RejoinOrderIsJudged :
    after (.rejoinOrder (controller 5) 2) run (fun t => t.startup.node = .awaitSetup ∧ t.clear.driver = true) = true ∧
      after (.rejoinOrder (controller 5) 3) run (fun t => t.startup.node = .run) = true := by decide

/-- R127, R178: a rejoin order that is a role clash hands on a verdict before it is taken, which a full queue loses; the
code 2 frame takes the next enqueue order. -/
theorem test_rejoin_order_that_clashes :
    let s := run.setLink { run.link with queue := answers 6, nextOrder := 6 }
    let s := s.setPeers (s.peers.setEntry 1 { s.peers.entries[1] with state := .alive, role := some .controller })
    after (.rejoinOrder (controller 5) 2) s (fun t => t.link.queue.map TxEntry.order = [7] ∧
      t.startup.bootPending = some 7 ∧ t.link.counts.txFail = 1) = true := by decide +kernel

/-- R189: taken in AWAIT-SETUP too, a rejoin order begins a group of 2, whatever the LED showed. -/
theorem test_rejoin_group :
    let s := at' .awaitSetup none
    after (.rejoinOrder (controller 5) 2) (s.setStartup { s.startup with led := .flashOff 7 3, code := some .c2 })
      (fun t => t.startup.led = .flashOn 2 0 ∧ t.startup.ledTimer = some 150000) = true := by decide

theorem witness_ModeOrderIsJudged :
    after (.modeOrder (controller 5) 2) run (fun t => t.peers.mode = .park ∧ t.floor.ch.period = some 20000) = true ∧
      after (.modeOrder (controller 5) 3) run (fun t => t.link.counts.refusedOrder = 1) = true := by decide

/-- RUN in PARK, with the wall channel idle. -/
def parked : State :=
  { run with peers := { run.peers with mode := .park }, wall := run.wall.idle }

theorem witness_ModeOrderIsJudged_park : parked.Accepts (controller 5) ∧ parked.peers.mode = .park ∧
    parked.wall.healthOk = true := by unfold State.Accepts; decide

/-- RUN with no burst in progress: one waits on the floor channel or on the wall channel, or none. -/
def quiet (floorDue wallDue : Bool) : State :=
  { run with
    floor := { run.floor with
      ch := { run.floor.ch with bursting := false, due := floorDue, guard := if floorDue then some 0 else none } }
    wall := { run.wall with
      ch := { run.wall.ch with bursting := false, due := wallDue, guard := if wallDue then some 0 else none } } }

theorem witness_BurstsStartByTheGuard :
    (quiet false false).running = true ∧ (quiet false false).floor.ch.period.isSome ∧
      (quiet false false).wall.ch.period.isSome ∧ (quiet false false).floor.ch.due = false ∧
      (quiet false false).wall.ch.due = false ∧ (quiet false false).floor.ch.bursting = false ∧
      (quiet false false).wall.ch.bursting = false ∧ run.wall.ch.bursting = true ∧ run.floor.ch.bursting = true ∧
      (quiet true false).floor.ch.due = true ∧ (quiet true false).floor.ch.guard.isSome ∧
      (quiet false true).wall.ch.due = true ∧ (quiet false true).wall.ch.guard.isSome := by decide

/-- R3: a burst that falls due during the same channel's burst waits, and the burst goes on. -/
theorem test_due_during_own_burst :
    after .floorPeriodExpiry run (fun t => t.floor.ch.bursting ∧ t.floor.ch.due ∧ t.femit) = true ∧
      after .floorPeriodExpiry (quiet false false) (fun t => t.floor.ch.ambient = some 40 ∧ !t.femit) = true := by decide

/-- RUN with a burst in progress on each channel, and bursts that fell due meanwhile. -/
def bursting (floorDue wallDue : Bool) : State :=
  { run with
    floor := { run.floor with ch := { run.floor.ch with due := floorDue } }
    wall := { run.wall with ch := { run.wall.ch with due := wallDue } } }

/-- R3: the other channel's waiting burst takes the guard at a burst's end, blinded or not; with none there, the
channel's own starts. -/
theorem test_burst_end :
    after (.floorBurstEnd 0 500) (bursting false true)
        (fun t => !t.floor.ch.bursting ∧ t.wall.ch.guard = some 50 ∧ t.wall.ch.due) = true ∧
      after (.floorBurstEnd 301 0) (bursting true false)
        (fun t => t.floor.ch.bursting ∧ t.floor.ch.ambient = some 40 ∧ !t.floor.ch.due) = true ∧
      after (.wallBurstEnd 0 500) (bursting true true)
        (fun t => !t.wall.ch.bursting ∧ t.wall.ch.due ∧ t.floor.ch.guard = some 50) = true ∧
      after (.wallBurstEnd 301 0) (bursting false false)
        (fun t => !t.wall.ch.bursting ∧ t.floor.ch.guard = none) = true := by decide

theorem witness_BlindedBurstsAreCounted :
    run.running = true ∧ 300 < (301#10).toNat ∧ run.floor.ch.bursting = true ∧ run.wall.ch.bursting = true ∧
      run.floor.ch.blinded + 1 ≠ 50 := by decide

/-- The 50th blinded burst in a row. -/
theorem test_blinded_50 :
    after (.floorBurstEnd 301 0) (run.setFloor { run.floor with ch := { run.floor.ch with blinded := 49 } })
      (fun t => t.floor.accepted = .unknown ∧ t.floor.ch.blinded = 50) = true := by decide

theorem witness_FloorBurstIsClassified :
    run.running = true ∧ run.floor.ch.bursting = true ∧ (300#10).toNat ≤ 300 ∧
      200 = (500#10).toNat - (300#10).toNat ∧ run.floor.window.length ≤ 8 ∧ run.drop.accepted = false := by decide

/-- The thresholds of R12: the sixth HARD burst over DARK, the eighth over CLIFF, and the tenth repeat. -/
theorem test_floor_thresholds :
    after (.floorBurstEnd 0 500)
        (run.setFloor { run.floor with accepted := .dark, runClass := some .hard, runCount := 5 })
        (fun t => t.floor.accepted = .hard) = true ∧
      after (.floorBurstEnd 0 500)
        (run.setFloor { run.floor with accepted := .cliff, runClass := some .hard, runCount := 6 })
        (fun t => t.floor.accepted = .cliff ∧ t.floor.runCount = 7) = true ∧
      after (.floorBurstEnd 0 500)
        (run.setFloor { run.floor with accepted := .hard, repeats := 9 })
        (fun t => t.floor.repeats = 0 ∧ t.table.work = .serving (.floorClear 40 0 none)) = true := by decide

/-- R15: the tenth burst that accepts no class repeats the accepted one's observation, be it of another class. -/
theorem test_repeat_of_other_class :
    after (.floorBurstEnd 0 500) (run.setFloor { run.floor with accepted := .darkRug, repeats := 9 })
        (fun t => t.floor.accepted = .darkRug ∧ t.floor.runClass = some .hard ∧ t.floor.runCount = 1 ∧
          t.floor.repeats = 0 ∧ t.table.work = .serving (.own (.rug .dark) .floor 40 0 none)) = true ∧
      after (.floorBurstEnd 0 500) (run.setFloor { run.floor with accepted := .unknown, repeats := 9 })
        (fun t => t.floor.repeats = 0 ∧ t.table.work = .idle) = true := by decide

/-- DROP active holds the accepted class (R17). -/
theorem witness_FloorBurstIsClassified_drop :
    after (.floorBurstEnd 0 500)
      { run with drop := { run.drop with accepted := true }, floor := { run.floor with accepted := .cliff } }
      (fun t => t.floor.accepted = .cliff ∧ t.floor.runCount = 0) = true := by decide

theorem witness_WallBurstIsJudged :
    run.running = true ∧ run.wall.ch.bursting = true ∧ (0#10).toNat ≤ 300 ∧
      200 = (200#10).toNat - (0#10).toNat ∧
      max 20 (run.setup.kw / isqrt (900 * 256 / gain run.wall.ch.step)) ≤ 600 ∧
      600 < max 20 (run.setup.kw / isqrt (200 * 256 / gain run.wall.ch.step)) ∧ run.wall.ch.step ≠ 0 := by decide

theorem witness_SwitchChangesAreAccepted :
    run.running = true ∧ run.StopHeld ∧ run.setup.bumpFitted = true ∧ true ≠ run.bump.accepted ∧
      run.setup.dropFitted = true ∧ true ≠ run.drop.accepted := by
  unfold State.StopHeld; decide

theorem witness_SwitchChangesAreAccepted_notFitted :
    after (.bumpChange true)
      (run.setStartup { run.startup with setup := some { setup with bumpFitted := false } })
      (fun t => t.bump.accepted = false ∧ t.pins.bump = true) = true ∧
      false = run.bump.accepted ∧ (at' .awaitSetup none).running = false ∧
      after (.dropChange true) (at' .awaitSetup none)
        (fun t => t.drop.accepted = false ∧ t.pins.drop = true) = true := by decide

/-- A WHEEL node in RUN, its own odometry source. -/
def wheelRun : State :=
  { run with
    startup := { run.startup with role := .wheel }
    enc := { run.enc with quadLeft := some ⟨false, false⟩, odoTimer := some 0 }
    odo := { Odometry.reset with source := some 2 } }

theorem witness_EncoderEdgesAreCounted :
    wheelRun.running = true ∧ wheelRun.startup.role = .wheel ∧ wheelRun.enc.quad .left = some ⟨false, false⟩ ∧
      ((⟨false, false⟩, ⟨false, true⟩) : Pair × Pair) ∈ forwardSteps ∧
      ((⟨true, false⟩, ⟨false, false⟩) : Pair × Pair) ∈ forwardSteps ∧ run.startup.role ≠ .wheel ∧
      after (.encoderEdge .left true true) wheelRun (fun t => t.enc.errors = 1 ∧ t.enc.left = 0) = true := by decide

theorem witness_SnapshotsAreQueued :
    wheelRun.running = true ∧ wheelRun.startup.role = .wheel ∧ wheelRun.enc.odoTimer.isSome ∧
      wheelRun.link.queue.length < 6 ∧ 6 ≤ (answers 6).length ∧
      (∀ e ∈ answers 6, e.payload.isOdometry = false ∧ e.urgent = true) ∧
      after .odoTimerExpiry (wheelRun.setLink { wheelRun.link with queue := answers 6 })
        (fun t => t.link.queue = answers 6 ∧ t.link.counts.txFail = 1) = true := by decide

theorem witness_OdometryBaselineIsTaken :
    (busy .idle).Accepts (wheel 3 22) ∧ (busy .idle).running = true ∧ (wheel 3 22).role = .wheel ∧
      (busy .idle).odo.source = some 3 ∧ (busy .idle).odo.tag = some 22 ∧ (busy .idle).table.work = .idle ∧
      (busy (.aging 1)).table.work ≠ .idle ∧ (∃ e ∈ (busy .idle).odo.ring, e.fromTag = 17 ∨ e.toTag = 17) := by
  unfold State.Accepts; decide

/-- RUN with no odometry source. -/
def sourceless : State := (busy .idle).setOdo Odometry.reset

theorem witness_OdometryBaselineIsTaken_absent :
    sourceless.Accepts (wheel 3 22) ∧ sourceless.running = true ∧ sourceless.odo.source = none ∧
      sourceless.odo.state = .lost := by unfold State.Accepts; decide

/-- R34, R36: the first frame of a WHEEL station makes it the source, and an odometry frame is a baseline at once. -/
theorem test_first_odometry_frame :
    after (.odometryFrame (wheel 3 22) { left := 7, right := 8, interval := 10, errors := 0 }) sourceless
        (fun t => t.odo.source = some 3 ∧ t.odo.state = .tracking ∧ t.odo.baseline = some (7, 8) ∧
          t.odo.tag = some 22) = true ∧
      after (.checkRequest (wheel 3 22) { id := 3, x := 0, y := 0, tag := none }) sourceless
        (fun t => t.odo.source = some 3 ∧ t.odo.state = .lost) = true := by decide

theorem witness_OdometryDeltaIsApplied :
    (busy .idle).Accepts (wheel 3 29) ∧ (busy .idle).running = true ∧ (busy .idle).odo.state ≠ .lost ∧
      (busy .idle).odo.baseline = some (1240, 1345) ∧ (busy .idle).odo.tag = some 22 ∧ (22 : Seq) ≠ 29 ∧
      (∀ e ∈ (busy .idle).odo.ring, e.fromTag ≠ 29 ∧ e.toTag ≠ 29) ∧ (busy .idle).odo.ring.length ≤ 4 := by
  unfold State.Accepts; decide

/-- The jump limit of R37: 2047 ticks are no jump, and 2048 are. -/
theorem test_jump_limit :
    (deltaEntry { setup with fd := 64, fh := 1 } 1 2 2047 2047).1.isBreak = false ∧
      ((busy .idle).odo.apply setup 29 (1240 + 2048) 1345).ring.getLast?.map RingEntry.isBreak = some true := by decide

/-- R39: four sub-steps of 128 units each are a motion, and one unit more is a break. -/
theorem test_sub_step_limit :
    subStepCount 0 512 = 4 ∧ subStepCount 0 513 = 5 ∧ subStepCount 1020 0 = 4 ∧ subStepCount 1021 0 = 5 ∧
      subStepCount 0 0 = 1 := by decide

theorem witness_ForeignOdometryIsDiscarded :
    (busy .idle).Accepts (wheel 4 9) ∧ (busy .idle).running = true ∧ (wheel 4 9).role = .wheel ∧
      (busy .idle).odo.source = some 3 ∧ (3 : Pos) ≠ (wheel 4 9).src := by
  unfold State.Accepts; decide

/-- RUN with both clash holds of the Peer Monitor running and position 1 expected. -/
def clashing : State :=
  { busy .idle with
    peers := { (PeerMonitor.reset.expect 0x02) with
      posHold := some 0, roleHold := some 0, missingTimer := some 0 } }

theorem witness_HoldsAndTimersRunOut :
    clashing.running = true ∧ clashing.odo.stalled.isSome ∧ clashing.odo.state = .tracking ∧
      clashing.odo.clashHold.isSome ∧ clashing.receiving = true ∧ clashing.peers.posHold.isSome ∧
      clashing.peers.roleHold.isSome ∧ clashing.peers.missingTimer.isSome ∧
      after .missingPeerTimerExpiry clashing (fun t => t.peers.missing) = true := by decide

/-- The table with one record under check beyond the range limit of 1500, and one not under check. -/
def farRecords : List Record :=
  [{ rec 1 .cliff 1500 0 1 (some .floor) [] with check := some .pending },
   rec 2 .obstacle 1500 10 1 none [⟨4, 2⟩]]

def carrying (c : CarryInputs) : State := busy (.carrying c)
def inputs (t o : Option Seq) (r : List RingEntry) : CarryInputs :=
  { tableTag := t, odoTag := o, ring := r, occupied := 6 }

theorem witness_CarryEndTakesItsCourse :
    (carrying (inputs (some 21) (some 22) ring)).running = true ∧
      (carrying (inputs (some 21) (some 22) ring)).TableOk ∧
      ring = ring.take 3 ++ ring.drop 3 ∧ (∀ e ∈ ring.take 3, e.fromTag ≠ 21) ∧
      (∃ e ∈ (ring.drop 3).head?, e.fromTag = 21) ∧ (∀ e ∈ ring.drop 3, e.isBreak = false) :=
  ⟨rfl, busy_tableOk _ (by intro i h; cases h), rfl, by decide, ⟨_, rfl, rfl⟩, by decide⟩

/-- The five rows of R77, each at its edge. -/
theorem test_carry_rows :
    (inputs none (some 22) ring).course = .adopt ∧ (inputs (some 22) none ring).course = .hold ∧
      (inputs (some 22) (some 22) ring).course = .current ∧ (inputs (some 22) (some 22) []).course = .degrade ∧
      (inputs (some 17) (some 22) ring).course = .move ring ∧
      (inputs (some 21) (some 23) (ring.drop 1 ++ [.brk 22 23])).course = .degrade := by decide

/-- R82: a record moved from 1500 to 1501 is retired, and a CLIFF under check is kept. -/
theorem test_carry_range :
    (carryRecords (.move [.motion 1 2 (-1) 0]) farRecords).map (fun r => (r.slot, r.x)) = [(1, 1501)] ∧
      (carryRecords (.move [.motion 1 2 0 0]) farRecords).length = 2 ∧
      (carryRecords .degrade farRecords).map (fun r => (r.slot, r.conf)) = [(1, 0)] := by decide

theorem witness_AgeTicksAreApplied :
    (busy (.aging 1)).running = true ∧ (busy (.aging 1)).TableOk ∧ (busy (.aging 1)).table.ageTimer.isSome ∧
      (busy .idle).table.work = .idle ∧ (busy .idle).table.carryFlag = false ∧ (busy .idle).table.pendingAge = 0 :=
  ⟨rfl, busy_tableOk _ (by intro i h; cases h), rfl, rfl, rfl, rfl⟩

/-- R70: a TENTATIVE record retires at age 8 and a CONFIRMED one at age 120, and not one tick before. -/
theorem test_age_limits :
    (ageRecords ReportHandler.reset 1
      [{ rec 1 .obstacle 10 0 7 none [⟨4, 1⟩] with age := 6 }, { rec 2 .obstacle 10 0 7 none [⟨4, 2⟩] with age := 7 },
       { rec 3 .obstacle 10 0 8 none [⟨4, 3⟩] with age := 118 },
       { rec 4 .obstacle 10 0 8 none [⟨4, 4⟩] with age := 119 }]).map Record.slot = [1, 3] := by decide

theorem witness_ReconciliationTakesItsOrder :
    (busy .idle).table.tag = some 22 ∧ (busy .idle).odo.state ≠ .lost ∧ (21 : Seq) ≠ 22 ∧
      ChainPath (busy .idle).odo.ring 21 22 [.motion 21 22 38 3] :=
  ⟨rfl, by decide, by decide, ⟨ring.take 3, [], rfl, by decide⟩, ⟨_, rfl, rfl⟩, ⟨_, rfl, rfl⟩, by decide, by decide⟩

/-- R91: the ahead window is 1 to 8. -/
theorem test_ahead_window :
    [22, 23, 30, 31].map (fun t => (busy .idle).reconcile (some t)) = [.asIs, .ahead, .ahead, .failed] := by decide

def ownItem (k : Hazard) (x y : Int) : Item := .own k .floor x y (some 22)

theorem serving_ok (i : Item) (h : i.ConfOk) : (serving i).TableOk :=
  busy_tableOk _ (by intro j hj; cases hj; exact h)

theorem witness_OwnObservationsMergeOrCreate :
    (serving (.own .obstacle .wall 260 80 (some 22))).running = true ∧ Hazard.obstacle.isObstacle = true ∧
      (serving (.own .obstacle .wall 260 80 (some 22))).TableOk ∧
      NearestOf records (fun q => q.kind.sameKind .obstacle) 260 80 40 (rec 5 .obstacle 260 120 5 (some .wall) []) ∧
      NoneNear records (fun q => q.kind.sameKind .obstacle) 260 79 40 ∧ 1500 < max (1501 : Int).natAbs 0 := by
  refine ⟨rfl, rfl, serving_ok _ trivial, ?_, ?_, by decide⟩
  · unfold NearestOf; decide
  · unfold NoneNear; decide

/-- R57, R58: at 40 mm the observation merges, and at 41 mm it makes a record in the lowest free slot. -/
theorem test_obstacle_merge_radius :
    after .serveOwnObservation (serving (.own .obstacle .wall 260 80 (some 22)))
        (fun t => (t.at 5).map (fun r => (r.y, r.conf)) = some (100, 8)) = true ∧
      after .serveOwnObservation (serving (.own .obstacle .wall 260 79 (some 22)))
        (fun t => (t.at 1).map (fun r => (r.y, r.conf)) = some (79, 3)) = true := by decide

theorem witness_OwnCliffsAreServed :
    (serving (ownItem .cliff 340 (-95))).running = true ∧ (serving (ownItem .cliff 340 (-95))).TableOk ∧
      (serving (ownItem .cliff 340 (-95))).checkGone = false ∧ Origin.floor ≠ .bump ∧
      NearestOf records (fun q => decide (q.kind = .rug .dark ∧ 8 ≤ q.conf)) 330 20 30
        (rec 8 (.rug .dark) 300 20 9 (some .floor) []) ∧
      NoneNear records (fun q => decide (q.kind = .rug .dark ∧ 8 ≤ q.conf)) 340 (-95) 30 ∧
      NearestOf records (fun q => q.kind.isCliff) 340 (-95) 30 (rec 3 .cliff 310 (-95) 8 (some .floor) []) ∧
      NoneNear records (fun q => q.kind.isCliff) 341 (-95) 30 := by
  refine ⟨rfl, serving_ok _ trivial, by decide, by decide, ?_, ?_, ?_, ?_⟩
  all_goals first | (unfold NearestOf; decide) | (unfold NoneNear; decide)

/-- R59, R99, R100: a new CLIFF takes slot 1; with no peer alive its check resolves at once. -/
theorem test_new_cliff :
    after .serveOwnCliff (serving (ownItem .cliff 500 0))
      (fun t => (t.at 1).bind Record.check = some .pending ∧ t.report.phase = .resolved ∧ t.report.nextId = 1 ∧
        t.table.work = .serving (.outcome .confirm 1)) = true := by decide

theorem witness_OwnClearingRetiresRecords :
    (serving (.floorClear 310 (-65) (some 22))).running = true ∧
      (serving (.floorClear 310 (-65) (some 22))).TableOk ∧ (serving (ownItem (.rug .light) 310 (-95))).TableOk ∧
      (serving (.wallClear 150 110 11585 11585 (some 22))).TableOk ∧
      NearestOf records (fun q => q.kind.isRug) 360 20 60 (rec 8 (.rug .dark) 300 20 9 (some .floor) []) ∧
      NoneNear records (fun q => q.kind.isRug) 361 20 60 := by
  refine ⟨rfl, serving_ok _ trivial, serving_ok _ trivial, serving_ok _ trivial, ?_, ?_⟩
  · unfold NearestOf; decide
  · unfold NoneNear; decide

/-- R61: floor clear retires a CLIFF at 30 mm and leaves it at 31 mm. -/
theorem test_floor_clear_radius :
    after .serveFloorEvidence (serving (.floorClear 310 (-65) (some 22))) (fun t => (t.at 3).isNone) = true ∧
      after .serveFloorEvidence (serving (.floorClear 310 (-64) (some 22))) (fun t => (t.at 3).isSome) = true := by
  decide

/-- R62: the beam reaches 20 to 600 along the axis and 40 to either side. -/
theorem test_beam_edges :
    [((20 : Int), (0 : Int)), (19, 0), (600, 40), (601, 0), (600, 41)].map (fun p =>
      inBeam 0 0 16384 0 (rec 1 .obstacle p.1 p.2 3 (some .wall) [])) = [true, false, true, false, false] := by decide

def peerReport (a : Action) (k : Hazard) (x y : Int) : PeerReport :=
  { action := a, src := 4, id := 1, kind := k, x := x, y := y, conf := 15, tag := some 22 }

theorem witness_PeerAddsMergeOrCreate :
    (serving (.report (peerReport .add .obstacle 260 80))).running = true ∧
      (serving (.report (peerReport .add .obstacle 260 80))).TableOk ∧
      (serving (.report (peerReport .add .obstacle 260 80))).reconcile (some 22) ≠ .failed ∧
      NearestOf (records.filterMap (Record.without ⟨4, 1⟩)) (fun q => q.kind.sameKind .obstacle) 260 80 40
        (rec 5 .obstacle 260 120 5 (some .wall) []) ∧
      NoneNear (records.filterMap (Record.without ⟨4, 1⟩)) (fun q => q.kind.sameKind .obstacle) 477 436 40 := by
  refine ⟨rfl, serving_ok _ (by unfold Item.ConfOk; decide), by decide, ?_, ?_⟩
  · unfold NearestOf; decide
  · unfold NoneNear; decide

/-- R63: the key leaves slot 2, which it alone held, and the record in slot 5 takes it with confidence 15. -/
theorem test_peer_add :
    after .servePeerAdd (serving (.report (peerReport .add .obstacle 260 80)))
      (fun t => (t.at 2).isNone ∧ (t.at 5).map (fun r => (r.y, r.conf, r.keys)) = some (120, 15, [⟨4, 1⟩])) = true := by
  decide

theorem witness_PeerUpdatesAndWithdrawsActOnTheirKey :
    (serving (.report (peerReport .update .cliff 0 0))).running = true ∧
      (serving (.report (peerReport .update .cliff 0 0))).TableOk ∧
      (serving (.report (peerReport .withdraw .cliff 0 0))).TableOk ∧
      (rec 2 .obstacle 477 436 9 none [⟨4, 1⟩] ∈ records) ∧
      (⟨4, 1⟩ : Key) ∈ (rec 2 .obstacle 477 436 9 none [⟨4, 1⟩]).keys ∧
      (∀ q ∈ records, (⟨4, 2⟩ : Key) ∉ q.keys) ∧ (serving (.report (peerReport .withdraw .cliff 0 0))).checkGone = false :=
  ⟨rfl, serving_ok _ (by unfold Item.ConfOk; decide), serving_ok _ (by unfold Item.ConfOk; decide), by decide,
    by decide, by decide, by decide⟩

/-- R64, R65: the holder of the key takes the kind; a withdrawal leaves it with no origin, and it goes. -/
theorem test_peer_update_withdraw :
    after .servePeerUpdate (serving (.report (peerReport .update .cliff 0 0)))
        (fun t => (t.at 2).map (fun r => (r.kind, r.x, r.conf)) = some (.cliff, 477, 14)) = true ∧
      after .servePeerWithdraw (serving (.report (peerReport .withdraw .cliff 0 0)))
        (fun t => (t.at 2).isNone) = true := by decide

/-- A check of slot 3 is running or resolved, and slot 9 waits as the deferred candidate. -/
def checked (w : Work) (p : Phase) (d : Option Slot) : State :=
  let rs := (records.map fun r => if r.slot = 3 then { r with check := some .pending, reported := true } else r) ++
    [{ rec 9 .cliff 700 0 3 (some .floor) [] with check := some .deferred }]
  { busy w with
    table := { (busy w).table with records := rs }
    report := { ReportHandler.reset with
      phase := p, outstanding := some 3, checkId := some 6, awaited := [4, 5]
      checkTimer := if p = .awaiting then some 0 else none, deferred := d, nextId := 7 } }

theorem checked_tableOk (i : Item) (p : Phase) (d : Option Slot) (h : i.ConfOk) :
    (checked (.serving i) p d).TableOk := by
  refine ⟨⟨by simp [checked, busy, run, TableManager.reset], by simp [checked, busy, run, TableManager.reset], h⟩,
    ?_, ?_, ?_, ?_, ?_⟩
  · show ((checked .idle .idle none).table.records.map Record.slot).Nodup ∧
      ∀ r ∈ (checked .idle .idle none).table.records, (0xFFFFFF#24).getLsbD r.slot = true
    decide
  · show (checked .idle .idle none).table.records.Pairwise Record.before; decide
  · show ∀ r ∈ (checked .idle .idle none).table.records, r.FieldsOk; unfold Record.FieldsOk Record.InRange; decide
  · show ((checked .idle .idle none).table.records.flatMap Record.keys).Nodup; decide
  · intro h; cases h

theorem witness_StepKeepsReport_checks :
    (checked .idle .awaiting (some 9)).ReportOk ∧
      (checked (.serving (.outcome .overrule 3)) .resolved (some 9)).ReportOk := by unfold State.ReportOk; decide

/-- A check of slot 3 runs while floor evidence is served, which retires slot 3 or the candidate's slot 9. -/
theorem witness_OwnClearingRetiresRecords_checks :
    (checked (.serving (.floorClear 310 (-65) (some 22))) .awaiting (some 9)).TableOk ∧
      (checked (.serving (.floorClear 310 (-65) (some 22))) .awaiting (some 9)).hasMark 3 .pending = true ∧
      (checked (.serving (.floorClear 310 (-65) (some 22))) .awaiting (some 9)).hasMark 9 .deferred = true ∧
      cheb 310 (-95) 310 (-65) ≤ 30 ∧ cheb 700 0 700 30 ≤ 30 :=
  ⟨checked_tableOk _ _ _ trivial, by decide, by decide, by decide, by decide⟩

/-- R72, R108: evidence that retires the record under check cancels the check and promotes the candidate; evidence that
retires the candidate drops it. -/
theorem test_check_cancelled :
    after .serveFloorEvidence (checked (.serving (.floorClear 310 (-65) (some 22))) .awaiting (some 9))
        (fun t => t.hasMark 9 .pending ∧ t.report.outstanding = some 9 ∧ t.report.checkId = some 7 ∧
          t.report.deferred = none) = true ∧
      after .serveFloorEvidence (checked (.serving (.floorClear 310 (-65) (some 22))) .awaiting none)
        (fun t => t.report.phase = .idle ∧ t.report.outstanding = none ∧ !t.flags.checking) = true ∧
      after .serveFloorEvidence (checked (.serving (.floorClear 700 30 (some 22))) .awaiting (some 9))
        (fun t => t.report.phase = .awaiting ∧ t.report.outstanding = some 3 ∧ t.report.deferred = none) = true := by
  decide

/-- The record under check is held by a peer's key as well, and the peer's update or withdrawal is served. -/
def keyed (r : PeerReport) : State :=
  let s := checked (.serving (.report r)) .awaiting (some 9)
  s.setRecords (s.table.records.map fun q => if q.slot = 3 then { q with keys := [⟨4, 3⟩] } else q)

theorem keyed_tableOk (r : PeerReport) (h : r.conf ≤ maxConf) : (keyed r).TableOk := by
  refine ⟨⟨by simp [keyed, State.setRecords, State.setTable, checked, busy, run, TableManager.reset],
    by simp [keyed, State.setRecords, State.setTable, checked, busy, run, TableManager.reset], h⟩, ?_, ?_, ?_, ?_, ?_⟩
  · show ((keyed (peerReport .add .cliff 0 0)).table.records.map Record.slot).Nodup ∧
      ∀ q ∈ (keyed (peerReport .add .cliff 0 0)).table.records, (0xFFFFFF#24).getLsbD q.slot = true
    decide
  · show (keyed (peerReport .add .cliff 0 0)).table.records.Pairwise Record.before; decide
  · show ∀ q ∈ (keyed (peerReport .add .cliff 0 0)).table.records, q.FieldsOk
    unfold Record.FieldsOk Record.InRange; decide
  · show ((keyed (peerReport .add .cliff 0 0)).table.records.flatMap Record.keys).Nodup; decide
  · intro h; cases h

/-- An update of the record under check by its key, and a withdrawal whose key no record holds. -/
def checkedUpdate : PeerReport := { peerReport .update .obstacle 0 0 with id := 3 }
def strangeWithdraw : PeerReport := { peerReport .withdraw .obstacle 0 0 with id := 5 }

theorem witness_PeerUpdatesAndWithdrawsActOnTheirKey_checks :
    (keyed checkedUpdate).TableOk ∧ (keyed checkedUpdate).report.phase ≠ .idle ∧
      (keyed checkedUpdate).report.outstanding = some 3 ∧ (keyed checkedUpdate).hasMark 3 .pending = true ∧
      (keyed checkedUpdate).hasMark 9 .deferred = true ∧ (keyed checkedUpdate).table.fifo.length < fifoSize ∧
      (keyed strangeWithdraw).checkGone = false ∧
      (∀ q ∈ (keyed strangeWithdraw).table.records, (⟨4, 5⟩ : Key) ∉ q.keys) :=
  ⟨keyed_tableOk checkedUpdate (show 15 ≤ maxConf by decide), by decide⟩

/-- R64, R108: the update cancels the check and promotes the candidate; R65: a withdrawal with no holder changes no
record and sends nothing. -/
theorem test_update_cancels :
    after .servePeerUpdate (keyed checkedUpdate)
        (fun t => (t.at 3).map Record.kind = some .obstacle ∧ t.report.outstanding = some 9 ∧
          t.hasMark 9 .pending) = true ∧
      after .servePeerWithdraw (keyed strangeWithdraw)
        (fun t => t.table.records = (keyed strangeWithdraw).table.records ∧ t.link.queue = []) = true := by decide

theorem witness_CheckOutcomesAreApplied :
    (checked (.serving (.outcome .overrule 3)) .resolved (some 9)).running = true ∧
      (checked (.serving (.outcome .overrule 3)) .resolved (some 9)).TableOk ∧
      (checked (.serving (.outcome .overrule 3)) .resolved (some 9)).hasMark 3 .pending = true ∧
      (checked (.serving (.outcome .overrule 3)) .resolved (some 9)).hasMark 9 .deferred = true ∧
      (checked (.serving (.outcome .overrule 5)) .resolved none).hasMark 5 .pending = false ∧
      (checked (.serving (.outcome .overrule 3)) .resolved (some 9)).table.fifo.length < 8 :=
  ⟨rfl, checked_tableOk _ _ _ trivial, by decide, by decide, by decide, by decide⟩

/-- R71, R72, R106: OVERRULE makes slot 3 a dark RUG, and slot 9's check is promoted. -/
theorem test_overrule :
    after .serveCheckOutcome (checked (.serving (.outcome .overrule 3)) .resolved (some 9))
      (fun t => (t.at 3).map (fun r => (r.kind, r.conf, r.check)) = some (.rug .dark, 8, none) ∧
        t.floor.accepted = .darkRug ∧ t.hasMark 9 .pending ∧ t.report.checkId = some 7) = true := by decide

/-- R127: an outcome that ends one check and starts another lowers and raises CHECKING, and each is recomputed on: a
verdict goes out although the flags end as they began. -/
theorem test_checking_lowered_and_raised :
    let s := checked (.serving (.outcome .confirm 3)) .resolved (some 9)
    let s := (s.setClear { s.clear with verdictTimer := some 50 }).reclear
    after .serveCheckOutcome (s.setClear { s.clear with last := some s.verdictNow })
      (fun t => t.link.queue.any (fun e => e.payload.isVerdict) && t.flags.checking) = true := by decide +kernel

theorem witness_LookupsAreAnswered :
    (serving (.lookup 4 3 310 (-65) (some 22))).running = true ∧
      (serving (.lookup 4 3 310 (-65) (some 22))).link.queue.length < 6 ∧
      (serving (.lookup 4 3 310 (-65) (some 22))).reconcile (some 22) ≠ .failed ∧
      NearestOf records (fun r => !(r.own.isNone && !r.keys.isEmpty && r.keys.all fun k => k.src = 4)) 310 (-65) 30
        (rec 3 .cliff 310 (-95) 8 (some .floor) []) ∧
      NoneNear records (fun r => !(r.own.isNone && !r.keys.isEmpty && r.keys.all fun k => k.src = 4)) 477 436 30 ∧
      (serving (.lookup 4 3 310 (-65) (some 22))).TableOk := by
  refine ⟨rfl, by decide, by decide, ?_, ?_, serving_ok _ trivial⟩
  · unfold NearestOf; decide
  · unfold NoneNear; decide

theorem witness_ChecksResolveByTheirAnswers :
    (checked .idle .awaiting none).Accepts (sense 5 8) ∧ (checked .idle .awaiting none).running = true ∧
      (checked .idle .awaiting none).report.phase = .awaiting ∧
      (checked .idle .awaiting none).report.checkId = some 6 ∧ (5 : Pos) ∈ [(4 : Pos), 5] ∧ (6 : Pos) ∉ [(4 : Pos), 5] ∧
      (checked .idle .awaiting none).report.checkTimer.isSome ∧
      (checked .idle .awaiting none).report.outstanding = some 3 ∧
      (checked .idle .awaiting none).table.fifo.length < 8 := by
  unfold State.Accepts; decide

/-- R102, R104: the last awaited answer resolves the check: DARK_RUG at 8 overrules, and at 7 it does not. -/
theorem test_check_resolves :
    let s := (checked .idle .awaiting none)
    let s := s.setReport { s.report with awaited := [5] }
    after (.checkAnswer (sense 5 8) { dest := 2, id := 6, answer := .darkRug, conf := 8 }) s
        (fun t => t.table.work = .serving (.outcome .overrule 3)) = true ∧
      after (.checkAnswer (sense 5 8) { dest := 2, id := 6, answer := .darkRug, conf := 7 }) s
        (fun t => t.table.work = .serving (.outcome .confirm 3)) = true ∧
      after (.checkAnswer (sense 5 8) { dest := 2, id := 5, answer := .cliff, conf := 7 }) s
        (fun t => t.link.counts.lateAnswer = 1) = true := by decide

/-- A check awaits one answer, and eight items wait, one of them perhaps a non-CLIFF observation. -/
def crowded (x : Item) : State :=
  let s := checked (.aging 1) .awaiting (some 9)
  (s.setTable { s.table with fifo := List.replicate 7 (.lookup 4 1 0 0 none) ++ [x] }).setReport
    { s.report with awaited := [5] }

theorem witness_ChecksResolveByTheirAnswers_full :
    (crowded (ownItem .cliff 0 0)).Accepts (sense 5 8) ∧ 8 ≤ (crowded (ownItem .cliff 0 0)).table.fifo.length ∧
      (∀ x ∈ (crowded (ownItem .cliff 0 0)).table.fifo, x.nonCliff = false) ∧
      (∃ x ∈ (crowded (.floorClear 0 0 none)).table.fifo, x.nonCliff = true) := by
  unfold State.Accepts; decide

/-- R53, R105: at a full FIFO the outcome takes a non-CLIFF observation's place; with none the check ends there. -/
theorem test_outcome_at_full_fifo :
    after .checkTimeout (crowded (.floorClear 0 0 none))
        (fun t => t.report.phase = .resolved ∧ t.table.fifo.getLast? = some (.outcome .confirm 3) ∧
          t.link.counts.tableDiscard = 1) = true ∧
      after .checkTimeout (crowded (ownItem .cliff 0 0))
        (fun t => t.report.phase = .idle ∧ t.report.deferred = none ∧ !t.flags.checking ∧
          t.link.counts.tableDiscard = 1) = true := by decide

theorem witness_ReportsAndRequestsEnterTheFifo :
    run.Accepts (sense 4 9) ∧ run.running = true ∧ (sense 4 9).role = .sense ∧
      (Payload.hazard { action := .add, kind := .cliff, id := 1, x := 0, y := 0, conf := 1, tag := none }).wf = true ∧
      (busy (.aging 1)).table.work ≠ .idle ∧ (at' .awaitSetup none).Accepts (sense 4 9) ∧
      (at' .awaitSetup none).running = false ∧ run.Accepts (controller 9) ∧ (controller 9).role = .controller := by
  unfold State.Accepts; decide

/-- R53: at a FIFO of eight items a report is counted, and a request is answered NONE. -/
theorem test_full_fifo :
    let s := busy (.aging 1)
    let s := s.setTable { s.table with fifo := List.replicate 8 (.floorClear 0 0 none) }
    after (.hazardReport (sense 4 9)
        { action := .add, kind := .cliff, id := 1, x := 0, y := 0, conf := 1, tag := none }) s
        (fun t => t.link.counts.tableDiscard = 1 ∧ t.table.fifo.length = 8) = true ∧
      after (.checkRequest (sense 4 9) { id := 3, x := 0, y := 0, tag := none }) s
        (fun t => t.link.queue.map TxEntry.payload =
          [.checkAnswer { dest := 4, id := 3, answer := .none, conf := 0 }]) = true := by decide

/-- R100: with a check under way a new CLIFF is deferred, and with a candidate waiting too its check is forced. -/
theorem test_cliff_deferred_and_forced :
    after .serveOwnCliff (checked (.serving (ownItem .cliff 500 0)) .awaiting none)
        (fun t => t.hasMark 1 .deferred ∧ t.report.deferred = some 1) = true ∧
      after .serveOwnCliff (checked (.serving (ownItem .cliff 500 0)) .awaiting (some 9))
        (fun t => (t.at 1).map (fun r => (r.conf, r.check)) = some (8, some .none) ∧
          t.link.counts.checkForced = 1) = true := by decide

def frameOf (h : Head) (p : Payload) : Frame := { head := h, payload := p }
def bootFrame (src : Pos) (seq : Seq) : Frame :=
  frameOf (wheel src seq)
    (.boot { code := .c2, cause := .none, usable := 24, floorEmitter := .ok, wallEmitter := .ok })

/-- RUN with the peer entry of a position in a state. -/
def peered (p : Pos) (e : PeerEntry) : State :=
  { busy .idle with peers := (busy .idle).peers.setEntry p e }
def alive (r : HeadRole) (seq : Seq) : PeerEntry :=
  { state := .alive, role := some r, lastSeq := some seq, silence := some 250000, expected := true }

theorem witness_AcceptedFramesUpdateTheirPeer :
    run.Takes (frameOf (sense 4 9) (.verdict lastVerdict)) ∧ (busy .idle).Takes (bootFrame 3 9) ∧
      run.link.onLine = none ∧ (busy .idle).running = true ∧ (busy .idle).odo.source = some 3 ∧
      (bootFrame 3 9).payload.isBoot = true ∧ (bootFrame 3 9).head.role = .wheel ∧
      (busy .idle).Takes (frameOf (sense 3 9) (.health Counts.zero)) ∧ run.odo.source = none ∧
      run.Takes (frameOf (wheel 3 9) (.verdict lastVerdict)) ∧ (at' .awaitSetup none).running = false ∧
      (at' .awaitSetup none).Takes (bootFrame 3 9) ∧ { run with peers := PeerMonitor.reset }.peers.missingTimer = none := by
  unfold State.Takes; decide

theorem witness_RoleClashes :
    (peered 1 (alive .sense 3)).Takes (frameOf (wheel 1 4) (.mode 0)) ∧
      (peered 1 (alive .sense 3)).RoleClashes (frameOf (wheel 1 4) (.mode 0)) ∧
      ¬ (peered 1 (alive .sense 3)).RoleClashes (frameOf (sense 1 4) (.mode 0)) := by
  refine ⟨by unfold State.Takes; decide, .inl ⟨.sense, rfl, by decide, rfl⟩, ?_⟩
  rintro (⟨r, h, hne, -⟩ | ⟨h, -⟩ | ⟨h, -⟩)
  · have e : some HeadRole.sense = some r := h
    cases e; exact hne rfl
  · cases h
  · cases h

theorem witness_AcceptedFramesUpdateTheirPeer_source :
    (busy .idle).Takes (frameOf (controller 9) (.rejoin 3)) ∧ (3 : Pos) ≠ (busy .idle).startup.pos ∧
      (busy .idle).Takes (frameOf (wheel 3 9) (.mode 0)) ∧ (busy .idle).Takes (frameOf (sense 3 9) (.mode 0)) ∧
      sourceless.Takes (frameOf (wheel 3 9) (.mode 0)) ∧ (busy .idle).Takes (frameOf (wheel 4 9) (.mode 0)) := by
  unfold State.Takes; decide

/-- R42: a frame of another kind and role from the source gives it up; from a station that is not the source it does
nothing to it. -/
theorem test_source_changes_role :
    let request : CheckRequestData := { id := 3, x := 0, y := 0, tag := none }
    after (.checkRequest (sense 3 9) request) (busy .idle)
        (fun t => t.odo.state = .lost ∧ t.odo.source = none ∧ t.odo.tag = none) = true ∧
      after (.checkRequest (sense 4 9) request) (busy .idle) (fun t => t.odo = odo) = true ∧
      after (.checkRequest (wheel 3 9) request) (busy .idle) (fun t => t.odo = odo) = true := by decide

/-- R152, R175: the last seq again is a duplicate, but not in a boot status frame. -/
theorem test_duplicate :
    after (.verdict (sense 4 9) lastVerdict) (peered 4 (alive .sense 9)) (fun t => t.link.counts.duplicate = 1) = true ∧
      after (.bootStatus (wheel 4 9) { code := .c2, cause := .none, usable := 24, floorEmitter := .ok, wallEmitter := .ok })
        (peered 4 (alive .wheel 9)) (fun t => t.link.counts.duplicate = 0 ∧ t.link.rx.length = 1) = true := by decide

/-- R42: a boot status frame from the odometry source makes the Odometry Unit LOST, the source kept. -/
theorem test_source_boots :
    after (.bootStatus (wheel 3 9) { code := .c2, cause := .none, usable := 24, floorEmitter := .ok, wallEmitter := .ok })
      (busy .idle) (fun t => t.odo.state = .lost ∧ t.odo.source = some 3 ∧ t.odo.ring = []) = true := by decide

/-- RUN with `n` frames in the receive buffers. -/
def buffered (n : Nat) : State :=
  run.setLink { run.link with
    rx := (List.range n).map fun i => frameOf (sense 4 (BitVec.ofNat 8 (9 + i))) (.mode 0)
    handling := some { timer := 0, wait := .no } }

theorem witness_FramesAreBufferedInOrder :
    (frameOf (sense 4 9) (.mode 0)).payload.wf = true ∧ (at' .strap none).receiving = false ∧
      run.receiving = true ∧ 2 ≤ (buffered 2).link.rx.length ∧ (buffered 1).link.rx.length = 1 ∧ run.link.rx = [] ∧
      (peered 4 (alive .sense 9)).isRepeat (frameOf (sense 4 9) (.mode 0)) = true ∧
      run.isRepeat (frameOf (sense 2 9) (.mode 0)) = false ∧ (sense 2 9).src = run.startup.pos ∧
      run.onLink = true ∧ run.link.onLine = none ∧
      (buffered 2).link.handling = some { timer := 0, wait := .no } ∧
      (buffered 2).link.rx = [frameOf (sense 4 9) (.mode 0), frameOf (sense 4 10) (.mode 0)] ∧
      (buffered 2).isRepeat (frameOf (sense 4 10) (.mode 0)) = false := by decide

/-- R153, R174: the own position raises POS_CLASH; a third frame is an overrun. -/
theorem test_buffers :
    after (.verdict (sense 2 9) lastVerdict) run
        (fun t => t.flags.posClash ∧ t.peers.posHold = some 1000000) = true ∧
      after (.verdict (sense 5 9) lastVerdict) (buffered 2)
        (fun t => t.link.counts.overrun = 1 ∧ t.link.rx.length = 2) = true ∧
      after .frameHandlingEnd (buffered 2)
        (fun t => t.link.rx = [frameOf (sense 4 10) (.mode 0)] ∧ t.peers.entries[4].lastSeq = some 10) = true := by decide

theorem witness_PeersFallSilentAndLost :
    (peered 3 (alive .wheel 9)).receiving = true ∧ (peered 3 (alive .wheel 9)).peers.entries[3].silence.isSome ∧
      (peered 3 (alive .wheel 9)).peers.entries[3].state = .alive ∧
      (peered 3 { alive .wheel 9 with state := .silent }).peers.entries[3].state = .silent ∧
      (peered 3 { alive .wheel 9 with state := .silent }).odo.source = some 3 ∧
      (checked .idle .awaiting none).report.phase = .awaiting ∧ (4 : Pos) ∈ (checked .idle .awaiting none).report.awaited ∧
      (checked .idle .awaiting none).report.awaited.filter (· ≠ 4) ≠ [] := by decide

/-- R42, R103: LOST gives up the source; a LOST awaited peer leaves the awaited set, and an empty set resolves. -/
theorem test_peer_lost :
    after (.peerLost 3) (peered 3 { alive .wheel 9 with state := .silent })
        (fun t => t.odo.state = .lost ∧ t.odo.source = none ∧ t.peers.entries[3].state = .lost) = true ∧
      (let s := checked .idle .awaiting none
       let s := { s with peers := s.peers.setEntry 4 { alive .sense 9 with state := .silent } }
       after (.peerLost 4) s (fun t => t.report.awaited = [5] ∧ t.report.phase = .awaiting) = true ∧
         after (.peerLost 4) (s.setReport { s.report with awaited := [4] })
           (fun t => t.report.phase = .resolved ∧ t.table.work = .serving (.outcome .confirm 3)) = true) := by decide

theorem witness_LineEventsAreFollowed :
    run.onLink = true ∧ run.link.onLine = none ∧ 12 < (13#4).toNat ∧ run.receiving = true ∧
      checkFrame [0x98, 0xC8, 0x01, 0, 0, 0] = .crcError ∧
      checkFrame ([0x98, 0xC8, 0x41, 0] ++ halfBytes (crc16 [0x98, 0xC8, 0x41, 0])) = .malformed ∧
      (at' .selfTest (some .s6)).receiving = false ∧ (at' .selfTest (some .s6)).onLink = true ∧
      run.link.line = .idle 0 ∧ (run.setLink { run.link with yield := true, line := .idle 76 }).yieldOver = true ∧
      (run.setLink { run.link with yield := true, line := .idle 75 }).yieldOver = false := by decide +kernel

/-- R161: twelve idle bit times make a 0 bit a start bit, and eleven make it noise. -/
theorem test_start_bit :
    after (.startBit 12) run (fun t => t.link.line = .busy) = true ∧
      after (.startBit 11) run (fun t => t.link.line = .low) = true ∧
      after (.startBit 13) (run.setLink { run.link with line := .low }) (fun t => t.link.line = .busy) = true ∧
      after (.startBit 12) (run.setLink { run.link with line := .low }) (fun t => t.link.line = .low) = true ∧
      after .routineYieldExpiry (run.setLink { run.link with yield := true }) (fun t => t.link.yield = false) = true := by
  decide

/-- RUN with an urgent frame at the head, and a routine one behind it. -/
def queued : State := run.setLink { run.link with
  queue := [entry (.checkAnswer { dest := 1, id := 0, answer := .none, conf := 0 }) true 0,
            entry (.health Counts.zero) false 1] }

theorem witness_AttemptsStartWithTheHead :
    queued.onLink = true ∧ queued.link.onLine = none ∧ queued.link.line ≠ .busy ∧
      queued.link.queue = entry (.checkAnswer { dest := 1, id := 0, answer := .none, conf := 0 }) true 0 ::
        [entry (.health Counts.zero) false 1] ∧
      (entry (.health Counts.zero) false 1).urgent = false ∧ queued.link.yield = false := by decide

/-- R163, R179: position 2's urgent frame falls due after 20 bit times of idle line, and its routine frame after 52; the
wait is not shorter than the time since the queue started anew. -/
theorem test_access_delay :
    [(LineState.idle 20, 20), (.idle 19, 20), (.idle 20, 19), (.low, 20)].map (fun l =>
        (queued.setLink { queued.link with line := l.1, access := l.2 }).accessReached) = [true, false, false, false] ∧
      [51, 52].map (fun n => (queued.setLink { queued.link with
        queue := queued.link.queue.drop 1, line := .idle n, access := n }).accessReached) = [false, true] := by decide

/-- R166: the attempt takes seq 0, and the counter rises; R161: a check answer is 9 bytes, 90 bit times. -/
theorem test_attempt_start :
    after .txAttemptStart queued (fun t => t.link.seq = 1 ∧ t.link.txTimer = some 90 ∧
      (t.link.onLine.bind fun o => o.entry.seq) = some 0 ∧ t.link.queue.length = 1) = true := by decide

theorem witness_StoppedAttemptsReturnOrEnd :
    (∃ o, (sending (.health Counts.zero) false 0).link.onLine = some o ∧ o.retry = true ∧ o.entry.attempts + 1 < 2) ∧
      (sending (.health Counts.zero) false 0).link.QueueOk ∧
      (sending (.health Counts.zero) false 0).link.queue.length < 6 ∧
      (∃ o, (sending (.verdict lastVerdict) true 3).link.onLine = some o ∧ 4 ≤ o.entry.attempts + 1) := by
  refine ⟨⟨_, rfl, rfl, by decide⟩, ?_, by decide, ⟨_, rfl, by decide⟩⟩
  unfold Link.QueueOk; decide

/-- R168: a routine frame ends at its second stopped attempt, an urgent one at its fourth, with its seq kept before. -/
theorem test_attempt_limits :
    after .txMismatch (sending (.health Counts.zero) false 0)
        (fun t => t.link.queue.map (fun e => (e.attempts, e.seq)) = [(1, some 7)] ∧ t.link.counts.txFail = 0) = true ∧
      after .txMismatch (sending (.health Counts.zero) false 1)
        (fun t => t.link.queue = [] ∧ t.link.counts.txFail = 1) = true ∧
      after .txMismatch (sending (.verdict lastVerdict) true 2) (fun t => t.link.queue.length = 1) = true ∧
      after .txMismatch (sending (.verdict lastVerdict) true 3) (fun t => t.link.counts.txFail = 1) = true := by decide

/-- The urgent and the routine frame on the line, over a queue of six. -/
def returning (urgent : Bool) (q : List TxEntry) : State :=
  let s := sending (.checkAnswer { dest := 1, id := 1, answer := .none, conf := 0 }) urgent 0
  s.setLink { s.link with queue := q }

theorem witness_StoppedAttemptsReturnOrEnd_full :
    (returning true (answers 6)).link.QueueOk ∧ (returning false (answers 6)).link.QueueOk ∧
      (returning true (answers 5 ++ [entry (.health Counts.zero) false 9])).link.QueueOk ∧
      6 ≤ (answers 5 ++ [entry (.health Counts.zero) false 9]).length ∧
      (∀ e ∈ answers 5, e ≠ entry (.health Counts.zero) false 9) := by
  unfold Link.QueueOk; decide

/-- R168, R172: to a full queue a routine frame does not return, nor an urgent one over urgent frames; over a routine
frame an urgent one returns, and the routine frame is lost. -/
theorem test_return_to_full_queue :
    after .txMismatch (returning false (answers 6)) (fun t => t.link.queue = answers 6 ∧ t.link.counts.txFail = 1) = true ∧
      after .txMismatch (returning true (answers 6)) (fun t => t.link.queue = answers 6 ∧ t.link.counts.txFail = 1) = true ∧
      after .txMismatch (returning true (answers 5 ++ [entry (.health Counts.zero) false 9]))
        (fun t => t.link.queue.map (·.urgent) = List.replicate 6 true ∧ t.link.counts.txFail = 1) = true := by decide

/-- The loopback frame of self-test step 5 on the line. -/
def loopback (attempts : Nat) : State :=
  (at' .selfTest (some .s5)).setLink (sending
    (.boot { code := .c5, cause := .none, usable := 24, floorEmitter := .untested, wallEmitter := .untested })
    false attempts).link

theorem witness_loopback :
    (loopback 0).inStep .s5 = true ∧ (loopback 0).link.queue.length < 6 ∧
      ((loopback 3).link.queue.filter fun e => e.payload.isBoot).length < 6 ∧
      after .txComplete (loopback 0) (fun t => t.inStep .s4) = true ∧
      after .txMismatch (loopback 2) (fun t => t.inStep .s5) = true ∧
      after .txMismatch (loopback 3) (fun t => t.startup.node = .fault ∧ t.startup.cause = .link) = true := by decide

theorem witness_CleanCompletionsEndTheFrame :
    (∃ o, (sending (.health Counts.zero) false 0).link.onLine = some o ∧ o.entry.payload.isBoot = false ∧
      o.entry.payload.isOdometry = false) := ⟨_, rfl, rfl, rfl⟩

/-- R32: the errors a completed odometry frame carried are taken off, and its own WHEEL node applies it. -/
theorem test_own_odometry :
    let s := wheelRun.setLink (sending (.odometry { left := 5, right := 6, interval := 10, errors := 2 }) true 0).link
    after .txComplete { s with enc := { s.enc with errors := 3 } }
      (fun t => t.enc.errors = 1 ∧ t.odo.baseline = some (5, 6) ∧ t.odo.tag = some 7) = true := by decide

theorem witness_HealthReportsTakeTheCounts :
    run.running = true ∧ run.link.healthTimer.isSome ∧ run.link.queue.length < 6 ∧ 6 ≤ (answers 6).length ∧
      after .healthTimerExpiry (run.setLink { run.link with queue := answers 6, counts := Counts.zero.inc .overrun })
        (fun t => t.link.counts.txFail = 1 ∧ t.link.counts.overrun = 1) = true := by decide

theorem witness_VerdictTimerRecomputes :
    run.running = true ∧ run.clear.verdictTimer.isSome ∧ run.clear.last = some lastVerdict ∧ run.StopHeld ∧
      run.link.queue.length < 6 ∧ (∀ e ∈ run.link.queue, e.payload.isVerdict = false) ∧
      run.clear.verdictTimer = some 0 ∧ (run.setClear { run.clear with verdictTimer := some 7 }).clear.verdictTimer ≠ some 0 := by
  unfold State.StopHeld; decide

/-- R132: with the timer at 0 a verdict goes out though nothing changed, be the recompute another event's; with the timer
started anew none does. -/
theorem test_verdict_timer :
    let s := { run with odo := { run.odo with state := .tracking }, wall := { run.wall with result := .clear } }
    let s := s.reclear
    let s := s.setClear { s.clear with last := some s.verdictNow }
    after .verdictTimerExpiry s (fun t => t.link.queue.length = 1 ∧ t.clear.verdictTimer = some 100000) = true ∧
      after .verdictTimerExpiry (s.setClear { s.clear with verdictTimer := some 7 })
        (fun t => t.link.queue = [] ∧ t.clear.verdictTimer = some 7) = true ∧
      after (.stopLineChange true) s (fun t => t.link.queue.length = 1) = true := by decide

/-- R116, R117, R120: a CONFIRMED obstacle counts, but not in DOCK mode within 150 mm of a CONFIRMED dock, and no dock
counts there; the gap of a CLIFF is near at 100 mm and not at 101 mm. -/
theorem test_eligibility :
    let dock := rec 1 (.dock { left := false, right := false, halo := true }) 400 0 9 (some .beacon) []
    let near := rec 2 .obstacle 500 150 8 (some .bump) []
    let far := rec 3 .obstacle 600 151 8 (some .bump) []
    clearAhead setup .dock [dock, near, far] = 420 ∧ clearAhead setup .clean [dock, near, far] = 220 ∧
      clearAhead setup .dock [near] = 320 ∧
      clearAhead setup .clean [{ near with conf := 7 }] = 2047 ∧
      Machine.cliffNear setup [rec 4 .cliff 280 0 1 (some .floor) []] = true ∧
      Machine.cliffNear setup [rec 4 .cliff 281 0 1 (some .floor) []] = false := by decide

/-- RUN with the driver asserted by a condition that has ended, its minimum hold over, as the last verdict shows. -/
def holding : State :=
  { run with clear := { run.clear with
      driver := true, hold := some 0, last := some { lastVerdict with flags := { noFlags with stopOwn := true } } } }

theorem witness_StopLineAndHoldAreFollowed :
    holding.running = true ∧ holding.clear.hold.isSome ∧ holding.clear.ownStop = false ∧
      holding.clear.driver = true ∧ (holding.clear.last.map fun l => l.flags.stopOwn) = some true ∧
      true ≠ run.clear.line.accepted ∧ (run.clear.last.map fun l => l.flags.stopLine) = some false ∧
      after .stopHoldExpiry holding (fun t => t.clear.driver = false ∧ t.link.queue.map (·.urgent) = [true]) = true ∧
      after (.stopLineChange true) run (fun t => t.flags.stopLine ∧ t.pins.stopLine = .low) = true := by decide

/-- RUN with the Beacon Decoder in a decode state, at a width of 0. -/
def decoding (d : Decode) (mark : Bool) (code : List Bool) : State :=
  run.setBeacon { Beacon.reset with mark := mark, decode := d, code := code }

/-- 07 R139 to R142: the edges of each window. -/
theorem test_beacon_windows :
    ([47, 48, 72, 73].map fun w => after (.beaconEdge false w) (decoding .startMark true [])
        fun t => t.beacon.decode = .startSpace) = [false, true, true, false] ∧
      ([5, 6, 18, 19].map fun w => after (.beaconEdge true w) (decoding .startSpace false [])
        fun t => t.beacon.decode = .bitMark 0) = [false, true, true, false] ∧
      ([5, 6, 18, 19].map fun w => after (.beaconEdge true w) (decoding (.bitSpace 2) false [])
        fun t => t.beacon.decode = .bitMark 3) = [false, true, true, false] ∧
      ([11, 12, 28, 29, 31, 32, 48, 49].map fun w => after (.beaconEdge false w) (decoding (.bitMark 0) true [])
        fun t => t.beacon.decode = .bitSpace 0) = [false, true, true, false, false, true, true, false] := by decide

/-- 07 R142, worked example: a space of 20 ticks aborts, and its edge into MARK opens START. -/
theorem test_beacon_abort :
    after (.beaconEdge true 20) (decoding (.bitSpace 2) false [false, true, false])
      (fun t => t.beacon.decode = .startMark ∧ t.link.counts.beaconAbort = 1) = true := by decide

theorem witness_BeaconCodesAreDecoded :
    run.running = true ∧ true ≠ run.beacon.mark ∧ run.beacon.decode = .idle ∧
      (decoding .startSpace false []).running = true ∧ (decoding .startSpace false []).beacon.decode = .startSpace ∧
      (decoding (.bitSpace 7) false []).beacon.decode = .bitSpace 7 ∧
      (run.setBeacon { Beacon.reset with window := some 0 }).beacon.window.isSome ∧
      ([false, true, false, true, false, false, false] ++ [true] : List Bool) =
        [false, true, false, true, false, false, false, true] := by decide

/-! ### Report events -/

/-- A table in which slots 5 and 3 have been reported. -/
def reported (i : Item) (age : Nat) : State :=
  let s := serving i
  (s.setRecords (records.map fun r => if r.slot = 5 ∨ r.slot = 3 then { r with reported := true, conf := 8 } else r)).setReport
    { s.report with ages := s.report.ages.set 5 age }

theorem reported_tableOk (i : Item) (age : Nat) (h : i.ConfOk) : (reported i age).TableOk := by
  refine ⟨⟨by simp [reported, State.setRecords, State.setTable, State.setReport, serving, busy, run, TableManager.reset],
    by simp [reported, State.setRecords, State.setTable, State.setReport, serving, busy, run, TableManager.reset], h⟩,
    ?_, ?_, ?_, ?_, ?_⟩
  · show ((reported (.floorClear 0 0 none) 0).table.records.map Record.slot).Nodup ∧
      ∀ q ∈ (reported (.floorClear 0 0 none) 0).table.records, (0xFFFFFF#24).getLsbD q.slot = true
    decide
  · show (reported (.floorClear 0 0 none) 0).table.records.Pairwise Record.before; decide
  · show ∀ q ∈ (reported (.floorClear 0 0 none) 0).table.records, q.FieldsOk
    unfold Record.FieldsOk Record.InRange; decide
  · show ((reported (.floorClear 0 0 none) 0).table.records.flatMap Record.keys).Nodup; decide
  · intro h; cases h

theorem witness_ReportEventsAreMade :
    (reported (.own .obstacle .wall 260 80 (some 22)) 20).running = true ∧
      (Item.own .obstacle .wall 260 80 (some 22)).isLookup = false ∧
      (reported (.own .obstacle .wall 260 80 (some 22)) 20).TableOk ∧
      (Item.floorClear 310 (-65) (some 22)).serveCommand = .serveFloorEvidence ∧
      (∃ j, freeIn (reported (.floorClear 310 (-65) (some 22)) 20).table.good
        (reported (.floorClear 310 (-65) (some 22)) 20).table.records j = true) ∧
      NearestOf (reported (.own .obstacle .wall 260 80 (some 22)) 20).table.records
        (fun q => q.kind.sameKind .obstacle) 260 80 40
        { rec 5 .obstacle 260 120 8 (some .wall) [] with reported := true } := by
  refine ⟨rfl, rfl, reported_tableOk _ _ trivial, rfl, ⟨1, by decide⟩, ?_⟩
  unfold NearestOf; decide

/-- R66, R93, R96: a merge that CONFIRMS an own record earns an ADD; clearing earns a WITHDRAW, urgent for a CLIFF; a
merge re-sends at a report age of 20 and not at 19. -/
theorem test_report_events :
    let frames := fun (t : State) => t.link.queue.filterMap fun e =>
      match e.payload with
      | .hazard d => some (d.action, d.id, e.urgent)
      | _ => none
    after .serveOwnObservation (serving (.own .obstacle .wall 260 80 (some 22)))
        (fun t => frames t = [(.add, 5, false)]) = true ∧
      after .serveFloorEvidence (reported (.floorClear 310 (-65) (some 22)) 0)
        (fun t => frames t = [(.withdraw, 3, true)]) = true ∧
      after .serveOwnObservation (reported (.own .obstacle .wall 260 80 (some 22)) 20)
        (fun t => frames t = [(.add, 5, false)]) = true ∧
      after .serveOwnObservation (reported (.own .obstacle .wall 260 80 (some 22)) 19)
        (fun t => frames t = []) = true := by decide

end Sys2Proof.Tests
end

section
/-! PROOFS. What the reception of an accepted frame does (R173 to R175), and the odometry of a station that is not the
source (R35). -/

namespace Sys2Proof.Machine

open Sys2Proof

/-! ### An accepted frame on its way to its block -/

@[simp] theorem State.lineFree_link_rx (s : State) : s.lineFree.link.rx = s.link.rx := by
  unfold State.lineFree; split <;> rfl

@[simp] theorem State.lineFree_receiving (s : State) : s.lineFree.receiving = s.receiving := by
  simp [State.receiving]

@[simp] theorem State.judgeMissing_running (s : State) : s.judgeMissing.running = s.running := by
  simp [State.running]

@[simp] theorem State.peerHeard_running (s : State) (h : Head) (b : Bool) : (s.peerHeard h b).running = s.running :=
  rfl

@[simp] theorem State.peerAccept_running (s : State) (h : Head) (b : Bool) :
    (s.peerAccept h b).running = s.running := by
  rw [State.peerAccept, State.handing_running, State.judgeMissing_running, State.handing_running,
    State.peerHeard_running]

/-- The state in which an accepted frame comes to the Peer Monitor: the line is free, the frame has the first receive
buffer, and its handling has begun (R173, R174). -/
def State.beginHandling (s : State) (f : Frame) : State :=
  s.lineFree.setLink (s.lineFree.link.handle [f])

/-- Handing a frame on changes the Link Controller only. -/
theorem State.beginHandling_unchanged (s : State) (f : Frame) : UnchangedBut [.link] s (s.beginHandling f) := by
  intro b hb
  cases b <;> simp_all [Block.same, State.beginHandling]

/-- The reception of a frame that is accepted at its completion: the checks of R173, R174 and R175 pass, and the frame
goes through the blocks. -/
theorem State.receiveFrame_of_accepts (s : State) (f : Frame) (ha : s.Accepts f.head) (hwf : f.payload.wf = true)
    (hboot : f.payload.isBoot = false) : s.receiveFrame f = (s.beginHandling f).acceptFrame f := by
  obtain ⟨hrecv, hrx, hsrc, hseq⟩ := ha
  have hbuffer : s.lineFree.bufferFrame f = s.lineFree.handOn [f] := by
    simp [State.bufferFrame, hrx, rxBuffers]
  have hnew : s.lineFree.isDuplicate f = false := by simpa [State.isDuplicate] using hseq
  have hhand : s.lineFree.handOn [f] = (s.beginHandling f).handFrame f := by
    simp [State.handOn, State.beforeTest, hboot, hnew, State.beginHandling]
  have hother : f.head.src ≠ (s.beginHandling f).startup.pos := by simpa [State.beginHandling] using hsrc
  calc s.receiveFrame f
      = s.lineFree.bufferFrame f := by simp [State.receiveFrame, hrecv, hwf]
    _ = (s.beginHandling f).handFrame f := hbuffer.trans hhand
    _ = (s.beginHandling f).acceptFrame f := if_neg hother

/-! ### The odometry of a station that is not the source -/

/-- The hold of ROLE_CLASH at the Odometry Unit starts, or starts again (R35). -/
def State.startClashHold (s : State) : State := s.setOdo { s.odo with clashHold := some clashHoldTime }

/-- With a source at another position the Odometry Unit takes no notice of a frame (R34, R42). -/
theorem State.odoNotice_of_other_source (s : State) (h : Head) (b : Bool) (p : Pos) (hs : s.odo.source = some p)
    (hp : p ≠ h.src) : s.odoNotice h b = s := by
  simp [State.odoNotice, hs, hp]

/-- Odometry of a station that is not the source starts the hold of ROLE_CLASH, and no more (R35). -/
theorem State.odometryBlock_of_other_source (s : State) (h : Head) (d : OdometryData) (p : Pos)
    (hrun : s.running = true) (hrole : h.role = .wheel) (hs : s.odo.source = some p) (hp : p ≠ h.src) :
    s.odometryBlock h d = s.handing State.startClashHold := by
  simp [State.odometryBlock, State.takeOdometry, hrun, hrole, hs, hp]
  rfl

/-- The way of such a frame through the blocks: its peer entry, then the hold of ROLE_CLASH (R35, R151, R154). -/
theorem State.acceptFrame_of_foreign_odometry (s : State) (h : Head) (d : OdometryData) (p : Pos)
    (hrun : s.running = true) (hrole : h.role = .wheel) (hs : s.odo.source = some p) (hp : p ≠ h.src) :
    s.acceptFrame { head := h, payload := .odometry d } =
      (s.peerAccept h false).handing State.startClashHold := by
  have hheard : (s.peerAccept h false).odo.source = some p := by simpa using hs
  have hnotice : ((s.peerAccept h false).handing fun t => t.odoNotice h false) = s.peerAccept h false := by
    rw [State.handing, State.odoNotice_of_other_source _ h false p hheard hp]
    exact State.notify_same _ _ rfl
  show ((s.peerAccept h false).handing fun t => t.odoNotice h false).odometryBlock h d = _
  rw [hnotice]
  exact State.odometryBlock_of_other_source _ h d p (by simpa using hrun) hrole hheard hp

/-- The flag ROLE_CLASH is raised while either holder's hold runs (R35, R154). -/
theorem State.flags_roleClash (s : State) :
    s.flags.roleClash = (s.odo.clashHold.isSome || s.peers.roleHold.isSome) := rfl

/-- Settles O34: the frame is accepted, leaves its mark on the peer entry, and ends in the hold of ROLE_CLASH. -/
theorem foreignOdometryIsDiscarded : Obligations.ForeignOdometryIsDiscarded := by
  intro s h d p hacc hrun hrole hs hp
  let u := s.beginHandling { head := h, payload := .odometry d }
  have hu : UnchangedBut [.link] s u := s.beginHandling_unchanged _
  have hodo : u.odo = s.odo := hu .odo (by decide)
  have htable : u.table = s.table := hu .table (by decide)
  have hstartup : u.startup = s.startup := hu .startup (by decide)
  have hend : s.receiveFrame { head := h, payload := .odometry d } =
      (u.peerAccept h false).handing State.startClashHold :=
    (s.receiveFrame_of_accepts _ hacc rfl rfl).trans <|
      u.acceptFrame_of_foreign_odometry h d p (by simpa [State.running, hstartup] using hrun) hrole
        (by rw [hodo]; exact hs) hp
  refine ⟨_, congrArg Host.Outcome.next hend, ?_, ?_, ?_, State.flags_roleClash, ?_⟩
  · simp [State.startClashHold, hodo, clashHoldTime, ms]
  · simp [State.startClashHold, htable]
  · simp [State.flags_roleClash, State.startClashHold]
  · intro b hb
    have hkept : b ∉ [Block.link] → b.same s u := hu b
    cases b <;> simp_all [Block.same, State.startClashHold]

end Sys2Proof.Machine
end

section
/-! PROOFS. The nearest record to a point (R56, R59, R73), the Table Manager's next work (R50), a frame that comes to a
queue with room (R170), and the service of a lookup (R73). -/

namespace Sys2Proof.Machine

open Sys2Proof

/-! ### The nearest record to a point -/

/-- Where a record stands in the order that `nearest` goes by: its distance from the point, then its slot (R56). -/
def Record.rank (x y : Int) (r : Record) : Nat ×ₗ Slot := toLex (cheb r.x r.y x y, r.slot)

theorem Record.rank_le_iff (x y : Int) (a b : Record) : a.rank x y ≤ b.rank x y ↔
    cheb a.x a.y x y < cheb b.x b.y x y ∨ (cheb a.x a.y x y = cheb b.x b.y x y ∧ a.slot ≤ b.slot) :=
  Prod.Lex.toLex_le_toLex

theorem Record.slot_eq_of_rank_eq {x y : Int} {a b : Record} (h : a.rank x y = b.rank x y) : a.slot = b.slot :=
  congrArg (fun p => (ofLex p).2) h

theorem nearer_eq (x y : Int) (a b : Record) : nearer x y a b = if b.rank x y < a.rank x y then b else a := by
  simp only [nearer, Record.rank, Prod.Lex.toLex_lt_toLex]

/-- Folding `nearer` over a list gives an element of least rank. -/
theorem foldl_nearer_least (x y : Int) (rs : List Record) (r : Record) :
    rs.foldl (nearer x y) r ∈ r :: rs ∧ ∀ q ∈ r :: rs, (rs.foldl (nearer x y) r).rank x y ≤ q.rank x y := by
  induction rs generalizing r with
  | nil => simp
  | cons a rs ih =>
    rw [List.foldl_cons, nearer_eq]
    split
    next hlt =>
      obtain ⟨hmem, hleast⟩ := ih a
      have ha := hleast a List.mem_cons_self
      exact ⟨List.mem_cons_of_mem r hmem, List.forall_mem_cons.mpr ⟨ha.trans hlt.le, hleast⟩⟩
    next hge =>
      obtain ⟨hmem, hleast⟩ := ih r
      obtain ⟨hr, hrest⟩ := List.forall_mem_cons.mp hleast
      have ha := hr.trans (not_lt.mp hge)
      exact ⟨(List.sublist_cons_self a rs).cons_cons r |>.mem hmem,
        List.forall_mem_cons.mpr ⟨hr, List.forall_mem_cons.mpr ⟨ha, hrest⟩⟩⟩

/-- `nearest` finds no record exactly when none that passes lies within the radius. -/
theorem nearest_eq_none_iff (rs : List Record) (pass : Record → Bool) (x y : Int) (radius : Nat) :
    nearest rs pass x y radius = none ↔ NoneNear rs pass x y radius := by
  have hempty : nearest rs pass x y radius = none ↔
      (rs.filter fun r => pass r && decide (cheb r.x r.y x y ≤ radius)) = [] := by
    unfold nearest
    split <;> simp [*]
  rw [hempty, List.filter_eq_nil_iff]
  simp [NoneNear]

/-- What `nearest` finds is a nearest record. -/
theorem nearestOf_of_nearest {rs : List Record} {pass : Record → Bool} {x y : Int} {radius : Nat} {r : Record}
    (h : nearest rs pass x y radius = some r) : NearestOf rs pass x y radius r := by
  unfold nearest at h
  split at h
  · cases h
  next c more hc =>
    cases h
    obtain ⟨hmem, hleast⟩ := foldl_nearer_least x y more c
    rw [← hc] at hmem hleast
    simp only [List.mem_filter, Bool.and_eq_true, decide_eq_true_eq] at hmem hleast
    obtain ⟨hin, hpass, hnear⟩ := hmem
    exact ⟨hin, hpass, hnear, fun q hq hqpass hqnear =>
      (Record.rank_le_iff ..).mp (hleast q ⟨hq, hqpass, hqnear⟩)⟩

/-- Records in slots of their own leave one nearest record at most. -/
theorem NearestOf.unique {rs : List Record} {pass : Record → Bool} {x y : Int} {radius : Nat} {a b : Record}
    (hslots : (rs.map Record.slot).Nodup) (ha : NearestOf rs pass x y radius a)
    (hb : NearestOf rs pass x y radius b) : a = b := by
  obtain ⟨hain, hapass, hanear, haleast⟩ := ha
  obtain ⟨hbin, hbpass, hbnear, hbleast⟩ := hb
  have hab : a.rank x y ≤ b.rank x y := (Record.rank_le_iff ..).mpr (haleast b hbin hbpass hbnear)
  have hba : b.rank x y ≤ a.rank x y := (Record.rank_le_iff ..).mpr (hbleast a hain hapass hanear)
  exact List.inj_on_of_nodup_map hslots hain hbin (Record.slot_eq_of_rank_eq (le_antisymm hab hba))

/-- Among records in slots of their own, `nearest` finds the nearest record and no other. -/
theorem nearest_eq_some_iff {rs : List Record} (hslots : (rs.map Record.slot).Nodup) (pass : Record → Bool)
    (x y : Int) (radius : Nat) (r : Record) : nearest rs pass x y radius = some r ↔ NearestOf rs pass x y radius r := by
  refine ⟨nearestOf_of_nearest, fun hr => ?_⟩
  cases hfound : nearest rs pass x y radius with
  | none =>
    obtain ⟨hin, hpass, hnear, -⟩ := hr
    exact absurd ((nearest_eq_none_iff ..).mp hfound r hin hpass) (Nat.not_lt.mpr hnear)
  | some q => rw [(nearestOf_of_nearest hfound).unique hslots hr]

/-! ### The Table Manager's next work -/

@[simp] theorem State.takeWork_table_records (s : State) : s.takeWork.table.records = s.table.records := by
  unfold State.takeWork; dsimp only; (repeat' split) <;> rfl

@[simp] theorem State.takeWork_table_tag (s : State) : s.takeWork.table.tag = s.table.tag := by
  unfold State.takeWork; dsimp only; (repeat' split) <;> rfl

/-- The first test of R50: a carry that is due comes before all other work. -/
theorem State.takeWork_of_carryFlag (s : State) (hc : s.table.carryFlag = true) : s.takeWork = s.startCarry := by
  simp [State.takeWork, hc]

/-- The second test of R50: the age ticks gathered come before the FIFO. -/
theorem State.takeWork_of_pendingAge (s : State) (hc : s.table.carryFlag = false) (ha : 0 < s.table.pendingAge) :
    s.takeWork = s.setTable { s.table with
      pendingAge := 0, work := .aging s.table.pendingAge, workTimer := some (serviceTime s.table.records.length) } := by
  simp [State.takeWork, hc, ha]

/-- The third test of R50: the oldest item of the FIFO is served. -/
theorem State.takeWork_of_fifo (s : State) (hc : s.table.carryFlag = false) (ha : s.table.pendingAge = 0) (i : Item)
    (rest : List Item) (hf : s.table.fifo = i :: rest) :
    s.takeWork = s.setTable { s.table with
      fifo := rest, work := .serving i, workTimer := some (serviceTime s.table.records.length) } := by
  simp [State.takeWork, hc, ha, hf]

/-- With no test of R50 met the manager is IDLE. -/
theorem State.takeWork_of_nothing (s : State) (hc : s.table.carryFlag = false) (ha : s.table.pendingAge = 0)
    (hf : s.table.fifo = []) : s.takeWork = s.setTable { s.table with work := .idle, workTimer := none } := by
  simp [State.takeWork, hc, ha, hf]

/-- The next work is taken as R50 says. -/
theorem State.takeWork_workTaken (s : State) : WorkTaken s s.takeWork := by
  refine ⟨fun hc => ?_, fun hc ha => ?_, fun hc ha i rest hf => ?_, fun hc ha hf => ?_⟩
  · rw [s.takeWork_of_carryFlag hc]
    exact ⟨rfl, rfl, rfl⟩
  · rw [s.takeWork_of_pendingAge hc ha]
    exact ⟨rfl, rfl, rfl⟩
  · rw [s.takeWork_of_fifo hc ha i rest hf]
    exact ⟨rfl, rfl, rfl⟩
  · rw [s.takeWork_of_nothing hc ha hf]
    exact ⟨rfl, rfl⟩

/-- Only the Table Manager's flag, count and FIFO before its work matter to what it takes. -/
theorem WorkTaken.of_table_eq {s u t : State} (hw : WorkTaken u t) (htable : u.table = s.table) : WorkTaken s t := by
  unfold WorkTaken at *
  rwa [htable] at hw

/-! ### A frame that comes to a queue with room -/

theorem mem_placeNew_self (q : List TxEntry) (e : TxEntry) : e ∈ placeNew q e := by
  unfold placeNew
  split <;> simp

/-- Verdicts and odometry alone take the place of a queued frame (R171). -/
theorem queuedLike_eq_none (q : List TxEntry) (p : Payload) (hv : p.isVerdict = false) (ho : p.isOdometry = false) :
    queuedLike q p = none := by
  simp [queuedLike, Payload.coalesces, hv, ho]

/-- A frame that replaces none, at a queue with room, becomes the youngest entry of its class (R170). -/
theorem State.enqueue_of_room (s : State) (p : Payload) (urgent : Bool) (hlike : queuedLike s.link.queue p = none)
    (hroom : s.link.queue.length < txQueueSize) :
    s.enqueue p urgent = s.setLink { s.link with
      queue := placeNew s.link.queue (newEntry p urgent s.link.nextOrder), nextOrder := s.link.nextOrder + 1 } := by
  have hnew : ¬ (queuedLike s.link.queue p).isSome := by simp [hlike]
  rw [State.enqueue, if_neg hnew]
  exact if_pos hroom

/-- The frame of a check answer (R113). -/
def answerFrame (dest : Pos) (id : BitVec 4) (a : Answer) (conf : Nat) : Payload :=
  .checkAnswer { dest := dest, id := id, answer := a, conf := BitVec.ofNat 4 conf }

/-- A check answer at a queue with room becomes its youngest urgent entry (R113, R170). -/
theorem State.sendAnswer_of_room (s : State) (dest : Pos) (id : BitVec 4) (a : Answer) (conf : Nat)
    (hroom : s.link.queue.length < txQueueSize) :
    s.sendAnswer dest id a conf = s.setLink { s.link with
      queue := placeNew s.link.queue (newEntry (answerFrame dest id a conf) true s.link.nextOrder)
      nextOrder := s.link.nextOrder + 1 } :=
  s.enqueue_of_room _ true (queuedLike_eq_none _ _ rfl rfl) hroom

/-- An answer sent at a queue with room waits there as urgent. -/
theorem State.sendAnswer_queued (s : State) (dest : Pos) (id : BitVec 4) (a : Answer) (conf : Nat)
    (hroom : s.link.queue.length < txQueueSize) :
    Queued (answerFrame dest id a conf) true (s.sendAnswer dest id a conf) := by
  rw [s.sendAnswer_of_room dest id a conf hroom]
  exact ⟨newEntry _ true _, mem_placeNew_self _ _, rfl, rfl, rfl, rfl, rfl⟩

/-- An answer sent at a queue with room raises no count: no frame is lost. -/
theorem State.sendAnswer_link_counts_of_room (s : State) (dest : Pos) (id : BitVec 4) (a : Answer) (conf : Nat)
    (hroom : s.link.queue.length < txQueueSize) : (s.sendAnswer dest id a conf).link.counts = s.link.counts := by
  rw [s.sendAnswer_of_room dest id a conf hroom, State.setLink_link]

/-- An answer sent at a queue with room ends no boot frame. -/
theorem State.sendAnswer_startup_of_room (s : State) (dest : Pos) (id : BitVec 4) (a : Answer) (conf : Nat)
    (hroom : s.link.queue.length < txQueueSize) : (s.sendAnswer dest id a conf).startup = s.startup := by
  rw [s.sendAnswer_of_room dest id a conf hroom, State.setLink_startup]

/-- Taking the next work hands on no frame. -/
theorem Queued.takeWork {p : Payload} {urgent : Bool} {s : State} (h : Queued p urgent s) :
    Queued p urgent s.takeWork := by
  simpa [Queued] using h

/-! ### The answer to a lookup -/

@[simp] theorem Hazard.isCliff_iff (k : Hazard) : k.isCliff = true ↔ k = .cliff := by
  cases k <;> simp [Hazard.isCliff]

@[simp] theorem Record.confirmed_iff (r : Record) : r.confirmed = true ↔ 8 ≤ r.conf := decide_eq_true_iff

/-- A CLIFF answers CLIFF (R73). -/
theorem answerFrom_cliff (r : Record) (hk : r.kind = .cliff) : answerFrom (some r) = (.cliff, r.conf) := by
  simp [answerFrom, hk]

/-- A CONFIRMED dark RUG answers DARK_RUG (R73). -/
theorem answerFrom_darkRug (r : Record) (hk : r.kind = .rug .dark) (hc : 8 ≤ r.conf) :
    answerFrom (some r) = (.darkRug, r.conf) := by
  simp [answerFrom, hk, hc]

/-- Any other record answers NONE (R73). -/
theorem answerFrom_other (r : Record) (hk : r.kind ≠ .cliff) (hrug : ¬ (r.kind = .rug .dark ∧ 8 ≤ r.conf)) :
    answerFrom (some r) = (.none, 0) := by
  simpa [answerFrom, hk] using hrug

/-- A point that cannot be reconciled answers NONE (R92). -/
theorem State.lookupResult_failed (s : State) (requester : Pos) (x y : Int) :
    s.lookupResult requester x y .failed = (.none, 0) := rfl

/-- The nearest record within 30 mm not seen by the requester alone gives the result, whatever lies behind it (R73). -/
theorem State.lookupResult_of_nearest (s : State) (requester : Pos) (x y : Int) (rc : Recon) (hrc : rc ≠ .failed)
    (hslots : s.table.SlotsOk) (r : Record)
    (hr : NearestOf s.table.records (fun r => !r.seenOnlyBy requester) (rc.point x y).1 (rc.point x y).2 30 r) :
    s.lookupResult requester x y rc = answerFrom (some r) := by
  obtain ⟨hnodup, -⟩ := hslots
  simp [State.lookupResult, hrc, lookupRadius, (nearest_eq_some_iff hnodup ..).mpr hr]

/-- With no such record the result is NONE (R73). -/
theorem State.lookupResult_of_noneNear (s : State) (requester : Pos) (x y : Int) (rc : Recon)
    (hr : NoneNear s.table.records (fun r => !r.seenOnlyBy requester) (rc.point x y).1 (rc.point x y).2 30) :
    s.lookupResult requester x y rc = (.none, 0) := by
  simp [State.lookupResult, lookupRadius, (nearest_eq_none_iff ..).mpr hr, answerFrom]

/-- At a queue with room the result of a lookup waits there as urgent (R113). -/
theorem State.answerLookup_queued (s : State) (requester : Pos) (id : BitVec 4) (x y : Int) (tag : Option Seq)
    (hroom : s.link.queue.length < txQueueSize) (a : Answer) (conf : Nat)
    (hresult : s.lookupResult requester x y (s.reconcile tag) = (a, conf)) :
    Queued (answerFrame requester id a conf) true (s.answerLookup requester id x y tag) := by
  unfold State.answerLookup
  dsimp only
  rw [hresult]
  split
  · exact State.sendAnswer_queued (s.count .staleReport) requester id a conf hroom
  · exact s.sendAnswer_queued requester id a conf hroom

/-- At a queue with room a lookup counts a point that cannot be reconciled, and nothing else (R92). -/
theorem State.answerLookup_link_counts (s : State) (requester : Pos) (id : BitVec 4) (x y : Int) (tag : Option Seq)
    (hroom : s.link.queue.length < txQueueSize) :
    (s.answerLookup requester id x y tag).link.counts =
      if s.reconcile tag = .failed then s.link.counts.inc .staleReport else s.link.counts := by
  unfold State.answerLookup
  dsimp only
  split
  · exact State.sendAnswer_link_counts_of_room (s.count .staleReport) _ _ _ _ hroom
  · exact s.sendAnswer_link_counts_of_room _ _ _ _ hroom

/-- At a queue with room a lookup's answer changes the Link Controller only. -/
theorem State.answerLookup_unchanged (s : State) (requester : Pos) (id : BitVec 4) (x y : Int) (tag : Option Seq)
    (hroom : s.link.queue.length < txQueueSize) : UnchangedBut [.link] s (s.answerLookup requester id x y tag) := by
  intro b hb
  have hstartup : (s.answerLookup requester id x y tag).startup = s.startup := by
    unfold State.answerLookup
    dsimp only
    split
    · exact State.sendAnswer_startup_of_room (s.count .staleReport) _ _ _ _ hroom
    · exact s.sendAnswer_startup_of_room _ _ _ _ hroom
  cases b <;> simp_all [Block.same]

/-- The service of a lookup in RUN: the answer is handed on and the next work is taken. -/
theorem State.serveLookup_of_serving (s : State) (requester : Pos) (id : BitVec 4) (x y : Int) (tag : Option Seq)
    (hrun : s.running = true) (hwork : s.table.work = .serving (.lookup requester id x y tag)) :
    s.serveLookup = (s.answerLookup requester id x y tag).takeWork := by
  simp [State.serveLookup, hwork, hrun]

/-- Settles O46: the answer is that of the nearest record that passes, by `nearest_eq_some_iff`; it waits in the queue,
which has room, and the next work is taken by R50. -/
theorem lookupsAreAnswered : Obligations.LookupsAreAnswered := by
  intro s dest id x y tag hrun hwork hroom hok
  obtain ⟨-, hslots, -⟩ := hok
  have hanswer (a : Answer) (c : Nat) (h : s.lookupResult dest x y (s.reconcile tag) = (a, c)) :
      Queued (answerFrame dest id a c) true (s.answerLookup dest id x y tag).takeWork :=
    (s.answerLookup_queued dest id x y tag hroom a c h).takeWork
  have hcounts := s.answerLookup_link_counts dest id x y tag hroom
  refine ⟨_, congrArg Host.Outcome.next (s.serveLookup_of_serving dest id x y tag hrun hwork),
    fun hfail => ⟨hanswer _ _ ?_, ?_⟩, fun hrc => ⟨?_, fun r hr => ?_, fun hnone => hanswer _ _ ?_⟩,
    State.takeWork_table_records _ |>.trans ?_, State.takeWork_table_tag _ |>.trans ?_, ?_, ?_⟩
  · rw [hfail, State.lookupResult_failed]
  · simp [hcounts, hfail, Counts.inc]
  · simp [hcounts, hrc]
  · have hresult := s.lookupResult_of_nearest dest x y _ hrc hslots r hr
    exact ⟨fun hk => hanswer _ _ (hresult.trans (answerFrom_cliff r hk)),
      fun hk hc => hanswer _ _ (hresult.trans (answerFrom_darkRug r hk hc)),
      fun hk hrug => hanswer _ _ (hresult.trans (answerFrom_other r hk hrug))⟩
  · exact s.lookupResult_of_noneNear dest x y _ hnone
  · rw [State.answerLookup_table]
  · rw [State.answerLookup_table]
  · exact (State.takeWork_workTaken _).of_table_eq (s.answerLookup_table dest id x y tag)
  · intro b hb
    have hkept : b ∉ [Block.link] → b.same s (s.answerLookup dest id x y tag) :=
      s.answerLookup_unchanged dest id x y tag hroom b
    cases b <;> simp_all [Block.same]

end Sys2Proof.Machine
end

section
/-! PROOFS. The record in a slot of a table that is filtered and ordered anew (R49), the entries of the queue after a
frame and after a recompute (R128, R170 to R172), and the course of a carry (R77, R78, R82, R83, R84, R86). -/

namespace Sys2Proof.Machine

open Sys2Proof

/-! ### The record in a slot -/

/-- Among records in slots of their own, a slot shows the one record that stands in it. -/
theorem recordAt_eq_some_iff {rs : List Record} (hslots : (rs.map Record.slot).Nodup) (i : Slot) (r : Record) :
    recordAt rs i = some r ↔ r ∈ rs ∧ r.slot = i := by
  refine ⟨fun h => ⟨List.mem_of_find?_eq_some h, by simpa using List.find?_some h⟩, fun ⟨hr, hi⟩ => ?_⟩
  cases hfound : recordAt rs i with
  | none => exact absurd hi (by simpa using List.find?_eq_none.mp hfound r hr)
  | some q =>
    have hq : q.slot = i := by simpa using List.find?_some hfound
    rw [List.inj_on_of_nodup_map hslots (List.mem_of_find?_eq_some hfound) hr (hq.trans hi.symm)]

/-- The order of the list does not matter to what a slot shows. -/
theorem recordAt_sortRecords {rs : List Record} (hslots : (rs.map Record.slot).Nodup) (i : Slot) :
    recordAt (sortRecords rs) i = recordAt rs i := by
  have hperm : (sortRecords rs).Perm rs := List.perm_insertionSort _ rs
  have hsorted : ((sortRecords rs).map Record.slot).Nodup := (hperm.map _).nodup_iff.mpr hslots
  ext r
  rw [recordAt_eq_some_iff hsorted, recordAt_eq_some_iff hslots, hperm.mem_iff]

/-- A list ordered anew is ordered (R49). -/
theorem sortRecords_pairwise (rs : List Record) : (sortRecords rs).Pairwise Record.before := by
  have : Std.Total Record.before := ⟨fun a b => by simp only [Record.before, Fin.le_def]; omega⟩
  have : IsTrans Record Record.before := ⟨fun a b c => by simp only [Record.before, Fin.le_def]; omega⟩
  exact List.pairwise_insertionSort _ rs

section
variable {f : Record → Option Record} (hkeep : ∀ r q, f r = some q → q.slot = r.slot)
include hkeep

/-- A change of records that leaves each in its slot, or removes it, leaves them in slots of their own. -/
theorem nodup_slots_filterMap {rs : List Record} (hslots : (rs.map Record.slot).Nodup) :
    ((rs.filterMap f).map Record.slot).Nodup := by
  refine (List.pairwise_map.mp hslots).filterMap f ?_ |> List.pairwise_map.mpr
  intro a b hab a' ha' b' hb'
  rwa [hkeep a a' ha', hkeep b b' hb']

/-- A slot shows what such a change makes of its record. -/
theorem recordAt_filterMap {rs : List Record} (hslots : (rs.map Record.slot).Nodup) (i : Slot) :
    recordAt (rs.filterMap f) i = (recordAt rs i).bind f := by
  ext q
  simp only [recordAt_eq_some_iff (nodup_slots_filterMap hkeep hslots), List.mem_filterMap, Option.bind_eq_some_iff,
    recordAt_eq_some_iff hslots]
  constructor
  · rintro ⟨⟨r, hr, hq⟩, hi⟩
    exact ⟨r, ⟨hr, (hkeep r q hq).symm.trans hi⟩, hq⟩
  · rintro ⟨r, ⟨hr, hi⟩, hq⟩
    exact ⟨⟨r, hr, hq⟩, (hkeep r q hq).trans hi⟩

end

/-! ### The entries of the queue -/

theorem mem_placeNew (q : List TxEntry) (e x : TxEntry) : x ∈ placeNew q e ↔ x = e ∨ x ∈ q := by
  unfold placeNew
  split
  · have hsplit := congrArg (x ∈ ·) (List.takeWhile_append_dropWhile (p := (·.urgent)) (l := q))
    simp only [List.mem_append, List.mem_cons, eq_iff_iff] at hsplit ⊢
    tauto
  · simp [or_comm]

/-- An entry whose content was replaced carries the new payload; any other is as it was (R171). -/
theorem mem_replaceContent {q : List TxEntry} {p : Payload} {x : TxEntry} (h : x ∈ replaceContent q p) :
    x.payload = p ∨ (x ∈ q ∧ x.payload.coalesces p = false) := by
  obtain ⟨e, he, rfl⟩ := List.mem_map.mp h
  cases hc : e.payload.coalesces p <;> simp [hc, he]

/-- Raising an entry to urgent leaves every payload as it is (R171). -/
theorem mem_raiseQueued {q : List TxEntry} {p : Payload} {x : TxEntry} (h : x ∈ raiseQueued q p) :
    x ∈ q ∨ ∃ e ∈ q, e.payload.coalesces p = true ∧ x.payload = e.payload := by
  unfold raiseQueued at h
  split at h
  next e he =>
    split at h
    · exact .inl h
    · obtain rfl | hx := (mem_placeNew ..).mp h
      · exact .inr ⟨e, List.mem_of_find?_eq_some he, by simpa using List.find?_some he, rfl⟩
      · exact .inl (List.mem_of_mem_filter hx)
  · exact .inl h

theorem mem_replaceQueued {q : List TxEntry} {p : Payload} {urgent : Bool} {x : TxEntry}
    (h : x ∈ replaceQueued q p urgent) : x.payload = p ∨ x ∈ q := by
  have hcontent {y : TxEntry} (hy : y ∈ replaceContent q p) : y.payload = p ∨ y ∈ q :=
    (mem_replaceContent hy).imp_right And.left
  unfold replaceQueued at h
  split at h
  · obtain hx | ⟨e, he, hlike, hxe⟩ := mem_raiseQueued h
    · exact hcontent hx
    · obtain hp | ⟨-, hunlike⟩ := mem_replaceContent he
      · exact .inl (hxe.trans hp)
      · simp [hlike] at hunlike
  · exact hcontent h

@[simp] theorem State.loseFrame_link_queue (s : State) (e : TxEntry) : (s.loseFrame e).link.queue = s.link.queue := by
  unfold State.loseFrame State.bootEnded
  split <;> rfl

/-- At a full queue the frame takes the place of another entry, or is lost itself (R172). -/
theorem State.mem_placeAtFull_queue {s : State} {e x : TxEntry} (h : x ∈ (s.placeAtFull e).link.queue) :
    x = e ∨ x ∈ s.link.queue := by
  unfold State.placeAtFull at h
  split at h
  · split at h
    · rw [State.loseFrame_link_queue, State.setLink_link, mem_placeNew] at h
      exact h.imp_right List.mem_of_mem_filter
    · exact .inr (by simpa using h)
  · exact .inr (by simpa using h)

/-- Handing a frame on brings nothing but that frame into the queue (R170 to R172). -/
theorem State.mem_enqueue_queue {s : State} {p : Payload} {urgent : Bool} {x : TxEntry}
    (h : x ∈ (s.enqueue p urgent).link.queue) : x.payload = p ∨ x ∈ s.link.queue := by
  unfold State.enqueue at h
  split at h
  · exact mem_replaceQueued h
  · dsimp only at h
    have hplaced {e : TxEntry} (he : x = e ∨ x ∈ s.link.queue) : x.payload = e.payload ∨ x ∈ s.link.queue :=
      he.imp_left (congrArg TxEntry.payload)
    split at h
    · exact hplaced ((mem_placeNew ..).mp h)
    · have hfull := State.mem_placeAtFull_queue h
      exact hplaced hfull

/-- A recompute hands on nothing but a verdict (R128, R130). -/
theorem State.recompute_onlyVerdictsAdded (s : State) : OnlyVerdictsAdded s s.recompute := by
  intro x hx
  unfold State.recompute at hx
  split at hx
  · cases hdue : s.reclear.verdictToSend with
    | none =>
      rw [State.judgeVerdict_none _ hdue] at hx
      exact .inr hx
    | some urgent =>
      rw [(State.judgeVerdict_some _ urgent hdue).2] at hx
      obtain hp | hold := State.mem_enqueue_queue hx
      · exact .inl (by rw [hp]; rfl)
      · exact .inr hold
  · exact .inr hx

/-! ### The clear distances after a recompute -/

@[simp] theorem Clearance.drive_ahead (c : Clearance) (met : Bool) : (c.drive met).ahead = c.ahead := by
  unfold Clearance.drive; (repeat' split) <;> rfl

@[simp] theorem Clearance.drive_behind (c : Clearance) (met : Bool) : (c.drive met).behind = c.behind := by
  unfold Clearance.drive; (repeat' split) <;> rfl

theorem State.recompute_clear_ahead (s : State) (hrun : s.running = true) :
    s.recompute.clear.ahead = clearAhead s.setup s.peers.mode s.table.records := by
  rw [s.recompute_clear hrun, Clearance.drive_ahead]

theorem State.recompute_clear_behind (s : State) (hrun : s.running = true) :
    s.recompute.clear.behind = clearBehind s.setup s.peers.mode s.table.records := by
  rw [s.recompute_clear hrun, Clearance.drive_behind]

/-! ### The course of a carry -/

/-- The path of a Move is the end of the ring from the first entry of the table tag, with no break in it (R77 row
4). -/
theorem movePath_eq_some_iff (τ : Seq) (ring path : List RingEntry) : movePath τ ring = some path ↔
    ∃ before, ring = before ++ path ∧ (∀ e ∈ before, e.fromTag ≠ τ) ∧ (∃ e ∈ path.head?, e.fromTag = τ) ∧
      ∀ e ∈ path, e.isBreak = false := by
  unfold movePath
  dsimp only
  rw [Option.ite_none_right_eq_some, Option.some.injEq]
  constructor
  · rintro ⟨⟨hne, hall⟩, rfl⟩
    refine ⟨ring.takeWhile fun e => e.fromTag ≠ τ, List.takeWhile_append_dropWhile.symm,
      fun e he => by simpa using List.mem_takeWhile_imp he, ⟨_, List.head?_eq_some_head hne, ?_⟩, by simpa using hall⟩
    simpa [ringFrom] using List.head_dropWhile_not (fun e : RingEntry => decide (e.fromTag ≠ τ)) hne
  · rintro ⟨before, rfl, hbefore, ⟨e, hhead, he⟩, hmotions⟩
    obtain ⟨rest, rfl⟩ := List.head?_eq_some_iff.mp hhead
    have hfrom : ringFrom τ (before ++ e :: rest) = e :: rest := by
      rw [ringFrom, List.dropWhile_append_of_pos (by simpa using hbefore), List.dropWhile_cons_of_neg (by simpa using he)]
    rw [hfrom]
    exact ⟨⟨List.cons_ne_nil e rest, by simpa using hmotions⟩, rfl⟩

section
variable (c : CarryInputs)

/-- Row 1 of R77. -/
theorem CarryInputs.course_of_no_tableTag (ht : c.tableTag = none) : c.course = .adopt := by
  simp [CarryInputs.course, ht]

/-- Row 2 of R77. -/
theorem CarryInputs.course_of_no_odoTag {τ : Seq} (ht : c.tableTag = some τ) (ho : c.odoTag = none) :
    c.course = .hold := by
  simp [CarryInputs.course, ht, ho]

/-- Row 3 of R77. -/
theorem CarryInputs.course_of_equal_tags {τ : Seq} (ht : c.tableTag = some τ) (ho : c.odoTag = some τ)
    (hr : c.ring ≠ []) : c.course = .current := by
  simp [CarryInputs.course, ht, ho, hr]

/-- Row 4 of R77. -/
theorem CarryInputs.course_of_path {τ o : Seq} (ht : c.tableTag = some τ) (ho : c.odoTag = some o) (hne : o ≠ τ)
    {path : List RingEntry} (hp : movePath τ c.ring = some path) : c.course = .move path := by
  simp [CarryInputs.course, ht, ho, hne.symm, hp]

/-- Row 5 of R77. -/
theorem CarryInputs.course_of_no_path {τ o : Seq} (ht : c.tableTag = some τ) (ho : c.odoTag = some o)
    (he : o = τ → c.ring = []) (hp : movePath τ c.ring = none) : c.course = .degrade := by
  have hrow : ¬ (τ = o ∧ c.ring ≠ []) := fun ⟨h, hr⟩ => hr (he h.symm)
  simp [CarryInputs.course, ht, ho, hrow, hp]

end

/-! ### What a course makes of a record -/

/-- What a course makes of one record: nothing, a move and its judgement, or a degrade (R77, R78, R82, R83). -/
def Course.onRecord : Course → Record → Option Record
  | .move path, r => (r.carry (pathSteps path)).judgeRange
  | .degrade, r => r.degrade
  | _, r => some r

/-- A carry treats each record by itself (R78). -/
theorem carryRecords_eq_filterMap (c : Course) (rs : List Record) : carryRecords c rs = rs.filterMap c.onRecord := by
  cases c with
  | move path => rfl
  | degrade => rfl
  | adopt => exact List.filterMap_some.symm
  | hold => exact List.filterMap_some.symm
  | current => exact List.filterMap_some.symm

theorem Record.slot_of_judgeRange {r q : Record} (h : r.judgeRange = some q) : q.slot = r.slot := by
  unfold Record.judgeRange at h
  (repeat' split at h) <;> cases h <;> rfl

theorem Record.slot_of_degrade {r q : Record} (h : r.degrade = some q) : q.slot = r.slot := by
  unfold Record.degrade at h
  dsimp only at h
  split at h <;> cases h
  rfl

/-- A record that a carry keeps stays in its slot. -/
theorem Course.slot_of_onRecord (c : Course) (r q : Record) (h : c.onRecord r = some q) : q.slot = r.slot := by
  cases c with
  | move path => exact (Record.slot_of_judgeRange (r := r.carry (pathSteps path)) h)
  | degrade => exact Record.slot_of_degrade h
  | adopt => cases h; rfl
  | hold => cases h; rfl
  | current => cases h; rfl

/-- A CLIFF under check, which a carry never retires (R82, R83). -/
theorem Record.cliff_checking_iff (r : Record) : (r.kind.isCliff && r.checking) = true ↔
    r.kind = .cliff ∧ (r.check = some .pending ∨ r.check = some .deferred) := by
  simp [Record.checking]

/-- The Move of one record, judged once at its final position (R78, R82). -/
theorem Course.onRecord_move (path : List RingEntry) (r : Record) : (Course.move path).onRecord r =
    let p := carryPointAll (path.flatMap RingEntry.steps) (r.x, r.y)
    if max p.1.natAbs p.2.natAbs ≤ 1500 then some { r with x := p.1, y := p.2 }
    else if r.kind = .cliff ∧ (r.check = some .pending ∨ r.check = some .deferred) then
      some { r with x := max (-2047) (min 2047 p.1), y := max (-2047) (min 2047 p.2) }
    else none := by
  simp only [← Record.cliff_checking_iff]
  rfl

/-- The Degrade of one record (R83). -/
theorem Course.onRecord_degrade (r : Record) : Course.degrade.onRecord r =
    if r.conf / 2 = 0 ∧ ¬ (r.kind = .cliff ∧ (r.check = some .pending ∨ r.check = some .deferred)) then none
    else some { r with conf := r.conf / 2 } := by
  simp only [← Record.cliff_checking_iff]
  rfl

/-! ### The end of a carry -/

/-- The state in which the carry's changes have taken effect, before the Clearance Unit is notified (R84). -/
def State.carried (s : State) (c : CarryInputs) : State :=
  (s.setTable { s.table with
    records := sortRecords (carryRecords c.course s.table.records), tag := c.tagAfter }).setLink
      { s.link with handling := s.link.handling.map Handling.carryEnds }

section
variable (s : State) (c : CarryInputs)

@[simp] theorem State.carried_table : (s.carried c).table = { s.table with
    records := sortRecords (carryRecords c.course s.table.records), tag := c.tagAfter } := rfl

@[simp] theorem State.carried_link :
    (s.carried c).link = { s.link with handling := s.link.handling.map Handling.carryEnds } := rfl

@[simp] theorem State.carried_running : (s.carried c).running = s.running := rfl

/-- CARRY_END in RUN: the changes take effect, the Clearance Unit recomputes, the next work is taken (R84, R86). -/
theorem State.carryEnd_of_carrying (hrun : s.running = true) (hwork : s.table.work = .carrying c) :
    s.carryEnd = (s.carried c).recompute.takeWork := by
  unfold State.carryEnd
  split
  next c' hc' =>
    obtain rfl : c' = c := by simpa [hwork] using hc'.symm
    rw [if_pos hrun]
    exact congrArg State.takeWork ((s.carried c').notify_always s)
  next hother => exact absurd hwork (hother c)

theorem State.carryEnd_records (hrun : s.running = true) (hwork : s.table.work = .carrying c) :
    s.carryEnd.table.records = sortRecords (carryRecords c.course s.table.records) := by
  simp [s.carryEnd_of_carrying c hrun hwork]

theorem State.carryEnd_tag (hrun : s.running = true) (hwork : s.table.work = .carrying c) :
    s.carryEnd.table.tag = c.tagAfter := by
  simp [s.carryEnd_of_carrying c hrun hwork]

/-- After CARRY_END a slot shows what the course made of its record. -/
theorem State.carryEnd_at (hrun : s.running = true) (hwork : s.table.work = .carrying c)
    (hslots : (s.table.records.map Record.slot).Nodup) (i : Slot) :
    s.carryEnd.at i = (s.at i).bind c.course.onRecord := by
  have hkeep := c.course.slot_of_onRecord
  unfold State.at
  rw [s.carryEnd_records c hrun hwork, carryRecords_eq_filterMap,
    recordAt_sortRecords (nodup_slots_filterMap hkeep hslots), recordAt_filterMap hkeep hslots]

end

/-- Only the flag, the count and the FIFO matter to the work that is taken (R50). -/
theorem WorkTaken.of_waiting_eq {s u t : State} (hw : WorkTaken u t) (hflag : u.table.carryFlag = s.table.carryFlag)
    (hage : u.table.pendingAge = s.table.pendingAge) (hfifo : u.table.fifo = s.table.fifo) : WorkTaken s t := by
  unfold WorkTaken at *
  rwa [hflag, hage, hfifo] at hw

/-- A handled frame that waits for no carry is left alone when the next work is taken (R174). -/
theorem State.takeWork_handling_of_no_wait {s : State} {g : Handling} (hg : s.link.handling = some g)
    (hwait : g.wait = .no) : s.takeWork.link.handling = some g := by
  unfold State.takeWork
  dsimp only
  (repeat' split) <;> simp [State.startCarry, Handling.carryStarts, hg, hwait]

/-- Settles O37: the course is the row of R77 that its inputs meet; `carryEnd_at` says what each slot shows
after it. The recompute and the taking of the next work leave the records alone. -/
theorem carryEndTakesItsCourse : Obligations.CarryEndTakesItsCourse := by
  intro s c hrun hwork hok
  obtain ⟨-, ⟨hslots, -⟩, -⟩ := hok
  have hend := s.carryEnd_of_carrying c hrun hwork
  have hrecords := s.carryEnd_records c hrun hwork
  have htag := s.carryEnd_tag c hrun hwork
  have hat := s.carryEnd_at c hrun hwork hslots
  have hkept (hcourse : c.course.onRecord = some) (i : Slot) : s.carryEnd.at i = s.at i := by
    rw [hat, hcourse, Option.bind_fun_some]
  refine ⟨_, rfl, fun ht => ?_, fun τ ht ho => ?_, fun τ ht ho hr => ?_,
    fun τ o before path ht ho hne hring hbefore hhead hmotions => ?_, fun τ o ht ho he hbreak => ?_,
    ?_, ?_, ?_, ?_, fun h hh hw => ?_, fun x hx => ?_, fun b hb => ?_⟩
  · have hcourse := c.course_of_no_tableTag ht
    exact ⟨by rw [htag, CarryInputs.tagAfter, hcourse], hkept (by rw [hcourse]; rfl)⟩
  · have hcourse := c.course_of_no_odoTag ht ho
    exact ⟨by rw [htag, CarryInputs.tagAfter, hcourse, ht], hkept (by rw [hcourse]; rfl)⟩
  · have hcourse := c.course_of_equal_tags ht ho hr
    exact ⟨by rw [htag, CarryInputs.tagAfter, hcourse, ht], hkept (by rw [hcourse]; rfl)⟩
  · have hpath := (movePath_eq_some_iff ..).mpr ⟨before, hring, hbefore, hhead, hmotions⟩
    have hcourse := c.course_of_path ht ho hne hpath
    refine ⟨by rw [htag, CarryInputs.tagAfter, hcourse, ho], fun i => ?_⟩
    rw [hat, hcourse]
    exact congrArg _ (funext (Course.onRecord_move path))
  · have hpath : movePath τ c.ring = none := by
      refine Option.eq_none_iff_forall_ne_some.mpr fun path hpath => ?_
      obtain ⟨before, hring, hbefore, hhead, hmotions⟩ := (movePath_eq_some_iff ..).mp hpath
      obtain ⟨e, hmem, hbrk⟩ := hbreak before path hring hbefore hhead
      simp [hmotions e hmem] at hbrk
    have hcourse := c.course_of_no_path ht ho he hpath
    refine ⟨by rw [htag, CarryInputs.tagAfter, hcourse, ho], fun i => ?_⟩
    rw [hat, hcourse]
    exact congrArg _ (funext Course.onRecord_degrade)
  · rw [TableManager.Ordered, hrecords]
    exact sortRecords_pairwise _
  · rw [hend]
    exact (State.takeWork_workTaken _).of_waiting_eq (by simp) (by simp) (by simp)
  · rw [hrecords, hend, State.takeWork_clear, State.recompute_clear_ahead _ (by simpa using hrun)]
    rfl
  · rw [hrecords, hend, State.takeWork_clear, State.recompute_clear_behind _ (by simpa using hrun)]
    rfl
  · refine ⟨{ h with wait := .no }, ?_, rfl⟩
    rw [hend]
    exact State.takeWork_handling_of_no_wait (by simp [hh, Handling.carryEnds, hw]) rfl
  · rw [hend, State.takeWork_link_queue] at hx
    exact (s.carried c).recompute_onlyVerdictsAdded x hx
  · cases b <;> simp [Block.same] at hb ⊢

end Sys2Proof.Machine
end

section
/-! PROOFS. What a step is (log 1, log 30), and what the work of the blocks in RUN comes to for the blocks that everything
acts on: every command but those that change the node state or the line is a chain of changes of a block of its own, of
counts, of frames handed on, and of recomputes. -/

namespace Sys2Proof.Machine

open Sys2Proof

/-! ### A step -/

/-- A step is a command's meaning on the state with the queue's rest, or, on an empty queue, the clock (log 1). -/
theorem step_cases {s t : State} (h : step s = .next t) :
    (∃ c rest, s.pending = c :: rest ∧ exec c (s.setPending rest) = .next t) ∨ (s.pending = [] ∧ t = s.clock) := by
  unfold step at h
  split at h
  next c rest hp => exact .inl ⟨c, rest, hp, h⟩
  next hp => exact .inr ⟨hp, (Host.Outcome.next.inj h).symm⟩

/-- The clock hands a command on, counting a free choice it makes, or lets a microsecond pass (log 1). -/
theorem State.clock_cases (s : State) :
    (∃ c rest, s.due = c :: rest ∧
      (s.clock = s.setPending [c] ∨ s.clock = (s.setChoices (s.choices + 1)).setPending [c])) ∨
    (s.due = [] ∧ s.clock = s.tick) := by
  unfold State.clock
  split
  next c rest hd => split <;> exact .inl ⟨c, rest, hd, by simp⟩
  next hd => exact .inr ⟨hd, rfl⟩

/-- What every command's meaning keeps, whatever waits in the queue and however many choices were made, and a microsecond
keeps, every step keeps. -/
theorem step_keeps {P : State → Prop} (hpending : ∀ s v, P s → P (s.setPending v))
    (hchoices : ∀ s n, P s → P (s.setChoices n)) (htick : ∀ s, P s → P s.tick)
    (hexec : ∀ c s t, P s → exec c s = .next t → P t) {s t : State} (hs : P s) (h : step s = .next t) : P t := by
  obtain ⟨c, rest, -, hc⟩ | ⟨-, rfl⟩ := step_cases h
  · exact hexec c _ _ (hpending s rest hs) hc
  · obtain ⟨c, rest, -, hc | hc⟩ | ⟨-, hc⟩ := s.clock_cases <;> rw [hc]
    · exact hpending _ _ hs
    · exact hpending _ _ (hchoices _ _ hs)
    · exact htick s hs

/-! ### The frames of one slot at a completion -/

/-- The frame of a record that the item retired (R66). -/
def State.withdrawAt (s : State) (withdrawn : List Record) (slot : Slot) : State :=
  match recordAt withdrawn slot with
  | some r => s.sendReport .withdraw r true
  | none => s

/-- The frame of the record that stands in the slot (R66, R93). -/
def State.announceAt (s before : State) (applied : Option Slot) (slot : Slot) : State :=
  match recordAt s.table.records slot with
  | none => s
  | some r =>
    match eventOf before.table.records applied r with
    | none => s
    | some a =>
      (if a = .add then s.putRecord { r with reported := true } else s).sendReport a r
        ((recordAt before.table.records slot).any fun o => o.kind.isCliff)

theorem State.eventAt_eq (before : State) (withdrawn : List Record) (applied : Option Slot) (s : State) (slot : Slot) :
    State.eventAt before withdrawn applied s slot = (s.withdrawAt withdrawn slot).announceAt before applied slot :=
  rfl

/-! ### The timer of a frame's handling -/

theorem Handling.carryStarts_timer (h : Handling) : h.carryStarts.timer = h.timer := by
  unfold Handling.carryStarts; split <;> rfl

theorem Handling.carryEnds_timer (h : Handling) : h.carryEnds.timer = h.timer := by
  unfold Handling.carryEnds; split <;> rfl

/-! ### What the blocks' own work keeps -/

/-- The counts that the blocks raise, and not the link's receive side (R176). -/
def isBlockCount : CountId → Bool
  | .crcError => false
  | .overrun => false
  | .malformed => false
  | .duplicate => false
  | _ => true

/-- A property of the Link Controller, the Clearance Unit, the node state and the setup values that counting, handing
frames on, the course of an odometry frame's handling and a recompute keep. -/
structure Kept (P : State → Prop) : Prop where
  /-- The property reads nothing else. -/
  reads : ∀ s t, t.link = s.link → t.clear = s.clear → t.startup.node = s.startup.node →
    t.startup.setup = s.startup.setup → P s → P t
  count : ∀ s i, isBlockCount i = true → P s → P (s.count i)
  enqueue : ∀ s p u, P s → P (s.enqueue p u)
  /-- The course of a frame's handling, its timer apart. -/
  handling : ∀ s f, (∀ h : Handling, (f h).timer = h.timer) → P s →
    P (s.setLink { s.link with handling := s.link.handling.map f })
  recompute : ∀ s, P s → P s.recompute

section
variable {P : State → Prop}

/-- A change of other blocks keeps the property. -/
theorem Kept.same (hP : Kept P) {s t : State} (h : P s) (hst : t.link = s.link ∧ t.clear = s.clear ∧
    t.startup.node = s.startup.node ∧ t.startup.setup = s.startup.setup) : P t := by
  obtain ⟨hl, hc, hn, hs⟩ := hst
  exact hP.reads s t hl hc hn hs h

variable (hP : Kept P)
include hP

theorem Kept.notify {s : State} (h : P s) (b : State) (w : Bool) : P (s.notify b w) := by
  unfold State.notify; split
  · exact hP.recompute s h
  · exact h

theorem Kept.handing {s : State} {f : State → State} (h : P (f s)) : P (s.handing f) := hP.notify h s false

theorem Kept.notifyTable {s : State} (h : P s) (b : State) : P (s.notifyTable b) := by
  unfold State.notifyTable; split
  · exact hP.recompute s h
  · exact h

theorem Kept.sendReport {s : State} (h : P s) (a : Action) (r : Record) (w : Bool) : P (s.sendReport a r w) :=
  hP.same (hP.enqueue s _ _ h) ⟨rfl, rfl, rfl, rfl⟩

theorem Kept.sendAnswer {s : State} (h : P s) (d : Pos) (i : BitVec 4) (a : Answer) (c : Nat) :
    P (s.sendAnswer d i a c) := hP.enqueue s _ _ h

theorem Kept.pushOverNonCliff {s : State} (h : P s) (i : Item) : P (s.pushOverNonCliff i) := by
  unfold State.pushOverNonCliff
  split
  · exact hP.count _ _ rfl (hP.same h (by simp))
  · split
    · exact hP.count _ _ rfl (hP.same h (by simp))
    · exact hP.count _ _ rfl h

theorem Kept.pushItem {s : State} (h : P s) (i : Item) : P (s.pushItem i) := by
  unfold State.pushItem
  split
  · exact hP.same h (by simp)
  · split
    · split
      · exact hP.pushOverNonCliff h _
      · exact hP.count _ _ rfl h
    · exact hP.pushOverNonCliff h _
    · exact hP.sendAnswer h _ _ _ _
    all_goals exact hP.count _ _ rfl h

theorem Kept.startCarry {s : State} (h : P s) : P s.startCarry :=
  hP.handling (s.setTable _) Handling.carryStarts Handling.carryStarts_timer (hP.same h (by simp))

theorem Kept.takeWork {s : State} (h : P s) : P s.takeWork := by
  unfold State.takeWork
  dsimp only
  split
  · exact hP.startCarry h
  · split
    · exact hP.same h (by simp)
    · split <;> exact hP.same h (by simp)

theorem Kept.kick {s : State} (h : P s) : P s.kick := by
  unfold State.kick; split
  · exact hP.takeWork h
  · exact h

theorem Kept.observe {s : State} (h : P s) (i : Item) : P (s.observe i) := hP.kick (hP.pushItem h i)

theorem Kept.observeOpt {s : State} (h : P s) (i : Option Item) : P (s.observeOpt i) := by
  cases i with
  | none => exact h
  | some i => exact hP.observe h i

/-! The channels, the switches and the beacon. -/

theorem Kept.floorBurstEnd {s : State} (h : P s) (a l : BitVec 10) : P (s.floorBurstEnd a l) := by
  unfold State.floorBurstEnd
  split
  · refine hP.notify (hP.same (s := s.floorResult a l) ?_ (by simp)) _ _
    unfold State.floorResult
    split
    · exact hP.count _ _ rfl (hP.same h (by simp))
    · exact hP.observeOpt (hP.same h (by simp)) _
  · exact h

theorem Kept.wallBurstEnd {s : State} (h : P s) (a l : BitVec 10) : P (s.wallBurstEnd a l) := by
  unfold State.wallBurstEnd
  split
  · refine hP.notify (hP.same (s := s.wallResult a l) ?_ (by simp)) _ _
    unfold State.wallResult
    split
    · exact hP.count _ _ rfl (hP.same h (by simp))
    · exact hP.observeOpt (hP.same h (by simp)) _
  · exact h

theorem Kept.bumpChange {s : State} (h : P s) (a : Bool) : P (s.bumpChange a) := by
  unfold State.bumpChange
  dsimp only
  split
  · refine hP.notify ?_ _ _
    split
    · exact hP.observe (hP.same h (by simp)) _
    · exact hP.same h (by simp)
  · exact hP.same h (by simp)

theorem Kept.dropChange {s : State} (h : P s) (a : Bool) : P (s.dropChange a) := by
  unfold State.dropChange
  dsimp only
  split
  · exact hP.notify (hP.same h (by simp)) _ _
  · exact hP.same h (by simp)

theorem Kept.beaconByte {s : State} (h : P s) (code : List Bool) : P (s.beaconByte code) := by
  unfold State.beaconByte
  dsimp only
  split
  · exact hP.same h (by simp)
  · exact hP.count _ _ rfl (hP.same h (by simp))

theorem Kept.beaconEdge {s : State} (h : P s) (m : Bool) (w : Nat) : P (s.beaconEdge m w) := by
  unfold State.beaconEdge
  dsimp only
  split
  · unfold State.acceptBeacon
    dsimp only
    split
    · exact hP.same h (by simp)
    · exact hP.count _ _ rfl (hP.same h (by simp))
    · exact hP.beaconByte (hP.same h (by simp)) _
  · exact hP.same h (by simp)

theorem Kept.beaconSpaceTimeout {s : State} (h : P s) : P s.beaconSpaceTimeout := by
  unfold State.beaconSpaceTimeout; split
  · exact hP.count _ _ rfl (hP.same h (by simp))
  · exact h

theorem Kept.sightingWindowExpiry {s : State} (h : P s) : P s.sightingWindowExpiry := by
  unfold State.sightingWindowExpiry; split
  · exact hP.observe (hP.same h (by simp)) _
  · exact h

/-! Odometry. -/

theorem Kept.sendOdometry {s : State} (h : P s) : P s.sendOdometry := hP.enqueue _ _ _ h

theorem Kept.odoTimerExpiry {s : State} (h : P s) : P s.odoTimerExpiry := by
  unfold State.odoTimerExpiry; split
  · exact hP.sendOdometry (hP.same h (by simp))
  · exact h

theorem Kept.raiseCarry {s : State} (h : P s) : P s.raiseCarry := hP.kick (hP.same h (by simp))

theorem Kept.takeOdometry {s : State} (h : P s) (src : Pos) (seq : Seq) (l r : Half) (b : Bool) :
    P (s.takeOdometry src seq l r b) := by
  unfold State.takeOdometry
  split
  · refine hP.recompute _ (hP.raiseCarry ?_)
    split
    · exact hP.handling _ _ (fun _ => rfl) (hP.same h (by simp))
    · exact hP.same h (by simp)
  · exact hP.handing (hP.same h (by simp))

theorem Kept.odometryBlock {s : State} (h : P s) (hd : Head) (d : OdometryData) : P (s.odometryBlock hd d) := by
  unfold State.odometryBlock; split
  · exact hP.takeOdometry h _ _ _ _ _
  · exact h

theorem Kept.ownOdometry {s : State} (h : P s) (q : Seq) (d : OdometryData) : P (s.ownOdometry q d) := by
  unfold State.ownOdometry
  dsimp only
  split
  · exact hP.takeOdometry (hP.same h (by simp)) _ _ _ _ _
  · exact hP.same h (by simp)

theorem Kept.ownCompletion {s : State} (h : P s) (e : TxEntry) : P (s.ownCompletion e) := by
  unfold State.ownCompletion; split
  · exact hP.ownOdometry h _ _
  · exact h

theorem Kept.stalledTimerExpiry {s : State} (h : P s) : P s.stalledTimerExpiry := by
  unfold State.stalledTimerExpiry; split
  · exact hP.notify (hP.same h (by simp)) _ _
  · exact h

theorem Kept.odoClashHoldExpiry {s : State} (h : P s) : P s.odoClashHoldExpiry := by
  unfold State.odoClashHoldExpiry; split
  · exact hP.notify (hP.same h (by simp)) _ _
  · exact h

/-! The carry and the age ticks. -/

theorem Kept.carryEnd {s : State} (h : P s) : P s.carryEnd := by
  unfold State.carryEnd
  split
  · split
    · exact hP.takeWork (hP.notify (hP.handling (s.setTable _) _ Handling.carryEnds_timer (hP.same h (by simp))) _ _)
    · exact h
  · exact h

theorem Kept.ageTimerExpiry {s : State} (h : P s) : P s.ageTimerExpiry := by
  unfold State.ageTimerExpiry; split
  · exact hP.notify (hP.kick (hP.same h (by simp))) _ _
  · exact h

theorem Kept.ageTicksApplied {s : State} (h : P s) : P s.ageTicksApplied := by
  unfold State.ageTicksApplied
  split
  · split
    · exact hP.takeWork (hP.notify (hP.same h (by simp)) _ _)
    · exact h
  · exact h

/-! The Report Handler's check. -/

theorem Kept.resolveCheck {s : State} (h : P s) : P s.resolveCheck := by
  unfold State.resolveCheck; split
  · exact hP.handing (hP.pushItem (hP.handing (hP.same h (by simp))) _)
  · exact h

theorem Kept.awaitAnswers {s : State} (h : P s) : P s.awaitAnswers := hP.handing (hP.same h (by simp))

theorem Kept.startCheck {s : State} (h : P s) : P s.startCheck := by
  unfold State.startCheck
  split
  · dsimp only
    split
    · exact hP.resolveCheck (hP.same h (by simp))
    · exact hP.awaitAnswers (hP.enqueue _ _ _ (hP.same h (by simp)))
  · exact h

theorem Kept.decideCheck {s : State} (h : P s) (i : Slot) : P (s.decideCheck i) := by
  unfold State.decideCheck
  split
  · exact hP.same h (by simp)
  · exact hP.same h (by simp)
  · split
    · exact hP.count _ _ rfl (hP.same h (by simp))
    · exact hP.count _ _ rfl h

theorem Kept.endCheck {s : State} (h : P s) : P s.endCheck := hP.handing (hP.same h (by simp))

theorem Kept.cancelCheck {s : State} (h : P s) : P s.cancelCheck :=
  hP.endCheck (s := s.setTable { s.table with fifo := s.table.fifo.filter fun i => !i.isOutcome }) (hP.same h (by simp))

theorem Kept.promote {s : State} (h : P s) : P s.promote.1 := hP.same h (by simp)

theorem Kept.settleChecks {s : State} (h : P s) : P s.settleChecks.1 := by
  unfold State.settleChecks
  dsimp only
  split
  · exact hP.promote (hP.cancelCheck (hP.same (t := s.dropDeferral) h (by simp)))
  · exact hP.same h (by simp)

theorem Kept.reportLostNotice {s : State} (h : P s) (p : Pos) : P (s.reportLostNotice p) := by
  unfold State.reportLostNotice
  split
  · dsimp only
    split
    · exact hP.resolveCheck (hP.same h (by simp))
    · exact hP.same h (by simp)
  · exact h

theorem Kept.answerBlock {s : State} (h : P s) (hd : Head) (d : CheckAnswerData) : P (s.answerBlock hd d) := by
  unfold State.answerBlock
  split
  · exact h
  · exact hP.count _ _ rfl h
  · dsimp only
    split
    · exact hP.kick (hP.resolveCheck (hP.same h (by simp)))
    · exact hP.same h (by simp)

theorem Kept.checkTimeout {s : State} (h : P s) : P s.checkTimeout := by
  unfold State.checkTimeout; split
  · exact hP.kick (hP.resolveCheck h)
  · exact h

/-! The service of items. -/

theorem Kept.placeRecord {s : State} (h : P s) (r : Record) : P (s.placeRecord r).1 := by
  unfold State.placeRecord
  split
  · exact hP.same h (by simp)
  · split
    · exact hP.same h (by simp)
    · exact hP.count _ _ rfl (hP.handing (hP.same h (by simp)))

theorem Kept.mergeOrCreate {s : State} (h : P s) (k : Hazard) (o : Origin) (p : Int × Int) (rc : Recon) :
    P (s.mergeOrCreate k o p rc).state := by
  unfold State.mergeOrCreate
  split
  · exact hP.same h (by simp)
  · exact hP.placeRecord h _

theorem Kept.serveOwn {s : State} (h : P s) (k : Hazard) (o : Origin) (x y : Int) (tag : Option Seq) :
    P (s.serveOwn k o x y tag).state := by
  unfold State.serveOwn
  dsimp only
  have hclear : P (if k.isObstacle && o = .wall then s.setRecords (resetClearRuns s.table.records) else s) := by
    split
    · exact hP.same h (by simp)
    · exact h
  split
  · exact hclear
  · exact hP.mergeOrCreate hclear _ _ _ _

theorem Kept.overruleClass {s : State} (h : P s) : P s.overruleClass := hP.handing (hP.same h (by simp))

theorem Kept.serveCliff {s : State} (h : P s) (o : Origin) (x y : Int) (tag : Option Seq) :
    P (s.serveCliff o x y tag).state := by
  unfold State.serveCliff
  dsimp only
  split
  · exact h
  · split
    · exact hP.overruleClass (hP.same h (by simp))
    · split
      · exact hP.same h (by simp)
      · split
        · exact hP.decideCheck (hP.placeRecord h _) _
        · exact hP.placeRecord h _

theorem Kept.serveEvidence {s : State} (h : P s) (k : Option Hazard) (o : Origin) (x y : Int) (tag : Option Seq) :
    P (s.serveEvidence k o x y tag).state := by
  unfold State.serveEvidence
  dsimp only
  split
  · split
    · exact hP.same h (by simp)
    · exact hP.mergeOrCreate (hP.same h (by simp)) _ _ _ _
  · exact hP.same h (by simp)

theorem Kept.addPeer {s : State} (h : P s) (r : PeerReport) (rc : Recon) : P (s.addPeer r rc) := by
  unfold State.addPeer
  dsimp only
  split
  · exact hP.count _ _ rfl h
  · split
    · exact hP.same h (by simp)
    · exact hP.placeRecord (hP.same h (by simp)) _

theorem Kept.serveAdd {s : State} (h : P s) (r : PeerReport) : P (s.serveAdd r).state := by
  unfold State.serveAdd
  dsimp only
  split
  · exact hP.count _ _ rfl h
  · exact hP.addPeer h _ _

theorem Kept.serveUpdate {s : State} (h : P s) (r : PeerReport) : P (s.serveUpdate r).state := by
  unfold State.serveUpdate
  dsimp only
  split
  · exact hP.count _ _ rfl h
  · split
    · exact hP.addPeer h _ _
    · split <;> exact hP.same h (by simp)

theorem Kept.serveOutcome {s : State} (h : P s) (o : Outcome) (i : Slot) : P (s.serveOutcome o i).state := by
  unfold State.serveOutcome
  dsimp only
  refine hP.promote (hP.endCheck ?_)
  split
  · split
    · have hrecord (r : Record) :
          P (if r.endsFar then (s.putRecord (r.applyOutcome o)).setRecords
            (removeSlot (s.putRecord (r.applyOutcome o)).table.records i) else s.putRecord (r.applyOutcome o)) := by
        split <;> exact hP.same h (by simp)
      split
      · exact hP.overruleClass (hrecord _)
      · exact hrecord _
    · exact h
  · exact h

theorem Kept.answerLookup {s : State} (h : P s) (q : Pos) (id : BitVec 4) (x y : Int) (tag : Option Seq) :
    P (s.answerLookup q id x y tag) := by
  unfold State.answerLookup
  dsimp only
  refine hP.sendAnswer ?_ _ _ _ _
  split
  · exact hP.count _ _ rfl h
  · exact h

theorem Kept.withdrawAt {s : State} (h : P s) (w : List Record) (i : Slot) : P (s.withdrawAt w i) := by
  unfold State.withdrawAt; split
  · exact hP.sendReport h _ _ _
  · exact h

theorem Kept.announceAt {s : State} (h : P s) (b : State) (a : Option Slot) (i : Slot) : P (s.announceAt b a i) := by
  unfold State.announceAt
  split
  · exact h
  · split
    · exact h
    · refine hP.sendReport ?_ _ _ _
      split
      · exact hP.same h (by simp)
      · exact h

theorem Kept.eventAt {s : State} (h : P s) (b : State) (w : List Record) (a : Option Slot) (i : Slot) :
    P (State.eventAt b w a s i) := hP.announceAt (hP.withdrawAt h w i) b a i

theorem Kept.emitEvents {s : State} (h : P s) (b : State) (w : List Record) (a : Option Slot) :
    P (State.emitEvents b w a s) := by
  unfold State.emitEvents
  generalize List.finRange 24 = slots
  induction slots generalizing s with
  | nil => exact h
  | cons i slots ih => exact ih (hP.eventAt h b w a i)

theorem Kept.refresh {s : State} (h : P s) (b : State) (m : Option Slot) : P (State.refresh b m s) := by
  unfold State.refresh
  split
  · split
    · exact hP.sendReport h _ _ _
    · exact h
  · exact h

theorem Kept.complete {s : State} {v : Served} (h : P v.state) : P (s.complete v) := by
  unfold State.complete
  dsimp only
  refine hP.takeWork (hP.notifyTable ?_ _)
  have hevents : P (State.refresh s v.merged (State.emitEvents s v.withdrawn v.applied
      (v.state.setRecords (sortRecords v.state.table.records)).settleChecks.1)) :=
    hP.refresh (hP.emitEvents (hP.settleChecks (hP.same h (by simp))) _ _ _) _ _
  split
  · exact hP.startCheck hevents
  · exact hevents

theorem Kept.serveOwnObservation {s : State} (h : P s) : P s.serveOwnObservation := by
  unfold State.serveOwnObservation
  split
  · split
    · exact hP.complete (hP.serveOwn h _ _ _ _ _)
    · exact h
  · exact h

theorem Kept.serveOwnCliff {s : State} (h : P s) : P s.serveOwnCliff := by
  unfold State.serveOwnCliff
  split
  · split
    · exact hP.complete (hP.serveCliff h _ _ _ _)
    · exact h
  · exact h

theorem Kept.serveFloorEvidence {s : State} (h : P s) : P s.serveFloorEvidence := by
  unfold State.serveFloorEvidence
  split
  · split
    · exact hP.complete (hP.serveEvidence h _ _ _ _ _)
    · exact h
  · split
    · exact hP.complete (hP.serveEvidence h _ _ _ _ _)
    · exact h
  · exact h

theorem Kept.serveWallClear {s : State} (h : P s) : P s.serveWallClear := by
  unfold State.serveWallClear
  split
  · split
    · exact hP.complete (hP.same h (by simp))
    · exact h
  · exact h

theorem Kept.servePeerAdd {s : State} (h : P s) : P s.servePeerAdd := by
  unfold State.servePeerAdd
  split
  · split
    · exact hP.complete (hP.serveAdd h _)
    · exact h
  · exact h

theorem Kept.servePeerUpdate {s : State} (h : P s) : P s.servePeerUpdate := by
  unfold State.servePeerUpdate
  split
  · split
    · exact hP.complete (hP.serveUpdate h _)
    · exact h
  · exact h

theorem Kept.servePeerWithdraw {s : State} (h : P s) : P s.servePeerWithdraw := by
  unfold State.servePeerWithdraw
  split
  · split
    · exact hP.complete (hP.same h (by simp))
    · exact h
  · exact h

theorem Kept.serveCheckOutcome {s : State} (h : P s) : P s.serveCheckOutcome := by
  unfold State.serveCheckOutcome
  split
  · split
    · exact hP.complete (hP.serveOutcome h _ _)
    · exact h
  · exact h

theorem Kept.serveLookup {s : State} (h : P s) : P s.serveLookup := by
  unfold State.serveLookup
  split
  · split
    · exact hP.takeWork (hP.answerLookup h _ _ _ _ _)
    · exact h
  · exact h

/-! Peers, and what a received frame does outside the Start-up Controller. -/

theorem Kept.judgeMissing {s : State} (h : P s) : P s.judgeMissing := by
  unfold State.judgeMissing; split
  · exact hP.same h (by simp)
  · exact h

theorem Kept.peerAccept {s : State} (h : P s) (hd : Head) (b : Bool) : P (s.peerAccept hd b) :=
  hP.handing (hP.judgeMissing (hP.handing (hP.same h (by simp))))

theorem Kept.odoNotice {s : State} (h : P s) (hd : Head) (b : Bool) : P (s.odoNotice hd b) := hP.same h (by simp)

theorem Kept.odoLostNotice {s : State} (h : P s) (p : Pos) : P (s.odoLostNotice p) := hP.same h (by simp)

theorem Kept.peerSilent {s : State} (h : P s) (p : Pos) : P (s.peerSilent p) := by
  unfold State.peerSilent
  dsimp only
  split
  · exact hP.handing (hP.judgeMissing (hP.same h (by simp)))
  · exact h

theorem Kept.peerLost {s : State} (h : P s) (p : Pos) : P (s.peerLost p) := by
  unfold State.peerLost
  dsimp only
  split
  · exact hP.kick (hP.reportLostNotice (hP.handing (hP.odoLostNotice (hP.handing (hP.judgeMissing (hP.same h (by simp)))) _)) _)
  · exact h

theorem Kept.posHoldExpiry {s : State} (h : P s) : P s.posHoldExpiry := by
  unfold State.posHoldExpiry; split
  · exact hP.notify (hP.same h (by simp)) _ _
  · exact h

theorem Kept.roleHoldExpiry {s : State} (h : P s) : P s.roleHoldExpiry := by
  unfold State.roleHoldExpiry; split
  · exact hP.notify (hP.same h (by simp)) _ _
  · exact h

theorem Kept.missingTimerExpiry {s : State} (h : P s) : P s.missingTimerExpiry := by
  unfold State.missingTimerExpiry; split
  · exact hP.handing (hP.judgeMissing (hP.same h (by simp)))
  · exact h

theorem Kept.hazardBlock {s : State} (h : P s) (hd : Head) (d : HazardData) : P (s.hazardBlock hd d) := by
  unfold State.hazardBlock; split
  · exact hP.observe h _
  · exact h

theorem Kept.requestBlock {s : State} (h : P s) (hd : Head) (d : CheckRequestData) : P (s.requestBlock hd d) := by
  unfold State.requestBlock; split
  · exact hP.observe h _
  · exact h

theorem Kept.channelsMode {s : State} (h : P s) (old new : Mode) : P (s.channelsMode old new) := hP.same h (by simp)

theorem Kept.modeBlock {s : State} (h : P s) (hd : Head) (v : Byte) : P (s.modeBlock hd v) := by
  unfold State.modeBlock
  split
  · exact hP.count _ _ rfl h
  · split
    · exact hP.count _ _ rfl h
    · split
      · exact h
      · exact hP.handing (hP.channelsMode (hP.notify (hP.same h (by simp)) s true) _ _)

theorem Kept.verdictTimerExpiry {s : State} (h : P s) : P s.verdictTimerExpiry := by
  unfold State.verdictTimerExpiry; split
  · exact hP.recompute s h
  · exact h

end

end Sys2Proof.Machine
end

section
/-! PROOFS. The changes that every step is made of (R161 to R190), as far as the Link Controller, the Clearance Unit, the node
state and the setup values go: a property that each of them keeps, every step keeps. -/

namespace Sys2Proof.Machine

open Sys2Proof

/-- A property that RUN entry and a rejoin order keep beside the blocks' own work. -/
structure BlockKept (P : State → Prop) : Prop extends Kept P where
  enterRun : ∀ s v, P s → P (s.enterRun v)
  rejoin : ∀ s, P s → P s.rejoin

/-- A property that the changes of the line, of the queue, of the receive buffers, of the STOP driver and of the node state
keep, beside those of the blocks' own work. -/
structure StepKept (P : State → Prop) : Prop extends BlockKept P where
  countAny : ∀ s i, P s → P (s.count i)
  /-- Following the line, an attempt's end, and the timers of the link. -/
  line : ∀ s l, l.queue = s.link.queue → l.rx = s.link.rx → l.handling = s.link.handling → P s → P (s.setLink l)
  putOnLine : ∀ s e rest, s.link.queue = e :: rest → P s → P (s.putOnLine e rest)
  returnEntry : ∀ s e, P s → P (s.returnEntry e)
  /-- The handling of the first of some buffered frames begins. -/
  handle : ∀ s f rest, rest.length < max s.link.rx.length 1 → P s → P (s.setLink (s.link.handle (f :: rest)))
  release : ∀ s, P s → P (s.setLink { s.link with rx := [], handling := none })
  wait : ∀ s f, s.link.rx.length < rxBuffers → s.link.rx ≠ [] → P s →
    P (s.setLink { s.link with rx := s.link.rx ++ [f] })
  stopHoldExpiry : ∀ s, P s → P s.stopHoldExpiry
  stopLine : ∀ s l, P s → P (s.setClear { s.clear with line := l })
  hardReset : ∀ s, P s → P s.hardReset
  enterStep : ∀ s k, s.running = false → P s → P (s.enterStep k)
  enterFault : ∀ s c, P s → P (s.enterFault c)
  enterAwait : ∀ s, s.running = false → P s → P s.enterAwait
  tick : ∀ s, P s → P s.tick

/-- A node in self-test is not in RUN. -/
theorem State.running_of_inStep {s : State} {k : TestStep} (h : s.inStep k = true) : s.running = false := by
  simp_all [State.inStep, State.running]

theorem Startup.holdPart_node (u : Startup) (p : PartData) : (u.holdPart p).node = u.node := by cases p <;> rfl

theorem Startup.holdPart_setup (u : Startup) (p : PartData) : (u.holdPart p).setup = u.setup := by cases p <;> rfl

section
variable {P : State → Prop} (hP : BlockKept P)
include hP

/-! The frames that blocks use. -/

theorem BlockKept.setupBlock {s : State} (h : P s) (hd : Head) (d : SetupData) : P (s.setupBlock hd d) := by
  unfold State.setupBlock
  split
  · exact h
  · split
    · exact hP.count _ _ rfl h
    · have hheld : P (s.setStartup (s.startup.holdPart d.part)) :=
        hP.same h ⟨rfl, rfl, Startup.holdPart_node .., Startup.holdPart_setup ..⟩
      unfold State.trySetup
      split
      · exact hP.enterRun _ _ hheld
      · exact hheld

theorem BlockKept.rejoinBlock {s : State} (h : P s) (hd : Head) (d : Pos) : P (s.rejoinBlock hd d) := by
  unfold State.rejoinBlock
  split
  · exact h
  · split
    · exact hP.count _ _ rfl h
    · split
      · exact hP.rejoin _ h
      · exact hP.count _ _ rfl h

theorem BlockKept.kindBlock {s : State} (h : P s) (f : Frame) : P (s.kindBlock f) := by
  unfold State.kindBlock
  split
  · exact hP.odometryBlock h _ _
  · exact hP.hazardBlock h _ _
  · exact h
  · exact hP.requestBlock h _ _
  · exact hP.answerBlock h _ _
  · exact h
  · exact h
  · exact hP.setupBlock h _ _
  · exact hP.modeBlock h _ _
  · exact hP.rejoinBlock h _ _

end

section
variable {P : State → Prop} (hP : StepKept P)
include hP

theorem StepKept.lineFree {s : State} (h : P s) : P s.lineFree := by
  unfold State.lineFree; split
  · exact hP.line s _ rfl rfl rfl h
  · exact h

/-! The Start-up Controller. -/

theorem StepKept.strapSample {s : State} (h : P s) (a b c d : Bool) : P (s.strapSample a b c d) := by
  unfold State.strapSample; split
  next hn =>
    have hrun : s.running = false := by obtain hn | hn := hn <;> simp [State.running, hn]
    refine hP.same (s := State.enterStep _ .s7) (hP.enterStep _ _ ?_ (hP.same h ?_)) ⟨rfl, rfl, rfl, rfl⟩
    · exact hrun
    · simp
  · exact h

theorem StepKept.tableSlotTest {s : State} (h : P s) (g : BitVec 24) : P (s.tableSlotTest g) := by
  unfold State.tableSlotTest
  split
  next hin =>
    dsimp only
    split
    · exact hP.enterStep _ _ (State.running_of_inStep hin) (hP.same h (by simp))
    · exact hP.enterFault _ _ (hP.same h (by simp))
  · exact h

theorem StepKept.crcSelfTest {s : State} (h : P s) (r : Half) : P (s.crcSelfTest r) := by
  unfold State.crcSelfTest
  split
  next hin =>
    split
    · exact hP.enterStep _ _ (State.running_of_inStep hin) h
    · exact hP.enterFault _ _ h
  · exact h

theorem StepKept.loopbackTimeout {s : State} (h : P s) : P s.loopbackTimeout := by
  unfold State.loopbackTimeout; split
  · exact hP.enterFault _ _ h
  · exact h

theorem StepKept.reportLoopback {s : State} (h : P s) (e : TxEntry) (c : Bool) : P (s.reportLoopback e c) := by
  unfold State.reportLoopback State.loopbackResult
  split
  · split
    next hin =>
      split
      · exact hP.enterStep _ _ (State.running_of_inStep hin) h
      · exact hP.enterFault _ _ h
    · exact h
  · exact h

theorem StepKept.floorEmitterTest {s : State} (h : P s) (d : Drive) : P (s.floorEmitterTest d) := by
  unfold State.floorEmitterTest
  split
  next hin =>
    dsimp only
    split
    · exact hP.enterStep _ _ (State.running_of_inStep hin) (hP.same h (by simp))
    · exact hP.enterFault _ _ (hP.same h (by simp))
  · exact h

theorem StepKept.wallEmitterTest {s : State} (h : P s) (d : Drive) : P (s.wallEmitterTest d) := by
  unfold State.wallEmitterTest; split
  next hin => exact hP.enterAwait _ (State.running_of_inStep hin) (hP.same h (by simp))
  · exact h

theorem StepKept.formPendingBoot {s : State} (h : P s) (c : ProgressCode) : P (s.formPendingBoot c) :=
  hP.enqueue _ _ _ (hP.same h (by simp))

theorem StepKept.bootTimerExpiry {s : State} (h : P s) : P s.bootTimerExpiry := by
  unfold State.bootTimerExpiry
  split
  · dsimp only
    split
    · exact hP.formPendingBoot (hP.same h (by simp)) _
    · exact hP.same h (by simp)
  · split
    · dsimp only
      split
      · exact hP.formPendingBoot (hP.same h (by simp)) _
      · exact hP.same h (by simp)
    · exact h

/-! Reception. -/

theorem StepKept.acceptFrame {s : State} (h : P s) (f : Frame) : P (s.acceptFrame f) := by
  unfold State.acceptFrame
  refine hP.kindBlock (hP.handing ?_) f
  exact hP.odoNotice (hP.peerAccept h _ _) _ _

theorem StepKept.handFrame {s : State} (h : P s) (f : Frame) : P (s.handFrame f) := by
  unfold State.handFrame
  split
  · exact hP.notify (hP.same h (by simp)) _ _
  · exact hP.acceptFrame h f

theorem StepKept.handOn {s : State} (h : P s) (rx : List Frame) (hrx : rx.length ≤ max s.link.rx.length 1) :
    P (s.handOn rx) := by
  induction rx generalizing s with
  | nil => exact hP.release s h
  | cons f rest ih =>
    have hbefore : P (s.beforeTest f) := hP.same h (by simp)
    have hlength : rest.length < max (s.beforeTest f).link.rx.length 1 := by simpa using hrx
    rw [State.handOn]
    split
    · exact ih (hP.countAny _ _ hbefore) (by simpa using hlength.le)
    · exact hP.handFrame (hP.handle _ f rest hlength hbefore) f

theorem StepKept.bufferFrame {s : State} (h : P s) (f : Frame) : P (s.bufferFrame f) := by
  unfold State.bufferFrame
  split
  · exact hP.countAny _ _ h
  next hroom =>
    split
    · exact hP.handOn h [f] (le_max_right _ _)
    next hrx => exact hP.wait s f (not_le.mp hroom) hrx h

theorem StepKept.receiveFrame {s : State} (h : P s) (f : Frame) : P (s.receiveFrame f) := by
  unfold State.receiveFrame
  dsimp only
  split
  · exact hP.lineFree h
  · split
    · exact hP.bufferFrame (hP.lineFree h) f
    · exact hP.countAny _ _ (hP.lineFree h)

theorem StepKept.rxFrameRejected {s : State} (h : P s) (bytes : List Byte) : P (s.rxFrameRejected bytes) := by
  unfold State.rxFrameRejected
  dsimp only
  split
  · exact hP.lineFree h
  · split
    · exact hP.countAny _ _ (hP.lineFree h)
    · exact hP.countAny _ _ (hP.lineFree h)
    · exact hP.bufferFrame (hP.lineFree h) _

theorem StepKept.rxLengthMalformed {s : State} (h : P s) (l : BitVec 4) : P (s.rxLengthMalformed l) := by
  unfold State.rxLengthMalformed
  split
  · dsimp only
    split
    · exact hP.countAny _ _ (hP.lineFree h)
    · exact hP.lineFree h
  · exact h

theorem StepKept.frameHandlingEnd {s : State} (h : P s) : P s.frameHandlingEnd := by
  unfold State.frameHandlingEnd; split
  · refine hP.handOn h _ (le_max_of_le_left ?_)
    rw [List.length_tail]
    exact Nat.sub_le _ _
  · exact h

/-! The line, and the frames the node sends. -/

theorem StepKept.startBit {s : State} (h : P s) (w : Nat) : P (s.startBit w) := by
  unfold State.startBit; split
  · exact hP.line s _ rfl rfl rfl h
  · exact h

theorem StepKept.routineYieldExpiry {s : State} (h : P s) : P s.routineYieldExpiry := by
  unfold State.routineYieldExpiry; split
  · exact hP.line s _ rfl rfl rfl h
  · exact h

theorem StepKept.txAttemptStart {s : State} (h : P s) : P s.txAttemptStart := by
  unfold State.txAttemptStart
  split
  next e rest hq =>
    split
    · exact hP.putOnLine s e rest hq h
    · exact h
  · exact h

theorem StepKept.endAttempt {s : State} (h : P s) (e : TxEntry) : P (s.setLink (s.link.endAttempt e)) :=
  hP.line s _ rfl rfl rfl h

theorem StepKept.bootEnded {s : State} (h : P s) (e : TxEntry) : P (s.bootEnded e) := hP.same h (by simp)

theorem StepKept.txMismatch {s : State} (h : P s) : P s.txMismatch := by
  unfold State.txMismatch
  split
  · dsimp only
    split
    · unfold State.afterStopped
      split
      · exact hP.reportLoopback (hP.bootEnded (hP.countAny _ _ (hP.endAttempt h _)) _) _ _
      · exact hP.returnEntry _ _ (hP.endAttempt h _)
    · exact hP.bootEnded (hP.endAttempt h _) _
  · exact h

theorem StepKept.txComplete {s : State} (h : P s) : P s.txComplete := by
  unfold State.txComplete
  split
  · exact hP.ownCompletion (hP.reportLoopback (hP.bootEnded (hP.endAttempt h _) _) _ _) _
  · exact h

theorem StepKept.healthTimerExpiry {s : State} (h : P s) : P s.healthTimerExpiry := by
  unfold State.healthTimerExpiry
  split
  · unfold State.sendHealth
    dsimp only
    have hsent (p : Payload) : P ((s.setLink { s.link with healthTimer := some healthTime }).enqueue p false) :=
      hP.enqueue _ _ _ (hP.line s _ rfl rfl rfl h)
    split
    · exact hP.line _ _ rfl rfl rfl (hsent _)
    · exact hsent _
  · exact h

theorem StepKept.stopLineChange {s : State} (h : P s) (a : Bool) : P (s.stopLineChange a) := by
  unfold State.stopLineChange
  dsimp only
  split
  · exact hP.notify (hP.stopLine _ _ (hP.same h (by simp))) _ _
  · exact hP.same h (by simp)

/-! All commands, and the clock. -/

/-- Every command keeps the property. -/
theorem StepKept.exec {c : Instr} {s t : State} (h : P s) (hc : exec c s = .next t) : P t := by
  cases c <;> obtain rfl := Host.Outcome.next.inj hc
  case hardReset => exact hP.hardReset s h
  case strapSample => exact hP.strapSample h _ _ _ _
  case tableSlotTest => exact hP.tableSlotTest h _
  case crcSelfTest => exact hP.crcSelfTest h _
  case linkLoopbackTimeout => exact hP.loopbackTimeout h
  case floorEmitterTest => exact hP.floorEmitterTest h _
  case wallEmitterTest => exact hP.wallEmitterTest h _
  case bootTimerExpiry => exact hP.bootTimerExpiry h
  case floorPeriodExpiry => exact hP.same h (by simp)
  case wallPeriodExpiry => exact hP.same h (by simp)
  case guardedBurstStart => exact hP.same h (by simp)
  case floorBurstEnd => exact hP.floorBurstEnd h _ _
  case wallBurstEnd => exact hP.wallBurstEnd h _ _
  case bumpChange => exact hP.bumpChange h _
  case dropChange => exact hP.dropChange h _
  case encoderEdge => exact hP.same h (by simp)
  case odoTimerExpiry => exact hP.odoTimerExpiry h
  case stalledTimerExpiry => exact hP.stalledTimerExpiry h
  case odoRoleClashHoldExpiry => exact hP.odoClashHoldExpiry h
  case carryEnd => exact hP.carryEnd h
  case ageTimerExpiry => exact hP.ageTimerExpiry h
  case ageTicksApplied => exact hP.ageTicksApplied h
  case serveOwnObservation => exact hP.serveOwnObservation h
  case serveOwnCliff => exact hP.serveOwnCliff h
  case serveFloorEvidence => exact hP.serveFloorEvidence h
  case serveWallClear => exact hP.serveWallClear h
  case servePeerAdd => exact hP.servePeerAdd h
  case servePeerUpdate => exact hP.servePeerUpdate h
  case servePeerWithdraw => exact hP.servePeerWithdraw h
  case serveCheckOutcome => exact hP.serveCheckOutcome h
  case serveLookup => exact hP.serveLookup h
  case checkTimeout => exact hP.checkTimeout h
  case rxFrameRejected => exact hP.rxFrameRejected h _
  case rxLengthMalformed => exact hP.rxLengthMalformed h _
  case frameAbandoned => exact hP.lineFree h
  case frameHandlingEnd => exact hP.frameHandlingEnd h
  case txAttemptStart => exact hP.txAttemptStart h
  case txMismatch => exact hP.txMismatch h
  case txComplete => exact hP.txComplete h
  case routineYieldExpiry => exact hP.routineYieldExpiry h
  case healthTimerExpiry => exact hP.healthTimerExpiry h
  case stopHoldExpiry => exact hP.stopHoldExpiry s h
  case stopLineChange => exact hP.stopLineChange h _
  case verdictTimerExpiry => exact hP.verdictTimerExpiry h
  case beaconEdge => exact hP.beaconEdge h _ _
  case beaconSpaceTimeout => exact hP.beaconSpaceTimeout h
  case sightingWindowExpiry => exact hP.sightingWindowExpiry h
  case peerSilent => exact hP.peerSilent h _
  case peerLost => exact hP.peerLost h _
  case posClashHoldExpiry => exact hP.posHoldExpiry h
  case roleClashHoldExpiry => exact hP.roleHoldExpiry h
  case missingPeerTimerExpiry => exact hP.missingTimerExpiry h
  case startBit => exact hP.startBit h _
  case ledFlash =>
    have hled : s.startup.ledNext.node = s.startup.node ∧ s.startup.ledNext.setup = s.startup.setup := by
      unfold Startup.ledNext; (repeat' split) <;> exact ⟨rfl, rfl⟩
    exact hP.same h ⟨rfl, rfl, hled.1, hled.2⟩
  all_goals exact hP.receiveFrame h _

/-- Every step keeps the property. -/
theorem StepKept.step {s t : State} (h : P s) (hs : step s = .next t) : P t :=
  step_keeps (fun _ _ hu => hP.same hu (by simp)) (fun _ _ hu => hP.same hu (by simp)) hP.tick
    (fun _ _ _ hu hc => hP.exec hu hc) h hs

end

end Sys2Proof.Machine
end

section
/-! PROOFS. The transmit queue after each of its changes (R168, R170 to R172), and the invariants of the transmit queue and of
the receive buffers (R170, R174). -/

namespace Sys2Proof.Machine

open Sys2Proof

/-! ### The order of the queue -/

/-- No routine entry stands ahead of an urgent one (R170). -/
def UrgentFirst (q : List TxEntry) : Prop := q.Pairwise fun a b => b.urgent = true → a.urgent = true

/-- Behind the urgent entries of an ordered queue all are routine. -/
theorem UrgentFirst.routine_of_mem_dropWhile {q : List TxEntry} (hq : UrgentFirst q) {x : TxEntry}
    (hx : x ∈ q.dropWhile (·.urgent)) : x.urgent = false := by
  induction q with
  | nil => simp at hx
  | cons e q ih =>
    obtain ⟨hhead, htail⟩ := List.pairwise_cons.mp hq
    cases he : e.urgent with
    | true => exact ih htail (by simpa [he] using hx)
    | false =>
      rw [List.dropWhile_cons_of_neg (by simp [he]), List.mem_cons] at hx
      obtain rfl | hx := hx
      · exact he
      · exact Bool.eq_false_of_not_eq_true fun hu => by simp [hhead x hx hu] at he

/-- An entry between the urgent and the routine entries keeps the order. -/
theorem UrgentFirst.insert {q : List TxEntry} (hq : UrgentFirst q) (e : TxEntry) :
    UrgentFirst (q.takeWhile (·.urgent) ++ e :: q.dropWhile (·.urgent)) := by
  refine List.pairwise_append.mpr ⟨hq.sublist (List.takeWhile_sublist _), List.pairwise_cons.mpr ⟨fun b hb hu => ?_,
    hq.sublist (List.dropWhile_sublist _)⟩, fun a ha b _ _ => ?_⟩
  · simp [hq.routine_of_mem_dropWhile hb] at hu
  · simpa using List.mem_takeWhile_imp ha

/-- A new entry's place keeps the order (R170). -/
theorem UrgentFirst.placeNew {q : List TxEntry} (hq : UrgentFirst q) (e : TxEntry) : UrgentFirst (placeNew q e) := by
  unfold Machine.placeNew
  split
  · exact hq.insert e
  next he => exact List.pairwise_append.mpr ⟨hq, List.pairwise_singleton _ _, by simp [he]⟩

/-- A returning entry's place keeps the order (R168). -/
theorem UrgentFirst.placeReturning {q : List TxEntry} (hq : UrgentFirst q) (e : TxEntry) :
    UrgentFirst (placeReturning q e) := by
  unfold Machine.placeReturning
  split
  next he => exact List.pairwise_cons.mpr ⟨fun _ _ _ => he, hq⟩
  · exact hq.insert e

theorem placeNew_perm (q : List TxEntry) (e : TxEntry) : (placeNew q e).Perm (e :: q) := by
  unfold placeNew
  split
  · exact List.perm_middle.trans (.cons e (.of_eq List.takeWhile_append_dropWhile))
  · exact List.perm_append_singleton e q

theorem placeReturning_perm (q : List TxEntry) (e : TxEntry) : (placeReturning q e).Perm (e :: q) := by
  unfold placeReturning
  split
  · rfl
  · exact List.perm_middle.trans (.cons e (.of_eq List.takeWhile_append_dropWhile))

/-! ### The bounds of the queue -/

/-- The queue holds at most one verdict and at most one odometry frame (R170, R171). -/
def FewOfKind (q : List TxEntry) : Prop :=
  (q.filter fun e => e.payload.isVerdict).length ≤ 1 ∧ (q.filter fun e => e.payload.isOdometry).length ≤ 1

theorem FewOfKind.sublist {q r : List TxEntry} (hq : FewOfKind q) (h : r.Sublist q) : FewOfKind r :=
  ⟨(h.filter _).length_le.trans hq.1, (h.filter _).length_le.trans hq.2⟩

theorem FewOfKind.perm {q r : List TxEntry} (hq : FewOfKind q) (h : r.Perm q) : FewOfKind r :=
  ⟨(h.filter _).length_eq.trans_le hq.1, (h.filter _).length_eq.trans_le hq.2⟩

/-- An entry that replaces none may join. -/
theorem FewOfKind.cons {q : List TxEntry} (hq : FewOfKind q) (e : TxEntry)
    (hlike : ∀ x ∈ q, x.payload.coalesces e.payload = false) : FewOfKind (e :: q) := by
  have hverdict : e.payload.isVerdict = true → (q.filter fun x => x.payload.isVerdict) = [] := fun he =>
    List.filter_eq_nil_iff.mpr fun x hx hv => by simpa [Payload.coalesces, he, hv] using hlike x hx
  have hodometry : e.payload.isOdometry = true → (q.filter fun x => x.payload.isOdometry) = [] := fun he =>
    List.filter_eq_nil_iff.mpr fun x hx hv => by simpa [Payload.coalesces, he, hv] using hlike x hx
  refine ⟨?_, ?_⟩
  · rw [List.filter_cons]; split
    next he => simp [hverdict he]
    · exact hq.1
  · rw [List.filter_cons]; split
    next he => simp [hodometry he]
    · exact hq.2

theorem Payload.isVerdict_eq_of_coalesces {p q : Payload} (h : p.coalesces q = true) : p.isVerdict = q.isVerdict := by
  cases p <;> cases q <;> simp_all [Payload.coalesces, Payload.isVerdict, Payload.isOdometry]

theorem Payload.isOdometry_eq_of_coalesces {p q : Payload} (h : p.coalesces q = true) :
    p.isOdometry = q.isOdometry := by
  cases p <;> cases q <;> simp_all [Payload.coalesces, Payload.isVerdict, Payload.isOdometry]

theorem Payload.coalesces_congr {p q : Payload} (h : p.coalesces q = true) (r : Payload) :
    r.coalesces p = r.coalesces q := by
  simp [Payload.coalesces, Payload.isVerdict_eq_of_coalesces h, Payload.isOdometry_eq_of_coalesces h]

/-- Counting entries of a kind that no replacement changes. -/
theorem length_filter_replaceContent {k : Payload → Bool} {p : Payload}
    (hk : ∀ x : Payload, x.coalesces p = true → k x = k p) (q : List TxEntry) :
    ((replaceContent q p).filter fun e => k e.payload).length = (q.filter fun e => k e.payload).length := by
  rw [replaceContent, List.filter_map, List.length_map]
  congr 1
  refine List.filter_congr fun e _ => ?_
  dsimp only [Function.comp]
  split
  next h => exact (hk _ h).symm
  · rfl

theorem FewOfKind.replaceContent {q : List TxEntry} (hq : FewOfKind q) (p : Payload) :
    FewOfKind (replaceContent q p) :=
  ⟨(length_filter_replaceContent (fun _ => Payload.isVerdict_eq_of_coalesces) q).trans_le hq.1,
    (length_filter_replaceContent (fun _ => Payload.isOdometry_eq_of_coalesces) q).trans_le hq.2⟩

theorem UrgentFirst.replaceContent {q : List TxEntry} (hq : UrgentFirst q) (p : Payload) :
    UrgentFirst (replaceContent q p) := by
  refine List.pairwise_map.mpr (hq.imp fun {a b} h => ?_)
  have hkept (e : TxEntry) : (if e.payload.coalesces p then
      { e with payload := p, seq := none, crc := none, attempts := 0 } else e).urgent = e.urgent := by
    split <;> rfl
  rwa [hkept a, hkept b]

/-- Raising the entry like `p` takes it out of its place and puts it behind the urgent ones (R171). -/
theorem raiseQueued_cases (q : List TxEntry) (p : Payload) : raiseQueued q p = q ∨
    ∃ e ∈ q, e.payload.coalesces p = true ∧ raiseQueued q p =
      placeNew (q.filter fun x => !x.payload.coalesces p) { e with urgent := true } := by
  unfold raiseQueued
  split
  next e he =>
    split
    · exact .inl rfl
    · exact .inr ⟨e, List.mem_of_find?_eq_some he, by simpa using List.find?_some he, rfl⟩
  · exact .inl rfl

/-! ### The whole invariant of the queue -/

/-- What R170 says of a queue. -/
structure QueueWf (q : List TxEntry) : Prop where
  length : q.length ≤ txQueueSize
  few : FewOfKind q
  order : UrgentFirst q

theorem Link.queueOk_iff (l : Link) : l.QueueOk ↔ QueueWf l.queue :=
  ⟨fun ⟨hlen, hv, ho, hord⟩ => ⟨hlen, ⟨hv, ho⟩, hord⟩, fun ⟨hlen, ⟨hv, ho⟩, hord⟩ => ⟨hlen, hv, ho, hord⟩⟩

theorem QueueWf.sublist {q r : List TxEntry} (hq : QueueWf q) (h : r.Sublist q) : QueueWf r :=
  ⟨h.length_le.trans hq.length, hq.few.sublist h, hq.order.sublist h⟩

theorem QueueWf.nil : QueueWf [] := ⟨Nat.zero_le _, ⟨Nat.zero_le _, Nat.zero_le _⟩, List.Pairwise.nil⟩

/-- An entry that replaces none joins a queue with room (R170). -/
theorem QueueWf.placeNew {q : List TxEntry} (hq : QueueWf q) (e : TxEntry) (hroom : q.length < txQueueSize)
    (hlike : ∀ x ∈ q, x.payload.coalesces e.payload = false) : QueueWf (placeNew q e) :=
  ⟨(placeNew_perm q e).length_eq.trans_le hroom, (hq.few.cons e hlike).perm (placeNew_perm q e), hq.order.placeNew e⟩

theorem QueueWf.placeReturning {q : List TxEntry} (hq : QueueWf q) (e : TxEntry) (hroom : q.length < txQueueSize)
    (hlike : ∀ x ∈ q, x.payload.coalesces e.payload = false) : QueueWf (placeReturning q e) :=
  ⟨(placeReturning_perm q e).length_eq.trans_le hroom, (hq.few.cons e hlike).perm (placeReturning_perm q e),
    hq.order.placeReturning e⟩

theorem QueueWf.raiseQueued {q : List TxEntry} (hq : QueueWf q) (p : Payload) : QueueWf (raiseQueued q p) := by
  obtain h | ⟨e, he, hlike, h⟩ := raiseQueued_cases q p <;> rw [h]
  · exact hq
  · refine (hq.sublist List.filter_sublist).placeNew _ (lt_of_lt_of_le ?_ hq.length) fun x hx => ?_
    · exact List.length_filter_lt_length_iff_exists.mpr ⟨e, he, by simp [hlike]⟩
    · rw [Payload.coalesces_congr hlike]
      simpa using (List.mem_filter.mp hx).2

theorem QueueWf.replaceQueued {q : List TxEntry} (hq : QueueWf q) (p : Payload) (u : Bool) :
    QueueWf (replaceQueued q p u) := by
  have hcontent : QueueWf (replaceContent q p) :=
    ⟨(List.length_map _).trans_le hq.length, hq.few.replaceContent p, hq.order.replaceContent p⟩
  unfold Machine.replaceQueued
  split
  · exact hcontent.raiseQueued p
  · exact hcontent

/-- The queue after a frame has come to it full (R172): the youngest routine entry gives way to an urgent frame. -/
theorem State.placeAtFull_queue (s : State) (e : TxEntry) :
    (s.placeAtFull e).link.queue = s.link.queue ∨ e.urgent = true ∧ ∃ v ∈ s.link.queue, v.urgent = false ∧
      (s.placeAtFull e).link.queue = placeNew (s.link.queue.filter fun x => x ≠ v) e := by
  unfold State.placeAtFull
  split
  next he =>
    split
    next v hv =>
      have hmem : v ∈ s.link.queue.filter fun e => !e.urgent := List.mem_of_getLast? hv
      obtain ⟨hin, hroutine⟩ := List.mem_filter.mp hmem
      exact .inr ⟨he, v, hin, by simpa using hroutine, by simp⟩
    · exact .inl (by simp)
  · exact .inl (by simp)

theorem QueueWf.placeAtFull {s : State} (hq : QueueWf s.link.queue) (e : TxEntry)
    (hlike : ∀ x ∈ s.link.queue, x.payload.coalesces e.payload = false) : QueueWf (s.placeAtFull e).link.queue := by
  obtain h | ⟨-, v, hv, -, h⟩ := s.placeAtFull_queue e <;> rw [h]
  · exact hq
  · refine (hq.sublist List.filter_sublist).placeNew e (lt_of_lt_of_le ?_ hq.length) fun x hx =>
      hlike x (List.mem_of_mem_filter hx)
    exact List.length_filter_lt_length_iff_exists.mpr ⟨v, hv, by simp⟩

theorem queuedLike_isNone {q : List TxEntry} {p : Payload} (h : ¬ (queuedLike q p).isSome) :
    ∀ x ∈ q, x.payload.coalesces p = false := by
  simpa [queuedLike] using h

theorem QueueWf.enqueue {s : State} (hq : QueueWf s.link.queue) (p : Payload) (u : Bool) :
    QueueWf (s.enqueue p u).link.queue := by
  unfold State.enqueue
  split
  · exact hq.replaceQueued p u
  next hlike =>
    dsimp only
    split
    next hroom => exact hq.placeNew _ hroom (queuedLike_isNone hlike)
    · exact QueueWf.placeAtFull (s := s.setLink { s.link with nextOrder := s.link.nextOrder + 1 }) hq _
        (queuedLike_isNone hlike)

theorem QueueWf.returnEntry {s : State} (hq : QueueWf s.link.queue) (e : TxEntry) :
    QueueWf (s.returnEntry e).link.queue := by
  unfold State.returnEntry
  split
  · rw [State.setLink_link]
    dsimp only
    split
    · exact hq.raiseQueued e.payload
    · exact hq
  next hlike =>
    split
    next hroom => exact hq.placeReturning e hroom (queuedLike_isNone hlike)
    · exact hq.placeAtFull e (queuedLike_isNone hlike)

/-! ### The changes of node state, before the frames they form -/

/-- FAULT's values in every block, before the code 15 frame (R190). -/
def State.faulted (s : State) (cause : FaultCause) : State :=
  { s with
    startup := { s.startup with
      node := .fault, step := none, cause := cause, part0 := none, part1 := none, part2 := none, part3 := none,
      setup := none, bootTimer := some bootTimeFault, loopTimer := none, led := .faultOn, ledTimer := some faultHalf }
    floor := s.floor.idle, wall := s.wall.idle, bump := Filter.stopped, drop := Filter.stopped, enc := s.enc.idle
    odo := s.odo.faultEntry, table := s.table.clear none, report := s.report.clear, clear := Clearance.reset
    beacon := s.beacon.idle, peers := s.peers.faultEntry, link := s.link.faultEntry }

theorem State.enterFault_eq (s : State) (c : FaultCause) : s.enterFault c = (s.faulted c).formPendingBoot .c15 := by
  simp only [State.enterFault, State.faulted, State.channelsIdle, Clearance.leaveRun, State.setFloor, State.setWall,
    State.setBump, State.setDrop, State.setEnc, State.setOdo, State.setTable, State.setReport, State.setClear,
    State.setBeacon, State.setPeers, State.setLink, State.setStartup]

/-- A taken rejoin order's values in every block, before the code 2 frame (R189). -/
def State.rejoined (s : State) : State :=
  { s with
    startup := s.startup.rejoin
    floor := s.floor.idle, wall := s.wall.idle, bump := Filter.stopped, drop := Filter.stopped, enc := s.enc.idle
    odo := s.odoRejoin.odo, table := s.table.clear none, report := s.report.clear, clear := Clearance.reset
    beacon := s.beacon.idle, peers := s.peers.rejoin, link := s.link.rejoin }

theorem State.rejoin_eq (s : State) : s.rejoin = (s.rejoined.formPendingBoot .c2).setStartup
    (s.rejoined.formPendingBoot .c2).startup.beginGroup := by
  simp only [State.rejoin, State.rejoined, State.channelsIdle, State.odoRejoin, State.odoEnterRun, Clearance.leaveRun,
    State.setFloor, State.setWall, State.setBump, State.setDrop, State.setEnc, State.setOdo, State.setTable,
    State.setReport, State.setClear, State.setBeacon, State.setPeers, State.setLink, State.setStartup]
  rfl

/-- The RUN-entry values of the blocks, after the code 1 frame, before WHEEL's first snapshot and the first verdict
(R188). -/
def State.runBlocks (s : State) (v : SetupValues) : State :=
  let s := s.setStartup { s.startup with
    node := .run, setup := some v, bootTimer := none, bootPending := none, led := .steady, ledTimer := none }
  let s := s.setPeers (s.peers.enterRun v.expected)
  let s := s.odoEnterRun
  let s := (s.setTable (s.table.clear (some ageTick))).setReport s.report.clear
  let s := s.setBeacon (Beacon.enterRun s.pins)
  (s.setLink { s.link with healthTimer := some healthTime }).channelsEnterRun

theorem State.enterRun_eq (s : State) (v : SetupValues) :
    s.enterRun v = ((s.formBoot .c1).runBlocks v).encoderEnterRun.clearEnterRun.recompute := rfl

@[simp] theorem State.runBlocks_link (s : State) (v : SetupValues) :
    (s.runBlocks v).link = { s.link with healthTimer := some healthTime } := by
  simp [State.runBlocks]

/-! ### Properties of the queue and the receive buffers -/

/-- A property of the queue, the receive buffers and the handling of a frame, kept by what changes them. -/
structure LinkKept (Q : Link → Prop) : Prop where
  reads : ∀ {l m}, Q l → m.queue = l.queue → m.rx = l.rx → m.handling = l.handling → Q m
  enqueue : ∀ (s : State) p u, Q s.link → Q (s.enqueue p u).link
  returnEntry : ∀ (s : State) e, Q s.link → Q (s.returnEntry e).link
  leave : ∀ l q, q.Sublist l.queue → Q l → Q { l with queue := q }
  handling : ∀ l f, Q l → Q { l with handling := l.handling.map f }
  handle : ∀ l f rest, rest.length < max l.rx.length 1 → Q l → Q (l.handle (f :: rest))
  release : ∀ l, Q l → Q { l with rx := [], handling := none }
  wait : ∀ l f, l.rx.length < rxBuffers → l.rx ≠ [] → Q l → Q { l with rx := l.rx ++ [f] }
  reset : Q Link.reset

section
variable {Q : Link → Prop} (hQ : LinkKept Q)
include hQ

theorem LinkKept.kept : Kept fun s => Q s.link where
  reads s t hl _ _ _ h := hl ▸ h
  count s i _ h := hQ.reads h rfl rfl rfl
  enqueue := hQ.enqueue
  handling s f _ h := hQ.handling _ f h
  recompute s h := by
    unfold State.recompute State.judgeVerdict
    split
    · split
      · exact h
      · exact hQ.enqueue (s.reclear.setClear _) _ _ h
    · exact h

theorem LinkKept.encoderEnterRun {s : State} (h : Q s.link) : Q s.encoderEnterRun.link := by
  unfold State.encoderEnterRun; split
  · exact hQ.enqueue (s.setEnc _) _ _ h
  · exact h

theorem LinkKept.enterRun {s : State} (h : Q s.link) (v : SetupValues) : Q (s.enterRun v).link := by
  have hboot : Q (s.formBoot .c1).link := hQ.enqueue (s.setStartup _) _ _ h
  have hblocks : Q ((s.formBoot .c1).runBlocks v).link := by
    rw [State.runBlocks_link]
    exact hQ.reads hboot rfl rfl rfl
  rw [State.enterRun_eq]
  refine hQ.kept.recompute _ ?_
  rw [State.clearEnterRun_link]
  exact hQ.encoderEnterRun hblocks

theorem LinkKept.rejoin {s : State} (h : Q s.link) : Q s.rejoin.link := by
  rw [State.rejoin_eq, State.setStartup_link]
  refine hQ.enqueue (State.setStartup (State.setStartup s.rejoined _) _) _ _ ?_
  exact hQ.reads (hQ.leave s.link [] (List.nil_sublist _) h) rfl rfl rfl

theorem LinkKept.enterFault {s : State} (h : Q s.link) (c : FaultCause) : Q (s.enterFault c).link := by
  rw [State.enterFault_eq]
  refine hQ.enqueue (State.setStartup (State.setStartup (s.faulted c) _) _) _ _ ?_
  exact hQ.reads (hQ.release _ (hQ.leave s.link (s.link.queue.filter fun e => e.payload.isBoot)
    List.filter_sublist h)) rfl rfl rfl

/-- A step keeps such a property. -/
theorem LinkKept.stepKept : StepKept fun s => Q s.link where
  toKept := hQ.kept
  countAny s i h := hQ.reads h rfl rfl rfl
  line s l hq hrx hh h := hQ.reads h hq hrx hh
  putOnLine s e rest hq h := hQ.reads (hQ.leave s.link rest (by simp [hq]) h) rfl rfl rfl
  returnEntry := hQ.returnEntry
  handle s f rest := hQ.handle s.link f rest
  release s := hQ.release s.link
  wait s f := hQ.wait s.link f
  stopHoldExpiry s h := by
    unfold State.stopHoldExpiry State.judgeVerdict
    split
    · split
      · split
        · exact h
        · exact hQ.enqueue (State.setClear _ _) _ _ h
      · exact h
    · exact h
  stopLine s l h := h
  hardReset s _ := hQ.reset
  enterStep s k _ h := hQ.enqueue (State.setStartup _ _) _ _ h
  enterFault s c h := hQ.enterFault h c
  enterAwait s _ h := hQ.enqueue (State.setStartup _ _) _ _ h
  enterRun s v h := hQ.enterRun h v
  rejoin s h := hQ.rejoin h
  tick s h := hQ.reads (hQ.handling s.link (fun k => { k with timer := k.timer - 1 }) h) rfl rfl rfl

end

/-! ### The transmit queue -/

theorem queueWf_linkKept : LinkKept fun l => QueueWf l.queue where
  reads h hq _ _ := hq ▸ h
  enqueue _ p u h := h.enqueue p u
  returnEntry _ e h := h.returnEntry e
  leave _ _ hq h := h.sublist hq
  handling _ _ h := h
  handle _ _ _ _ h := h
  release _ h := h
  wait _ _ _ _ h := h
  reset := .nil

/-- Settles O5: each change of the queue keeps what R170 says of it. -/
theorem stepKeepsTransmitQueue : Obligations.StepKeepsTransmitQueue := by
  intro s t hs hstep
  rw [Link.queueOk_iff] at hs ⊢
  exact queueWf_linkKept.stepKept.step hs hstep

/-! ### The receive buffers -/

section
variable (s : State)

/-- Handing a frame on and taking one back leave the receive side alone. -/
@[simp] theorem State.returnEntry_link_rx (e : TxEntry) : (s.returnEntry e).link.rx = s.link.rx := by
  unfold State.returnEntry; (repeat' split) <;> simp

@[simp] theorem State.returnEntry_link_handling (e : TxEntry) :
    (s.returnEntry e).link.handling = s.link.handling := by
  unfold State.returnEntry; (repeat' split) <;> simp

end

theorem buffersOk_linkKept : LinkKept Link.BuffersOk where
  reads h _ hrx hh := by rwa [Link.BuffersOk, hrx, hh]
  enqueue s p u h := by simpa [Link.BuffersOk] using h
  returnEntry s e h := by simpa [Link.BuffersOk] using h
  leave _ _ _ h := h
  handling _ _ h := by simpa [Link.BuffersOk] using h
  handle l f rest hlen h := by
    have hbound : max l.rx.length 1 ≤ rxBuffers := max_le h.1 (by decide)
    exact ⟨hlen.trans_le hbound, by simp [Link.handle]⟩
  release _ _ := by simp [Link.BuffersOk]
  wait _ _ hroom hne h := ⟨by simpa using hroom, by simpa [hne] using h.2⟩
  reset := by simp [Link.BuffersOk, Link.reset]

/-- Settles O6: a frame is buffered only below two, and the handling runs along with the buffers. -/
theorem stepKeepsReceiveBuffers : Obligations.StepKeepsReceiveBuffers :=
  fun _ _ hs hstep => buffersOk_linkKept.stepKept.step hs hstep

end Sys2Proof.Machine
end

section
/-! PROOFS. The Clearance Unit and the setup values through the changes of node state, and the invariants of the STOP driver, of
the setup values and of the clear distances (R118, R124, R188). -/

namespace Sys2Proof.Machine

open Sys2Proof

/-! ### RUN entry -/

section
variable (s : State) (v : SetupValues)

@[simp] theorem State.runBlocks_startup : (s.runBlocks v).startup = { s.startup with
    node := .run, setup := some v, bootTimer := none, bootPending := none, led := .steady, ledTimer := none } := by
  simp [State.runBlocks]

@[simp] theorem State.runBlocks_clear : (s.runBlocks v).clear = s.clear := by simp [State.runBlocks]

@[simp] theorem State.encoderEnterRun_startup_node : s.encoderEnterRun.startup.node = s.startup.node := by
  unfold State.encoderEnterRun State.sendOdometry; split <;> simp

@[simp] theorem State.encoderEnterRun_startup_setup : s.encoderEnterRun.startup.setup = s.startup.setup := by
  unfold State.encoderEnterRun State.sendOdometry; split <;> simp

/-- The state in which a node that enters RUN makes its first recompute (R134). -/
def State.runEntered : State := ((s.formBoot .c1).runBlocks v).encoderEnterRun.clearEnterRun

theorem State.enterRun_eq_recompute : s.enterRun v = (s.runEntered v).recompute := s.enterRun_eq v

@[simp] theorem State.runEntered_running : (s.runEntered v).running = true := by
  simp [State.runEntered, State.running]

@[simp] theorem State.runEntered_startup_setup : (s.runEntered v).startup.setup = some v := by
  simp [State.runEntered]

theorem State.runEntered_clear_driver : (s.runEntered v).clear.driver = true := rfl

end

/-! ### A returning frame -/

@[simp] theorem State.returnEntry_startup_node (s : State) (e : TxEntry) :
    (s.returnEntry e).startup.node = s.startup.node := by
  unfold State.returnEntry; (repeat' split) <;> simp

@[simp] theorem State.returnEntry_startup_setup (s : State) (e : TxEntry) :
    (s.returnEntry e).startup.setup = s.startup.setup := by
  unfold State.returnEntry; (repeat' split) <;> simp

/-! ### The STOP driver -/

theorem Clearance.drive_driver {c : Clearance} {met : Bool} (h : c.ownStop = true → c.driver = true) :
    (c.drive met).ownStop = true → (c.drive met).driver = true := by
  cases met with
  | true => exact fun _ => (c.drive_met h).1
  | false => simp [Clearance.drive]

/-- Outside RUN no recompute is made (R128). -/
theorem State.recompute_outside (s : State) (h : s.running = false) : s.recompute = s := by simp [State.recompute, h]

theorem State.stopHeld_of_asserted {s : State} (h : s.clear.driver = true) : s.StopHeld := ⟨fun _ => h, fun _ => h⟩

theorem State.StopHeld.recompute {s : State} (h : s.StopHeld) : s.recompute.StopHeld := by
  obtain ⟨houtside, hmet⟩ := h
  cases hrun : s.running with
  | false => rw [s.recompute_outside hrun]; exact ⟨houtside, hmet⟩
  | true =>
    refine ⟨fun hr => by simp [hrun] at hr, fun hs => ?_⟩
    rw [s.recompute_clear hrun] at hs ⊢
    exact Clearance.drive_driver hmet hs

theorem State.StopHeld.stopHoldExpiry {s : State} (h : s.StopHeld) : s.stopHoldExpiry.StopHeld := by
  obtain ⟨houtside, hmet⟩ := h
  unfold State.stopHoldExpiry
  split
  next hrun =>
    split
    next hfree =>
      simp only [Bool.and_eq_true, Bool.not_eq_true'] at hrun hfree
      refine ⟨fun hr => by simp [hrun.1] at hr, fun hs => ?_⟩
      rw [State.judgeVerdict_clear] at hs
      simp [hfree.2] at hs
    · exact ⟨houtside, hmet⟩
  · exact ⟨houtside, hmet⟩

theorem stopHeld_stepKept : StepKept State.StopHeld where
  reads s t _ hc hn _ h := by rwa [State.StopHeld, State.running, hn, hc]
  count _ _ _ h := h
  countAny _ _ h := h
  enqueue s p u h := by simpa [State.StopHeld] using h
  handling _ _ _ h := h
  recompute _ h := h.recompute
  line _ _ _ _ _ h := h
  putOnLine _ _ _ _ h := h
  returnEntry s e h := by simpa [State.StopHeld, State.running] using h
  handle _ _ _ _ h := h
  release _ h := h
  wait _ _ _ _ h := h
  stopHoldExpiry _ h := h.stopHoldExpiry
  stopLine _ _ h := h
  hardReset _ _ := State.stopHeld_of_asserted rfl
  enterStep s k hr h := State.stopHeld_of_asserted (by simpa using h.1 hr)
  enterFault s c _ := State.stopHeld_of_asserted (by simp [State.enterFault_eq, State.faulted, Clearance.reset])
  enterAwait s hr h := State.stopHeld_of_asserted (by simpa using h.1 hr)
  enterRun s v _ := by
    rw [State.enterRun_eq_recompute]
    exact (State.stopHeld_of_asserted (s.runEntered_clear_driver v)).recompute
  rejoin s _ := State.stopHeld_of_asserted (by simp [State.rejoin_eq, State.rejoined, Clearance.reset])
  tick _ h := h

/-- Settles O4: the driver is given up only where the own stop condition is judged not to be met, in RUN. -/
theorem stepKeepsStopAsserted : Obligations.StepKeepsStopAsserted :=
  fun _ _ hs hstep => stopHeld_stepKept.step hs hstep

/-! ### The setup values and the clear distances -/

theorem leastGap_le (gaps : List Nat) : leastGap gaps ≤ clearCeiling := by
  unfold leastGap
  generalize clearCeiling = top
  induction gaps generalizing top with
  | nil => exact le_rfl
  | cons g gaps ih => exact (ih _).trans (min_le_left _ _)

/-- Setup values in RUN, and the clear distances in scale. -/
def State.SetAndScaled (s : State) : Prop := s.SetUp ∧ s.clear.InScale

theorem State.SetAndScaled.recompute {s : State} (h : s.SetAndScaled) : s.recompute.SetAndScaled := by
  obtain ⟨hset, hscale⟩ := h
  refine ⟨by simpa [State.SetUp] using hset, ?_⟩
  cases hrun : s.running with
  | false => rwa [s.recompute_outside hrun]
  | true =>
    refine ⟨?_, ?_⟩
    · rw [s.recompute_clear_ahead hrun]
      exact leastGap_le _
    · rw [s.recompute_clear_behind hrun]
      exact leastGap_le _

theorem State.SetAndScaled.stopHoldExpiry {s : State} (h : s.SetAndScaled) : s.stopHoldExpiry.SetAndScaled := by
  obtain ⟨hset, hscale⟩ := h
  unfold State.stopHoldExpiry
  split
  · split
    · refine ⟨by simpa [State.SetUp] using hset, ?_⟩
      rw [State.judgeVerdict_clear]
      exact hscale
    · exact ⟨hset, hscale⟩
  · exact ⟨hset, hscale⟩

theorem setAndScaled_of_not_running {s : State} (hr : s.running = false) (hc : s.clear.InScale) : s.SetAndScaled :=
  ⟨fun h => by simp [hr] at h, hc⟩

theorem Clearance.reset_inScale : Clearance.reset.InScale := ⟨le_rfl, le_rfl⟩

theorem setAndScaled_stepKept : StepKept State.SetAndScaled where
  reads s t _ hc hn hs h := by rwa [State.SetAndScaled, State.SetUp, State.running, hn, hs, hc]
  count _ _ _ h := h
  countAny _ _ h := h
  enqueue s p u h := by simpa [State.SetAndScaled, State.SetUp] using h
  handling _ _ _ h := h
  recompute _ h := h.recompute
  line _ _ _ _ _ h := h
  putOnLine _ _ _ _ h := h
  returnEntry s e h := by simpa [State.SetAndScaled, State.SetUp, State.running] using h
  handle _ _ _ _ h := h
  release _ h := h
  wait _ _ _ _ h := h
  stopHoldExpiry _ h := h.stopHoldExpiry
  stopLine _ _ h := h
  hardReset _ _ := setAndScaled_of_not_running rfl Clearance.reset_inScale
  enterStep s k _ h := setAndScaled_of_not_running (by simp [State.enterStep, State.formBoot, State.running])
    (by simpa using h.2)
  enterFault s c _ := setAndScaled_of_not_running
    (by simp [State.enterFault_eq, State.faulted, State.formPendingBoot, State.formBoot, State.running])
    (by simp [State.enterFault_eq, State.faulted, Clearance.reset_inScale])
  enterAwait s _ h := setAndScaled_of_not_running
    (by simp [State.enterAwait, State.formPendingBoot, State.formBoot, State.running]) (by simpa using h.2)
  enterRun s v h := by
    rw [State.enterRun_eq_recompute]
    refine State.SetAndScaled.recompute ⟨fun _ => by simp, ?_⟩
    simpa [State.runEntered, State.clearEnterRun, Clearance.InScale] using h.2
  rejoin s _ := setAndScaled_of_not_running
    (by simp [State.rejoin_eq, State.rejoined, State.formPendingBoot, State.formBoot, State.running,
      Startup.beginGroup, Startup.rejoin])
    (by simp [State.rejoin_eq, State.rejoined, Clearance.reset_inScale])
  tick _ h := h

/-- Settles O12: RUN is entered with setup values and left without, and a recompute limits the distances to 2047. -/
theorem stepKeepsSetupAndScale : Obligations.StepKeepsSetupAndScale :=
  fun _ _ hset hscale hstep => setAndScaled_stepKept.step (⟨hset, hscale⟩ : State.SetAndScaled _) hstep

end Sys2Proof.Machine
end

section
/-! PROOFS. The Odometry Unit through each of its changes, and the invariant of its history ring (R36, R40, R42). -/

namespace Sys2Proof.Machine

open Sys2Proof

/-! ### The ring -/

theorem deltaEntry_fromTag (v : SetupValues) (f t : Seq) (dl dr : Int) : (deltaEntry v f t dl dr).1.fromTag = f := by
  unfold deltaEntry; dsimp only; (repeat' split) <;> rfl

theorem deltaEntry_toTag (v : SetupValues) (f t : Seq) (dl dr : Int) : (deltaEntry v f t dl dr).1.toTag = t := by
  unfold deltaEntry; dsimp only; (repeat' split) <;> rfl

theorem ringAppend_length_le {ring : List RingEntry} (h : ring.length ≤ ringSize) (e : RingEntry) :
    (ringAppend ring e).length ≤ ringSize := by
  unfold ringAppend
  split
  next hroom => simpa using hroom
  · simp only [List.length_append, List.length_drop, List.length_singleton]
    have : 0 < ringSize := by decide
    omega

/-- An entry that starts where the newest one ends keeps the ring chained (R40). -/
theorem ringAppend_chained {ring : List RingEntry} (h : chained ring) (e : RingEntry)
    (hlast : ∀ x ∈ ring.getLast?, x.toTag = e.fromTag) : chained (ringAppend ring e) := by
  have happend {l : List RingEntry} (hl : chained l) (hlast : ∀ x ∈ l.getLast?, x.toTag = e.fromTag) :
      chained (l ++ [e]) :=
    List.isChain_append.mpr ⟨hl, List.isChain_singleton e, fun x hx y hy => by
      rw [Option.mem_some.mp hy.symm]; exact hlast x hx⟩
  unfold ringAppend
  split
  · exact happend h hlast
  · refine happend (h.drop 1) fun x hx => hlast x ?_
    rw [List.getLast?_drop] at hx
    split at hx
    · simp at hx
    · exact hx

theorem ringAppend_getLast? (ring : List RingEntry) (e : RingEntry) : (ringAppend ring e).getLast? = some e := by
  unfold ringAppend; exact List.getLast?_concat

/-! ### The Odometry Unit -/

theorem Odometry.RingOk.congr {o p : Odometry} (h : o.RingOk) (hstate : p.state = o.state)
    (hbase : p.baseline = o.baseline) (htag : p.tag = o.tag) (hring : p.ring = o.ring) (hds : p.lastDs = o.lastDs) :
    p.RingOk := by
  rwa [Odometry.RingOk, hstate, hbase, htag, hring, hds]

/-- LOST empties the ring (R42). -/
theorem Odometry.ringOk_of_lost {o : Odometry} (hstate : o.state = .lost) (hbase : o.baseline = none)
    (htag : o.tag = none) (hring : o.ring = []) (hds : o.lastDs = 0) : o.RingOk :=
  ⟨by simp [hring], by simp [chained, hring], by simp [hring], fun _ => ⟨hbase, htag, hring, hds⟩,
    fun h => absurd hstate h⟩

theorem Odometry.lose_ringOk (o : Odometry) : o.lose.RingOk := Odometry.ringOk_of_lost rfl rfl rfl rfl rfl

/-- A new baseline empties the ring (R36). -/
theorem Odometry.rebase_ringOk (o : Odometry) (q : Seq) (l r : Half) : (o.rebase q l r).RingOk :=
  ⟨Nat.zero_le _, List.isChain_nil, by simp [Odometry.rebase], by simp [Odometry.rebase], by simp [Odometry.rebase]⟩

/-- An applied frame sets a baseline or appends its entry (R36, R40). -/
theorem Odometry.RingOk.apply {o : Odometry} (h : o.RingOk) (v : SetupValues) (q : Seq) (l r : Half) :
    (o.apply v q l r).RingOk := by
  obtain ⟨hlen, hchain, hlast, -, -⟩ := h
  unfold Odometry.apply
  split
  · exact o.rebase_ringOk q l r
  next lp rp tag hbase htag hnot =>
    split
    · exact o.rebase_ringOk q l r
    · refine ⟨ringAppend_length_le hlen _, ringAppend_chained hchain _ fun x hx => ?_, ?_, by simp, by simp⟩
      · have hx := hlast x hx
        rw [htag, Option.some.injEq] at hx
        rw [deltaEntry_fromTag, hx]
      · simp [ringAppend_getLast?, deltaEntry_toTag]
  · exact o.rebase_ringOk q l r

/-! ### The notice of an accepted frame -/

/-- A frame from the source of another head role, or a boot status frame from it, makes the unit LOST (R42). -/
def State.loseSource (s : State) (h : Head) (isBoot : Bool) : State :=
  if s.odo.source = some h.src then
    if h.role ≠ .wheel then s.setOdo (s.odo.giveUp s.peers) else if isBoot then s.setOdo s.odo.lose else s
  else s

/-- An absent source becomes the station of a frame of head role WHEEL (R34). -/
def State.adoptSource (s : State) (h : Head) : State :=
  if s.odo.source = none ∧ h.role = .wheel then s.setOdo { s.odo with source := some h.src } else s

section
variable (s : State) (h : Head) (b : Bool)

theorem State.odoNotice_outside (hr : s.running = false) : s.odoNotice h b = s := by simp [State.odoNotice, hr]

theorem State.odoNotice_in_run (hr : s.running = true) : s.odoNotice h b = (s.loseSource h b).adoptSource h := by
  unfold State.odoNotice
  rw [if_neg (by simp [hr])]
  rfl

end

/-! ### The operations on the Odometry Unit -/

section
variable {s : State} (h : s.odo.RingOk)
include h

theorem State.takeOdometry_ringOk (src : Pos) (q : Seq) (l r : Half) (b : Bool) :
    (s.takeOdometry src q l r b).odo.RingOk := by
  unfold State.takeOdometry
  split
  · have happlied := h.apply s.setup q l r
    cases b <;> simpa using happlied
  · rw [State.handing_odo]
    exact h.congr rfl rfl rfl rfl rfl

theorem State.odometryBlock_ringOk (hd : Head) (d : OdometryData) : (s.odometryBlock hd d).odo.RingOk := by
  unfold State.odometryBlock; split
  · exact State.takeOdometry_ringOk h _ _ _ _ _
  · exact h

theorem State.ownOdometry_ringOk (q : Seq) (d : OdometryData) : (s.ownOdometry q d).odo.RingOk := by
  unfold State.ownOdometry
  dsimp only
  split
  · refine State.takeOdometry_ringOk ?_ _ _ _ _ _
    exact h
  · exact h

theorem State.ownCompletion_ringOk (e : TxEntry) : (s.ownCompletion e).odo.RingOk := by
  unfold State.ownCompletion
  split
  · exact State.ownOdometry_ringOk h _ _
  · exact h

theorem State.loseSource_ringOk (hd : Head) (b : Bool) : (s.loseSource hd b).odo.RingOk := by
  unfold State.loseSource
  split
  · split
    · exact Odometry.ringOk_of_lost rfl rfl rfl rfl rfl
    · split
      · exact s.odo.lose_ringOk
      · exact h
  · exact h

theorem State.adoptSource_ringOk (hd : Head) : (s.adoptSource hd).odo.RingOk := by
  unfold State.adoptSource
  split
  · exact h.congr rfl rfl rfl rfl rfl
  · exact h

theorem State.odoNotice_ringOk (hd : Head) (b : Bool) : (s.odoNotice hd b).odo.RingOk := by
  cases hrun : s.running with
  | false => rwa [s.odoNotice_outside hd b hrun]
  | true =>
    rw [s.odoNotice_in_run hd b hrun]
    exact State.adoptSource_ringOk (State.loseSource_ringOk h hd b) hd

theorem State.peerLost_ringOk (p : Pos) : (s.peerLost p).odo.RingOk := by
  unfold State.peerLost
  dsimp only
  split
  · simp only [State.kick_odo, State.reportLostNotice_odo, State.handing_odo]
    unfold State.odoLostNotice
    split
    · exact Odometry.ringOk_of_lost rfl rfl rfl rfl rfl
    · simpa using h
  · exact h

omit h in
theorem State.enterFault_ringOk (c : FaultCause) : (s.enterFault c).odo.RingOk := by
  rw [State.enterFault_eq, State.formPendingBoot_odo]
  exact Odometry.ringOk_of_lost rfl rfl rfl rfl rfl

omit h in
theorem State.rejoin_ringOk : s.rejoin.odo.RingOk := by
  rw [State.rejoin_eq, State.setStartup_odo, State.formPendingBoot_odo]
  exact Odometry.ringOk_of_lost rfl rfl rfl rfl rfl

omit h in
theorem State.enterRun_ringOk (v : SetupValues) : (s.enterRun v).odo.RingOk := by
  simp only [State.enterRun_eq, State.recompute_odo, State.clearEnterRun_odo, State.encoderEnterRun_odo,
    State.runBlocks, State.channelsEnterRun_odo, State.setLink_odo, State.setBeacon_odo, State.setReport_odo,
    State.setTable_odo]
  exact Odometry.ringOk_of_lost rfl rfl rfl rfl rfl

theorem State.tableSlotTest_ringOk (g : BitVec 24) : (s.tableSlotTest g).odo.RingOk := by
  unfold State.tableSlotTest
  split
  · dsimp only
    split
    · simpa using h
    · exact State.enterFault_ringOk _
  · exact h

theorem State.crcSelfTest_ringOk (r : Half) : (s.crcSelfTest r).odo.RingOk := by
  unfold State.crcSelfTest
  split
  · split
    · simpa using h
    · exact State.enterFault_ringOk _
  · exact h

theorem State.loopbackTimeout_ringOk : s.loopbackTimeout.odo.RingOk := by
  unfold State.loopbackTimeout; split
  · exact State.enterFault_ringOk _
  · exact h

theorem State.floorEmitterTest_ringOk (d : Drive) : (s.floorEmitterTest d).odo.RingOk := by
  unfold State.floorEmitterTest
  split
  · dsimp only
    split
    · simpa using h
    · exact State.enterFault_ringOk _
  · exact h

theorem State.reportLoopback_ringOk (e : TxEntry) (c : Bool) : (s.reportLoopback e c).odo.RingOk := by
  unfold State.reportLoopback State.loopbackResult
  split
  · split
    · split
      · simpa using h
      · exact State.enterFault_ringOk _
    · exact h
  · exact h

theorem State.txMismatch_ringOk : s.txMismatch.odo.RingOk := by
  unfold State.txMismatch
  split
  · dsimp only
    split
    · unfold State.afterStopped
      split
      · exact State.reportLoopback_ringOk (by simpa using h) _ _
      · simpa using h
    · simpa using h
  · exact h

theorem State.txComplete_ringOk : s.txComplete.odo.RingOk := by
  unfold State.txComplete
  split
  · exact State.ownCompletion_ringOk (State.reportLoopback_ringOk (by simpa using h) _ _) _
  · exact h

theorem State.setupBlock_ringOk (hd : Head) (d : SetupData) : (s.setupBlock hd d).odo.RingOk := by
  unfold State.setupBlock
  split
  · exact h
  · split
    · exact h
    · unfold State.trySetup
      split
      · exact State.enterRun_ringOk _
      · exact h

theorem State.rejoinBlock_ringOk (hd : Head) (d : Pos) : (s.rejoinBlock hd d).odo.RingOk := by
  unfold State.rejoinBlock
  split
  · exact h
  · split
    · exact h
    · split
      · exact State.rejoin_ringOk
      · exact h

theorem State.kindBlock_ringOk (f : Frame) : (s.kindBlock f).odo.RingOk := by
  unfold State.kindBlock
  split
  · exact State.odometryBlock_ringOk h _ _
  · simpa using h
  · exact h
  · simpa using h
  · simpa using h
  · exact h
  · exact h
  · exact State.setupBlock_ringOk h _ _
  · simpa using h
  · exact State.rejoinBlock_ringOk h _ _

theorem State.handFrame_ringOk (f : Frame) : (s.handFrame f).odo.RingOk := by
  unfold State.handFrame
  split
  · simpa using h
  · unfold State.acceptFrame
    refine State.kindBlock_ringOk ?_ f
    rw [State.handing_odo]
    exact State.odoNotice_ringOk (by simpa using h) _ _

theorem State.handOn_ringOk (rx : List Frame) : (s.handOn rx).odo.RingOk := by
  induction rx generalizing s with
  | nil => exact h
  | cons f rest ih =>
    rw [State.handOn]
    split
    · exact ih (by simpa using h)
    · exact State.handFrame_ringOk (by simpa using h) f

theorem State.bufferFrame_ringOk (f : Frame) : (s.bufferFrame f).odo.RingOk := by
  unfold State.bufferFrame
  split
  · exact h
  · split
    · exact State.handOn_ringOk h _
    · exact h

theorem State.receiveFrame_ringOk (f : Frame) : (s.receiveFrame f).odo.RingOk := by
  unfold State.receiveFrame
  dsimp only
  split
  · simpa using h
  · split
    · exact State.bufferFrame_ringOk (by simpa using h) f
    · simpa using h

theorem State.rxFrameRejected_ringOk (bytes : List Byte) : (s.rxFrameRejected bytes).odo.RingOk := by
  unfold State.rxFrameRejected
  dsimp only
  split
  · simpa using h
  · split
    · simpa using h
    · simpa using h
    · exact State.bufferFrame_ringOk (by simpa using h) _

theorem State.frameHandlingEnd_ringOk : s.frameHandlingEnd.odo.RingOk := by
  unfold State.frameHandlingEnd; split
  · exact State.handOn_ringOk h _
  · exact h

theorem State.stalledTimerExpiry_ringOk : s.stalledTimerExpiry.odo.RingOk := by
  unfold State.stalledTimerExpiry
  split
  next hon =>
    obtain ⟨hlen, hchain, hlast, -, hheld⟩ := h
    have htracking : s.odo.state = .tracking := by simp_all
    rw [State.notify_odo]
    exact ⟨hlen, hchain, hlast, by simp, fun _ => hheld (by simp [htracking])⟩
  · exact h

theorem State.odoClashHoldExpiry_ringOk : s.odoClashHoldExpiry.odo.RingOk := by
  unfold State.odoClashHoldExpiry
  split
  · rw [State.notify_odo]
    exact h.congr rfl rfl rfl rfl rfl
  · exact h

/-- Every command keeps the ring chained up to the odometry tag; most do not touch the Odometry Unit. -/
theorem exec_ringOk {c : Instr} {t : State} (hc : exec c s = .next t) : t.odo.RingOk := by
  cases c <;> obtain rfl := Host.Outcome.next.inj hc
  case hardReset => exact Odometry.ringOk_of_lost rfl rfl rfl rfl rfl
  case tableSlotTest => exact State.tableSlotTest_ringOk h _
  case crcSelfTest => exact State.crcSelfTest_ringOk h _
  case linkLoopbackTimeout => exact State.loopbackTimeout_ringOk h
  case floorEmitterTest => exact State.floorEmitterTest_ringOk h _
  case stalledTimerExpiry => exact State.stalledTimerExpiry_ringOk h
  case odoRoleClashHoldExpiry => exact State.odoClashHoldExpiry_ringOk h
  case rxFrameRejected => exact State.rxFrameRejected_ringOk h _
  case frameHandlingEnd => exact State.frameHandlingEnd_ringOk h
  case txMismatch => exact State.txMismatch_ringOk h
  case txComplete => exact State.txComplete_ringOk h
  case peerLost => exact State.peerLost_ringOk h _
  case setupPart | rejoinOrder | modeOrder | odometryFrame | checkAnswer | checkRequest | hazardReport | bootStatus |
      verdict | healthReport => exact State.receiveFrame_ringOk h _
  all_goals simpa using h

end

/-- Settles O7: the ring is emptied with its tag, or an entry joins that starts at the tag and moves it. -/
theorem stepKeepsOdometryRing : Obligations.StepKeepsOdometryRing :=
  fun _ _ hs hstep => step_keeps (P := fun s => s.odo.RingOk) (fun _ _ h => h) (fun _ _ h => h)
    (fun _ h => h.congr rfl rfl rfl rfl rfl) (fun _ _ _ h hc => exec_ringOk h hc) hs hstep

end Sys2Proof.Machine
end

section
/-! PROOFS. The queue of commands, the values after a hard reset, and the Start-up Controller's way through self-test:
the straps, the steps that pass, the failures that are fatal, the boot timer and the LED. -/

namespace Sys2Proof.Machine

open Sys2Proof

/-! ### The queue of commands -/

/-- Settles O1: it is the definition of a step. -/
theorem stepRunsFrontCommand : Obligations.StepRunsFrontCommand := by
  intro c rest s h
  rw [step, h]

/-- Settles O3: every arm of `exec` is a next state, and no block's work touches the queue of commands. -/
theorem everyCommandKeepsTheQueue : Obligations.EveryCommandKeepsTheQueue := by
  intro c s
  cases c with
  | hardReset => exact ⟨_, rfl, rfl⟩
  | _ => exact ⟨_, rfl, by simp⟩

/-! ### Resets -/

/-- Settles O13: every block is empty, and the node is not in RUN. -/
theorem resetMeetsTheInvariants : Obligations.ResetMeetsTheInvariants := by
  have hrun : State.reset.running = false := rfl
  refine ⟨⟨fun _ => rfl, fun _ => rfl⟩, ⟨by decide, by decide, by decide, List.Pairwise.nil⟩, ⟨by decide, by decide⟩,
    Odometry.ringOk_of_lost rfl rfl rfl rfl rfl, ?_, ?_, fun h => absurd h (by simp [hrun]), ⟨le_rfl, le_rfl⟩⟩
  · exact ⟨⟨by decide, by simp [State.reset, TableManager.reset], trivial⟩, ⟨List.nodup_nil, by decide⟩, List.Pairwise.nil, by simp [State.reset,
      TableManager.reset], List.nodup_nil, fun _ => ⟨rfl, rfl, rfl⟩⟩
  · exact ⟨fun _ => ⟨rfl, rfl, rfl, rfl, rfl, rfl⟩, by decide, by decide, rfl, fun _ => rfl⟩

/-- Settles O16: the state of HARD_RESET is written out in the model. -/
theorem hardResetValues : Obligations.HardResetValues := by
  intro s
  refine ⟨s.hardReset, rfl, rfl, rfl, rfl, rfl, rfl, rfl, rfl, rfl, rfl, rfl, rfl, rfl, rfl, rfl, rfl, rfl, rfl, rfl,
    rfl, rfl, rfl, rfl, rfl, rfl, rfl, rfl, rfl, rfl, rfl, rfl, rfl, rfl, rfl, rfl, rfl, rfl, fun p => ?_, rfl, rfl, rfl,
    rfl, rfl, rfl, rfl, fun b hb => ?_⟩
  · simp [State.hardReset, State.reset, PeerMonitor.reset, PeerEntry.reset]
  · cases b <;> simp [Block.same, State.hardReset] at hb ⊢

/-! ### Boot status frames -/

@[simp] theorem State.bootFrame_isVerdict (s : State) (c : ProgressCode) : (s.bootFrame c).isVerdict = false := rfl

@[simp] theorem State.bootFrame_isOdometry (s : State) (c : ProgressCode) : (s.bootFrame c).isOdometry = false := rfl

theorem placeNew_routine {q : List TxEntry} {e : TxEntry} (h : e.urgent = false) : placeNew q e = q ++ [e] := by
  simp [placeNew, h]

/-- A boot status frame formed at a queue with room stands behind all that waits (R170, R185). -/
theorem State.formBoot_of_room (s : State) (c : ProgressCode) (hroom : s.link.queue.length < txQueueSize) :
    s.formBoot c = (s.setStartup { s.startup with code := some c }).setLink { s.link with
      queue := s.link.queue ++ [newEntry (s.bootFrame c) false s.link.nextOrder]
      nextOrder := s.link.nextOrder + 1 } := by
  rw [State.formBoot, State.enqueue_of_room _ _ _ (queuedLike_eq_none _ _ rfl rfl) (by simpa using hroom),
    placeNew_routine rfl]
  rfl

/-- The code 2 or code 15 frame formed at a queue with room is the pending one (R185). -/
theorem State.formPendingBoot_of_room (s : State) (c : ProgressCode) (hroom : s.link.queue.length < txQueueSize) :
    s.formPendingBoot c =
      (s.setStartup { s.startup with bootPending := some s.link.nextOrder, code := some c }).setLink { s.link with
        queue := s.link.queue ++ [newEntry (s.bootFrame c) false s.link.nextOrder]
        nextOrder := s.link.nextOrder + 1 } := by
  rw [State.formPendingBoot, State.formBoot_of_room _ _ (by simpa using hroom)]
  rfl

/-- A queue grown by a boot frame of a code has that frame queued. -/
theorem BootQueued.of_queue {s t : State} {u : State} {c : ProgressCode}
    (h : t.link.queue = s.link.queue ++ [newEntry (u.bootFrame c) false s.link.nextOrder]) : BootQueued c s t :=
  ⟨_, rfl, h⟩

/-! ### Straps and self-test -/

/-- A step of self-test begun at a queue with room (R182, R183). -/
theorem State.enterStep_of_room (s : State) (k : TestStep) (hroom : s.link.queue.length < txQueueSize) :
    s.enterStep k = (s.setStartup { s.startup with
      node := .selfTest, step := some k, loopTimer := if k = .s5 then some loopbackTime else none
      code := some (stepCode k) }).setLink { s.link with
        queue := s.link.queue ++ [newEntry (s.bootFrame (stepCode k)) false s.link.nextOrder]
        nextOrder := s.link.nextOrder + 1 } := by
  rw [State.enterStep, State.formBoot_of_room _ _ (by simpa using hroom)]
  rfl

/-- AWAIT-SETUP entered from self-test at a queue with room (R184, R185). -/
theorem State.enterAwait_of_room (s : State) (hroom : s.link.queue.length < txQueueSize) :
    s.enterAwait = (s.setStartup { s.startup with
      node := .awaitSetup, step := none, bootTimer := some bootTimeAwait, bootPending := some s.link.nextOrder
      code := some .c2 }).setLink { s.link with
        queue := s.link.queue ++ [newEntry (s.bootFrame .c2) false s.link.nextOrder]
        nextOrder := s.link.nextOrder + 1 } := by
  rw [State.enterAwait, State.formPendingBoot_of_room _ _ (by simpa using hroom)]
  rfl

theorem State.inStep_iff (s : State) (k : TestStep) :
    s.inStep k = true ↔ s.startup.node = .selfTest ∧ s.startup.step = some k := by
  simp [State.inStep]

/-- Settles O17: step 7 begins with its boot frame, then the LED group. -/
theorem strapSampleEntersSelfTest : Obligations.StrapSampleEntersSelfTest := by
  intro s p2 p1 p0 role hnode hroom
  let u := s.setStartup { s.startup with pos := strapPos p2 p1 p0, role := if role then .sense else .wheel }
  have hu : s.strapSample p2 p1 p0 role = (u.enterStep .s7).setStartup (u.enterStep .s7).startup.beginGroup :=
    if_pos hnode
  rw [u.enterStep_of_room _ hroom] at hu
  refine ⟨_, congrArg Host.Outcome.next hu, rfl, rfl, ?_, rfl, rfl, rfl, rfl, BootQueued.of_queue rfl,
    fun b hb => ?_⟩
  · cases p2 <;> cases p1 <;> cases p0 <;> rfl
  · cases b <;> simp [Block.same, u] at hb ⊢

/-- Settles O18: each step that passes enters the next one, or AWAIT-SETUP, at a queue with room. -/
theorem selfTestStepsPass : Obligations.SelfTestStepsPass := by
  intro s hroom
  refine ⟨fun good hstep hgood => ?_, fun hstep => ?_, fun hstep => ?_, fun d hstep => ?_⟩
  · let u := (s.setTable { s.table with good := good }).setStartup { s.startup with usable := goodSlots good }
    have hu : s.tableSlotTest good = u.enterStep .s6 := by simp [State.tableSlotTest, hstep, hgood, u]
    rw [u.enterStep_of_room _ hroom] at hu
    refine ⟨_, congrArg Host.Outcome.next hu, rfl, rfl, rfl, rfl, BootQueued.of_queue rfl, fun b hb => ?_⟩
    cases b <;> simp [Block.same, u] at hb ⊢
  · have hu : s.crcSelfTest 0x29B1#16 = s.enterStep .s5 := by simp [State.crcSelfTest, hstep, crcCheckValue]
    rw [s.enterStep_of_room _ hroom] at hu
    refine ⟨_, congrArg Host.Outcome.next hu, rfl, rfl, rfl, BootQueued.of_queue rfl, fun b hb => ?_⟩
    cases b <;> simp [Block.same] at hb ⊢
  · let u := s.setStartup { s.startup with floorEmitter := .ok }
    have hu : s.floorEmitterTest .inBand = u.enterStep .s3 := by
      simp [State.floorEmitterTest, hstep, driveStatus, u]
    have hfemit : s.femit = true := by simp [State.femit, State.running_of_inStep hstep, hstep]
    rw [u.enterStep_of_room _ hroom] at hu
    refine ⟨_, congrArg Host.Outcome.next hu, rfl, rfl, rfl, BootQueued.of_queue rfl, hfemit, rfl, rfl,
      fun b hb => ?_⟩
    cases b <;> simp [Block.same, u] at hb ⊢
  · let u := (s.setStartup { s.startup with wallEmitter := driveStatus d }).setWall
      { s.wall with healthOk := d = .inBand }
    have hu : s.wallEmitterTest d = u.enterAwait := by simp [State.wallEmitterTest, hstep, u]
    rw [u.enterAwait_of_room hroom] at hu
    refine ⟨_, congrArg Host.Outcome.next hu, rfl, ?_, rfl, rfl, rfl, rfl, rfl, BootQueued.of_queue rfl, rfl,
      fun b hb => ?_⟩
    · cases d <;> rfl
    · cases b <;> simp [Block.same, u] at hb ⊢

/-! ### FAULT -/

/-- FAULT entry from a state with the queue of `s` (R190). -/
theorem faultEntered_enterFault {s u : State} (hq : u.link.queue = s.link.queue)
    (horder : u.link.nextOrder = s.link.nextOrder) (c : FaultCause) : FaultEntered c s (u.enterFault c) := by
  have hqueue : (u.faulted c).link.queue = s.link.queue.filter fun e => e.payload.isBoot := by
    simp [State.faulted, Link.faultEntry, hq]
  rw [u.enterFault_eq]
  refine ⟨?_, ?_, ?_, ?_, ?_, ?_, ?_, ?_, ?_, ?_, ?_, ?_, ?_, ?_, ?_, fun hroom => ?_⟩
  case refine_16 =>
    rw [← hqueue] at hroom
    rw [(u.faulted c).formPendingBoot_of_room _ hroom, ← hqueue, ← horder]
    exact ⟨rfl, _, rfl, rfl, rfl⟩
  all_goals simp [State.formPendingBoot, State.formBoot]
  all_goals rfl

/-- Settles O19: each fatal failure enters FAULT from a state whose link is as it was. -/
theorem selfTestFailuresEnterFault : Obligations.SelfTestFailuresEnterFault := by
  intro s
  refine ⟨fun good hstep hgood => ?_, fun result hstep hresult => ?_, fun hstep => ?_, fun d hstep hd => ?_⟩
  · refine ⟨_, congrArg Host.Outcome.next ?_, faultEntered_enterFault (u := (s.setTable { s.table with
      good := good }).setStartup { s.startup with usable := goodSlots good }) rfl rfl .slots⟩
    simp [State.tableSlotTest, hstep, Nat.not_le.mpr hgood]
  · refine ⟨_, congrArg Host.Outcome.next ?_, faultEntered_enterFault (u := s) rfl rfl .crc⟩
    simp [State.crcSelfTest, hstep, crcCheckValue, hresult]
  · refine ⟨_, congrArg Host.Outcome.next ?_, faultEntered_enterFault (u := s) rfl rfl .link⟩
    simp [State.loopbackTimeout, hstep]
  · refine ⟨_, congrArg Host.Outcome.next ?_, faultEntered_enterFault (u := s.setStartup { s.startup with
      floorEmitter := driveStatus d }) rfl rfl .floorEmitter, ?_, ?_⟩
    · simp [State.floorEmitterTest, hstep, hd]
    · rw [State.enterFault_eq]
      cases d with
      | inBand => exact absurd rfl hd
      | tooLittle => simp [State.formPendingBoot, State.formBoot, State.faulted, driveStatus]
      | tooMuch => simp [State.formPendingBoot, State.formBoot, State.faulted, driveStatus]
    · rw [State.enterFault_eq]
      simp [State.formPendingBoot, State.formBoot, State.faulted]

/-! ### The boot timer and the LED -/

/-- Settles O20: the frame is formed and pending unless one is, and `ledNext` goes from pattern to pattern. -/
theorem bootTimerAndLedPace : Obligations.BootTimerAndLedPace := by
  refine ⟨fun s code period htimer hnode => ?_, fun s => ?_⟩
  · let u := s.setStartup { s.startup with bootTimer := some period }
    have hu : s.bootTimerExpiry = if s.startup.bootPending.isNone then u.formPendingBoot code else u := by
      obtain ⟨hn, rfl, rfl⟩ | ⟨hn, rfl, rfl⟩ := hnode
      · simp [State.bootTimerExpiry, htimer, hn, u, bootTimeAwait, ms]
      · simp [State.bootTimerExpiry, htimer, hn, u, bootTimeFault, ms]
    refine ⟨fun hp hroom => ?_, fun hp => ?_⟩
    · rw [if_pos (by simp [hp]), u.formPendingBoot_of_room _ hroom] at hu
      refine ⟨_, congrArg Host.Outcome.next hu, rfl, rfl, rfl, BootQueued.of_queue rfl, fun b hb => ?_⟩
      cases b <;> simp [Block.same, u] at hb ⊢
    · rw [if_neg (by simpa using hp)] at hu
      refine ⟨_, congrArg Host.Outcome.next hu, rfl, fun b hb => ?_⟩
      cases b <;> simp [Block.same, u] at hb ⊢
  · refine ⟨s.ledFlash, rfl, fun b hb => ?_, ?_, fun n k h => ?_, fun n k h hk => ?_, fun n k h hk => ?_,
      fun c h hc => ?_, fun h => ?_, fun h => ?_⟩
    · cases b <;> simp [Block.same, State.ledFlash] at hb ⊢
    · show s.startup.ledNext = _
      unfold State.ledFlash Startup.ledNext Startup.beginGroup
      (repeat' split) <;> rfl
    · simp [State.ledFlash, Startup.ledNext, h, blinkHalf, ms]
    · simp [State.ledFlash, Startup.ledNext, h, hk, blinkHalf, ms]
    · simp [State.ledFlash, Startup.ledNext, h, Nat.not_lt.mpr hk, blinkGap, ms]
    · simp [State.ledFlash, Startup.ledNext, Startup.beginGroup, h, hc, blinkHalf, ms]
    · simp [State.ledFlash, Startup.ledNext, h, faultHalf, ms]
    · simp [State.ledFlash, Startup.ledNext, h, faultHalf, ms]

end Sys2Proof.Machine
end

section
/-! PROOFS. What handing a frame on may change (R168 to R172), and the frames of the Encoder Interface (R30) and of the
health counts (R177). -/

namespace Sys2Proof.Machine

open Sys2Proof

/-! ### What handing frames on changes -/

theorem SendsOnly.refl (s : State) : SendsOnly s s := ⟨rfl, rfl⟩

theorem SendsOnly.trans {s t u : State} (hst : SendsOnly s t) (htu : SendsOnly t u) : SendsOnly s u := by
  obtain ⟨hl, hs⟩ := hst
  obtain ⟨hl', hs'⟩ := htu
  refine ⟨?_, ?_⟩
  · conv_lhs => rw [hl', hl]
  · conv_lhs => rw [hs', hs]

/-- Only the link's queue and order, and nothing of the start-up, counts for what frames handed on change. -/
theorem SendsOnly.of_eq {s t u : State} (h : SendsOnly s t) (hl : u.link = t.link) (hs : u.startup = t.startup) :
    SendsOnly s u := by
  obtain ⟨hl', hs'⟩ := h
  refine ⟨?_, ?_⟩
  · rw [hl]; exact hl'
  · rw [hs]; exact hs'

theorem State.setQueue_sendsOnly (s : State) (q : List TxEntry) (n : Nat) :
    SendsOnly s (s.setLink { s.link with queue := q, nextOrder := n }) := ⟨rfl, rfl⟩

theorem State.bootEnded_sendsOnly (s : State) (e : TxEntry) : SendsOnly s (s.bootEnded e) := by
  unfold State.bootEnded
  split
  · exact ⟨rfl, rfl⟩
  · exact .refl s

theorem State.loseFrame_sendsOnly (s : State) (e : TxEntry) : SendsOnly s (s.loseFrame e) :=
  .trans (t := s.count .txFail) ⟨rfl, rfl⟩ (State.bootEnded_sendsOnly _ e)

theorem State.placeAtFull_sendsOnly (s : State) (e : TxEntry) : SendsOnly s (s.placeAtFull e) := by
  unfold State.placeAtFull
  split
  · split
    · exact (s.setQueue_sendsOnly _ s.link.nextOrder).trans (State.loseFrame_sendsOnly _ _)
    · exact s.loseFrame_sendsOnly e
  · exact s.loseFrame_sendsOnly e

theorem State.enqueue_sendsOnly (s : State) (p : Payload) (u : Bool) : SendsOnly s (s.enqueue p u) := by
  unfold State.enqueue
  dsimp only
  split
  · exact s.setQueue_sendsOnly _ s.link.nextOrder
  · split
    · exact s.setQueue_sendsOnly _ _
    · exact (s.setQueue_sendsOnly s.link.queue _).trans (State.placeAtFull_sendsOnly _ _)

theorem State.judgeVerdict_sendsOnly (s : State) : SendsOnly s s.judgeVerdict := by
  unfold State.judgeVerdict
  split
  · exact .refl s
  · exact .trans (t := s.setClear _) ⟨rfl, rfl⟩ (State.enqueue_sendsOnly _ _ _)

theorem State.recompute_sendsOnly (s : State) : SendsOnly s s.recompute := by
  unfold State.recompute
  split
  · exact .trans (t := s.reclear) ⟨rfl, rfl⟩ s.reclear.judgeVerdict_sendsOnly
  · exact .refl s

theorem State.notify_sendsOnly (s b : State) (w : Bool) : SendsOnly s (s.notify b w) := by
  unfold State.notify
  split
  · exact s.recompute_sendsOnly
  · exact .refl s

/-! ### Frames at a full queue -/

theorem State.bootEnded_of_not_boot (s : State) (e : TxEntry) (h : e.payload.isBoot = false) : s.bootEnded e = s := by
  simp [State.bootEnded, h]

/-- A frame that is no boot frame is lost with a count (R172). -/
theorem State.loseFrame_of_not_boot (s : State) (e : TxEntry) (h : e.payload.isBoot = false) :
    s.loseFrame e = s.count .txFail := State.bootEnded_of_not_boot _ _ h

theorem youngestRoutine_eq_none_iff (q : List TxEntry) : youngestRoutine q = none ↔ ∀ e ∈ q, e.urgent = true := by
  simp [youngestRoutine]

/-- A frame that may push none out is lost at a full queue (R172). -/
theorem State.placeAtFull_lost (s : State) (e : TxEntry) (h : e.urgent = false ∨ ∀ x ∈ s.link.queue, x.urgent = true) :
    s.placeAtFull e = s.loseFrame e := by
  unfold State.placeAtFull
  split
  next hu =>
    have hnone := (youngestRoutine_eq_none_iff s.link.queue).mpr (h.resolve_left (by simp [hu]))
    rw [hnone]
  next => rfl

/-- A frame that may push none out and takes no other's place comes to a full queue (R172). -/
theorem State.enqueue_at_full (s : State) (p : Payload) (u : Bool) (hlike : queuedLike s.link.queue p = none)
    (hfull : txQueueSize ≤ s.link.queue.length) (h : u = false ∨ ∀ x ∈ s.link.queue, x.urgent = true) :
    s.enqueue p u = (s.setLink { s.link with nextOrder := s.link.nextOrder + 1 }).loseFrame
      (newEntry p u s.link.nextOrder) := by
  have hnew : ¬ (queuedLike s.link.queue p).isSome := by simp [hlike]
  rw [State.enqueue, if_neg hnew]
  exact (if_neg (Nat.not_lt.mpr hfull)).trans (State.placeAtFull_lost _ _ h)

/-- An urgent frame takes the place of the youngest routine one of a full queue (R172). -/
theorem State.mem_placeAtFull_of_routine (s : State) (e : TxEntry) (hu : e.urgent = true)
    (h : ∃ x ∈ s.link.queue, x.urgent = false) : e ∈ (s.placeAtFull e).link.queue := by
  unfold State.placeAtFull
  rw [if_pos hu]
  split
  next => simpa using mem_placeNew_self _ e
  next hnone =>
    obtain ⟨x, hx, hxu⟩ := h
    simp [(youngestRoutine_eq_none_iff _).mp hnone x hx] at hxu

/-! ### Frames of the coalescing kinds -/

theorem queuedLike_eq_none_iff (q : List TxEntry) (p : Payload) :
    queuedLike q p = none ↔ ∀ e ∈ q, e.payload.coalesces p = false := by
  simp [queuedLike]

/-- An entry of the same kind takes the new content, not yet sent, and stands as urgent (R171). -/
theorem mem_replaceQueued_of_like {q : List TxEntry} {p : Payload} (hp : p.coalesces p = true)
    (h : (queuedLike q p).isSome) :
    ∃ e ∈ replaceQueued q p true, e.payload = p ∧ e.urgent = true ∧ e.attempts = 0 ∧ e.seq = none ∧ e.crc = none := by
  obtain ⟨x, hx, hxp⟩ : ∃ x ∈ q, x.payload.coalesces p = true := by simpa [queuedLike] using h
  have hfresh : ∀ e ∈ replaceContent q p, e.payload.coalesces p = true →
      e.payload = p ∧ e.attempts = 0 ∧ e.seq = none ∧ e.crc = none := by
    intro e he hep
    obtain ⟨y, -, rfl⟩ := List.mem_map.mp he
    by_cases hy : y.payload.coalesces p = true
    · simp [hy]
    · simp [hy] at hep
  have hmem : { x with payload := p, seq := none, crc := none, attempts := 0 } ∈ replaceContent q p :=
    List.mem_map.mpr ⟨x, hx, by simp [hxp]⟩
  obtain ⟨f, hf⟩ : ∃ f, queuedLike (replaceContent q p) p = some f :=
    Option.isSome_iff_exists.mp (by simpa [queuedLike] using ⟨_, hmem, hp⟩)
  have hfp : f.payload.coalesces p = true := by simpa using List.find?_some hf
  obtain ⟨h1, h2, h3, h4⟩ := hfresh f (List.mem_of_find?_eq_some hf) hfp
  simp only [replaceQueued, if_true, raiseQueued, hf]
  split
  next hu => exact ⟨f, List.mem_of_find?_eq_some hf, h1, hu, h2, h3, h4⟩
  next => exact ⟨_, mem_placeNew_self _ _, h1, rfl, h2, h3, h4⟩

/-- An urgent frame waits in the queue, not yet sent, when it finds its like, room, or a routine entry (R170 to
R172). -/
theorem State.enqueue_urgent_queued (s : State) (p : Payload) (hp : (queuedLike s.link.queue p).isSome → p.coalesces p)
    (h : (queuedLike s.link.queue p).isSome ∨ s.link.queue.length < txQueueSize ∨
      ∃ e ∈ s.link.queue, e.urgent = false) : Queued p true (s.enqueue p true) := by
  by_cases hlike : (queuedLike s.link.queue p).isSome
  · rw [State.enqueue, if_pos hlike]
    exact mem_replaceQueued_of_like (hp hlike) hlike
  · by_cases hroom : s.link.queue.length < txQueueSize
    · rw [s.enqueue_of_room p true (by simpa using hlike) hroom]
      exact ⟨newEntry p true s.link.nextOrder, mem_placeNew_self _ _, rfl, rfl, rfl, rfl, rfl⟩
    · have hroutine := (h.resolve_left hlike).resolve_left hroom
      rw [State.enqueue, if_neg hlike]
      dsimp only
      rw [if_neg (by simpa using hroom)]
      exact ⟨newEntry p true s.link.nextOrder, State.mem_placeAtFull_of_routine _ _ rfl (by simpa using hroutine),
        rfl, rfl, rfl, rfl, rfl⟩

/-! ### Snapshots and health reports -/

/-- Settles O31: an odometry frame is urgent and takes the place of its like, so only a queue full of other urgent
frames loses it. -/
theorem snapshotsAreQueued : Obligations.SnapshotsAreQueued := by
  intro s hrun hrole htimer
  let p : Payload := .odometry { left := s.enc.left, right := s.enc.right, interval := 10, errors := s.enc.errors }
  let u := s.setEnc { s.enc with odoTimer := some odoPeriod }
  have hend : s.odoTimerExpiry = u.enqueue p true := by
    simp [State.odoTimerExpiry, State.encoding, hrun, hrole, htimer]
    rfl
  have hlike (e : TxEntry) : e.payload.coalesces p = e.payload.isOdometry := by
    simp [Payload.coalesces, p, Payload.isVerdict, Payload.isOdometry]
  refine ⟨_, congrArg Host.Outcome.next hend, by simp [u, odoPeriod, ms], fun b hb => ?_,
    .trans (t := u) ⟨rfl, rfl⟩ (u.enqueue_sendsOnly p true), fun h => ?_, fun hfull hother => ?_⟩
  · cases b <;> simp [Block.same, u] at hb ⊢
  · refine u.enqueue_urgent_queued p (fun _ => rfl) ?_
    obtain hroom | ⟨e, he, ho | hu⟩ := h
    · exact .inr (.inl hroom)
    · exact .inl (by simpa [queuedLike, u] using ⟨e, he, (hlike e).trans ho⟩)
    · exact .inr (.inr ⟨e, he, hu⟩)
  · have hnone : queuedLike u.link.queue p = none :=
      (queuedLike_eq_none_iff _ _).mpr fun e he => (hlike e).trans (hother e he).1
    rw [u.enqueue_at_full p true hnone hfull (.inr fun e he => (hother e he).2), State.loseFrame_of_not_boot _ _ rfl]
    exact ⟨rfl, rfl⟩

/-- A health report that finds room takes the counts with it (R177). -/
theorem State.sendHealth_of_room (s : State) (hroom : s.link.queue.length < txQueueSize) :
    s.sendHealth = s.setLink { s.link with
      queue := s.link.queue ++ [newEntry (.health s.link.counts) false s.link.nextOrder]
      nextOrder := s.link.nextOrder + 1, counts := Counts.zero } := by
  rw [State.sendHealth, if_pos hroom, s.enqueue_of_room _ _ (queuedLike_eq_none _ _ rfl rfl) hroom,
    placeNew_routine rfl]
  rfl

/-- A health report at a full queue is lost with a count (R177). -/
theorem State.sendHealth_at_full (s : State) (hfull : ¬ s.link.queue.length < txQueueSize) :
    s.sendHealth = (s.setLink { s.link with nextOrder := s.link.nextOrder + 1 }).count .txFail := by
  rw [State.sendHealth, if_neg hfull,
    s.enqueue_at_full _ _ (queuedLike_eq_none _ _ rfl rfl) (Nat.le_of_not_lt hfull) (.inl rfl),
    State.loseFrame_of_not_boot _ _ rfl]

/-- Settles O56: the report stands at the end of a queue with room, and is lost with a count at a full one. -/
theorem healthReportsTakeTheCounts : Obligations.HealthReportsTakeTheCounts := by
  intro s hrun htimer
  let u := s.setLink { s.link with healthTimer := some healthTime }
  have hend : s.healthTimerExpiry = u.sendHealth := by simp [State.healthTimerExpiry, hrun, htimer, u]
  refine ⟨_, congrArg Host.Outcome.next hend, ?_⟩
  by_cases hroom : u.link.queue.length < txQueueSize
  · rw [u.sendHealth_of_room hroom]
    refine ⟨rfl, fun b hb => ?_, fun _ => ⟨rfl, rfl⟩, fun hfull => absurd hroom (Nat.not_lt.mpr hfull)⟩
    cases b <;> simp [Block.same, u] at hb ⊢
  · rw [u.sendHealth_at_full hroom]
    refine ⟨rfl, fun b hb => ?_, fun h => absurd h hroom, fun _ => ⟨rfl, rfl⟩⟩
    cases b <;> simp [Block.same, u] at hb ⊢

end Sys2Proof.Machine
end

section
/-! PROOFS. The line and the attempts (R161 to R169): what falls due on it, and what an attempt's start, its stop and its
clean end make of the entry. -/

namespace Sys2Proof.Machine

open Sys2Proof

/-! ### What falls due on the line -/

@[simp] theorem mem_dueIf (b : Bool) (c i : Instr) : c ∈ dueIf b i ↔ b = true ∧ c = i := by
  cases b <;> simp [dueIf]

/-- The commands that end a work of the Table Manager. -/
theorem Work.mem_endCommand {w : Work} {c : Instr} (h : c ∈ w.endCommand) :
    c ∈ [.serveOwnCliff, .serveFloorEvidence, .serveOwnObservation, .serveWallClear, .servePeerAdd, .servePeerUpdate,
      .servePeerWithdraw, .serveCheckOutcome, .serveLookup, .ageTicksApplied, .carryEnd] := by
  cases w with
  | idle => simp [Work.endCommand] at h
  | aging n => simp_all [Work.endCommand]
  | carrying c => simp_all [Work.endCommand]
  | serving i =>
    cases i with
    | own k _ _ _ _ => cases k <;> simp_all [Work.endCommand, Item.serveCommand, Hazard.isCliff, Hazard.isRug]
    | report r => simp only [Work.endCommand, Item.serveCommand] at h; cases hr : r.action <;> simp_all
    | _ => simp_all [Work.endCommand, Item.serveCommand]

theorem txAttemptStart_mem_due (s : State) : .txAttemptStart ∈ s.due ↔ s.accessReached = true := by
  have hwork : Instr.txAttemptStart ∉ s.table.work.endCommand := fun h => by simpa using Work.mem_endCommand h
  simp [State.due, State.dueStartup, State.dueChannels, State.dueTable, State.dueLink, State.duePeers, State.duePeer,
    hwork]
  split <;> (try split) <;> simp

theorem routineYieldExpiry_mem_due (s : State) : .routineYieldExpiry ∈ s.due ↔ s.yieldOver = true := by
  have hwork : Instr.routineYieldExpiry ∉ s.table.work.endCommand := fun h => by simpa using Work.mem_endCommand h
  simp [State.due, State.dueStartup, State.dueChannels, State.dueTable, State.dueLink, State.duePeers, State.duePeer,
    hwork]
  split <;> (try split) <;> simp

/-! ### Events of other stations' frames -/

/-- With no own attempt on the line, a frame's end frees it and ends the routine yield (R161, R165). -/
theorem State.lineFree_of_no_attempt (s : State) (hon : s.onLink = true) (hline : s.link.onLine = none) :
    s.lineFree = s.setLink { s.link with line := .idle 0, yield := false } := by
  simp [State.lineFree, Link.lineFree, hon, hline]

/-- Settles O52: each event acts on the line by its table row, and on the counts at a receiving station. -/
theorem lineEventsAreFollowed : Obligations.LineEventsAreFollowed := by
  intro s hon hline
  have hfree := s.lineFree_of_no_attempt hon hline
  refine ⟨⟨_, congrArg Host.Outcome.next hfree, rfl, fun b hb => ?_⟩, fun n hn => ?_, fun bytes => ?_, fun waited => ?_,
    ?_, fun hy hbusy => ?_⟩
  · cases b <;> simp [Block.same] at hb ⊢
  · refine ⟨_, rfl, fun b hb => ?_, fun hr => ?_, fun hr => ?_⟩
    · cases b <;> simp [Block.same] at hb ⊢
    · simp [State.rxLengthMalformed, hn, hr, hfree, State.count, Counts.inc]
    · simp [State.rxLengthMalformed, hn, hr, hfree]
  · refine ⟨_, rfl, fun hr hc => ⟨fun b hb => ?_, ?_⟩, fun hr hc => ⟨fun b hb => ?_, ?_⟩,
      fun hr => ⟨fun b hb => ?_, ?_⟩⟩
    · cases b <;> simp [Block.same, State.rxFrameRejected, hr, hc] at hb ⊢
    · simp [State.rxFrameRejected, hr, hc, hfree, State.count, Counts.inc]
    · cases b <;> simp [Block.same, State.rxFrameRejected, hr, hc] at hb ⊢
    · simp [State.rxFrameRejected, hr, hc, hfree, State.count, Counts.inc]
    · cases b <;> simp [Block.same, State.rxFrameRejected, hr] at hb ⊢
    · simp [State.rxFrameRejected, hr, hfree]
  · have hbit : s.startBit waited = s.setLink { s.link with line := s.link.line.zeroBit waited } := by
      simp [State.startBit, hon, hline]
    refine ⟨_, congrArg Host.Outcome.next hbit, fun b hb => ?_, rfl, fun h => ?_, fun h => ?_, fun n h => ?_⟩
    · cases b <;> simp [Block.same] at hb ⊢
    · simp [h, LineState.zeroBit]
    · exact congrArg (LineState.zeroBit · waited) h
    · exact congrArg (LineState.zeroBit · waited) h
  · rw [routineYieldExpiry_mem_due, State.yieldOver]
    cases h : s.link.line with
    | busy => simp
    | low => simp
    | idle n =>
      show (s.onLink && s.link.yield && decide (76 ≤ n)) = true ↔ _
      simp [hon]
  · refine ⟨s.setLink { s.link with yield := false }, congrArg Host.Outcome.next ?_, fun b hb => ?_, rfl⟩
    · simp [State.routineYieldExpiry, hon, hy, hbusy]
    · cases b <;> simp [Block.same] at hb ⊢

/-! ### An attempt's start -/

theorem frameBytes_length (f : Frame) : (frameBytes f).length = 3 + (payloadBytes f.payload).length + 2 := by
  simp [frameBytes, frameBody, headBytes, halfBytes]
  omega

/-- Settles O53: the access delay counts on the idle line and from the queue's last new start, and the head entry goes
on the line with its seq and CRC. -/
theorem attemptsStartWithTheHead : Obligations.AttemptsStartWithTheHead := by
  intro s e rest hon hline hbusy hqueue hsend
  have hmay : s.link.maySend e = true := by simpa [Link.maySend] using hsend
  refine ⟨?_, ?_⟩
  · rw [txAttemptStart_mem_due, State.accessReached]
    cases hl : s.link.line with
    | busy => exact absurd hl hbusy
    | low => simp
    | idle n =>
      simp only [hqueue, hon, hline, hmay, accessDelay, startIdle, positionStep, routineBase]
      simp
  · have hstart : s.txAttemptStart = s.putOnLine e rest := by
      simp [State.txAttemptStart, hqueue, hon, hline, hbusy, hmay]
    refine ⟨_, congrArg Host.Outcome.next hstart, ?_, fun b hb => ?_⟩
    · simp only [State.putOnLine, State.setLink_link, State.startedEntry, State.frameOf, Link.seqOf, frameTime,
        frameBytes_length]
      cases s.startup.role <;> simp [NodeRole.head]
    · cases b <;> simp [Block.same, State.putOnLine] at hb ⊢

end Sys2Proof.Machine
end

section
/-! PROOFS. The end of an attempt (R167 to R169): a stopped frame returns to the queue or ends its life, and a clean
completion is reported to the block the frame came from. -/

namespace Sys2Proof.Machine

open Sys2Proof

/-! ### The end of a frame -/

theorem State.bootEnded_startup (s : State) (e : TxEntry) : (s.bootEnded e).startup = { s.startup with
    bootPending := if e.payload.isBoot = true ∧ s.startup.bootPending = some e.order then none
      else s.startup.bootPending } := by
  unfold State.bootEnded
  split
  next h => simp_all
  next h => rw [if_neg (by simpa using h)]

theorem State.loseFrame_startup (s : State) (e : TxEntry) : (s.loseFrame e).startup = { s.startup with
    bootPending := if e.payload.isBoot = true ∧ s.startup.bootPending = some e.order then none
      else s.startup.bootPending } := State.bootEnded_startup _ _

theorem State.loseFrame_link (s : State) (e : TxEntry) :
    (s.loseFrame e).link = { s.link with counts := { s.link.counts with txFail := satInc s.link.counts.txFail } } := by
  unfold State.loseFrame
  rw [State.bootEnded_link]
  rfl

@[simp] theorem State.loseFrame_inStep (s : State) (e : TxEntry) (k : TestStep) : (s.loseFrame e).inStep k = s.inStep k := by
  simp [State.inStep]

@[simp] theorem State.bootEnded_inStep (s : State) (e : TxEntry) (k : TestStep) : (s.bootEnded e).inStep k = s.inStep k := by
  simp [State.inStep]

/-- The end of any frame but the code 5 frame in its step decides nothing (R183). -/
theorem State.reportLoopback_idle (s : State) (e : TxEntry) (clean : Bool)
    (h : ¬ (e.payload.isLoopback = true ∧ s.inStep .s5 = true)) : s.reportLoopback e clean = s := by
  unfold State.reportLoopback State.loopbackResult
  split
  next hl => rw [if_neg fun hs => h ⟨hl, hs⟩]
  next => rfl

/-- A frame lost to a full queue in which it is urgent and a routine entry stands at the end (R172). -/
theorem State.placeAtFull_pushOut (s : State) (e : TxEntry) (urgents routines : List TxEntry) (v : TxEntry)
    (hu : e.urgent = true) (hq : s.link.queue = urgents ++ routines ++ [v]) (hurg : ∀ x ∈ urgents, x.urgent = true)
    (hrout : ∀ x ∈ routines, x.urgent = false) (hv : v.urgent = false) (hne : ∀ x ∈ urgents ++ routines, x ≠ v) :
    s.placeAtFull e = (s.setLink { s.link with queue := urgents ++ e :: routines }).loseFrame v := by
  have hyoungest : youngestRoutine s.link.queue = some v := by
    have hurgents : urgents.filter (fun x => !x.urgent) = [] := by simpa using hurg
    have hroutines : routines.filter (fun x => !x.urgent) = routines := by simpa using hrout
    rw [youngestRoutine, hq, List.filter_append, List.filter_append, hurgents, hroutines]
    simp [hv]
  have hrest : s.link.queue.filter (fun x => x ≠ v) = urgents ++ routines := by
    rw [hq, List.filter_append, List.filter_eq_self.mpr (by simpa using hne)]
    simp
  have hplace : placeNew (urgents ++ routines) e = urgents ++ e :: routines := by
    have hhead (x : TxEntry) (hx : x ∈ routines.head?) : ¬ x.urgent = true := by
      simp [hrout x (List.mem_of_mem_head? hx)]
    rw [placeNew, if_pos hu, List.takeWhile_append_of_pos hurg, List.dropWhile_append_of_pos hurg,
      List.takeWhile_eq_nil_iff.mpr, List.dropWhile_eq_self_iff.mpr, List.append_nil]
    · exact fun h => hhead _ (List.head?_eq_getElem? ▸ by simp [h])
    · exact fun h => hhead _ (List.head?_eq_getElem? ▸ by simp [h])
  unfold State.placeAtFull
  rw [if_pos hu, hyoungest]
  dsimp only
  rw [hrest, hplace]

theorem State.placeAtFull_counts (s : State) (e : TxEntry) :
    (s.placeAtFull e).link.counts = { s.link.counts with txFail := satInc s.link.counts.txFail } := by
  unfold State.placeAtFull
  (repeat' split) <;> simp [State.loseFrame_link]

theorem State.returnEntry_sendsOnly (s : State) (e : TxEntry) : SendsOnly s (s.returnEntry e) := by
  unfold State.returnEntry
  split
  · exact s.setQueue_sendsOnly _ s.link.nextOrder
  · split
    · exact s.setQueue_sendsOnly _ s.link.nextOrder
    · exact s.placeAtFull_sendsOnly e

/-! ### An entry raised in its queue -/

/-- A queue holds one entry at most that a payload replaces (R170, R171). -/
theorem FewOfKind.coalescing {q : List TxEntry} (hq : FewOfKind q) (p : Payload) :
    (q.filter fun e => e.payload.coalesces p).length ≤ 1 := by
  obtain ⟨hv, ho⟩ := hq
  have hkind (k : Payload → Bool) (hk : ∀ x : Payload, x.coalesces p = k x)
      (h : (q.filter fun e => k e.payload).length ≤ 1) : (q.filter fun e => e.payload.coalesces p).length ≤ 1 := by
    simpa [hk] using h
  cases p with
  | verdict d => exact hkind Payload.isVerdict (by simp [Payload.coalesces, Payload.isVerdict, Payload.isOdometry]) hv
  | odometry d => exact hkind Payload.isOdometry (by simp [Payload.coalesces, Payload.isVerdict, Payload.isOdometry]) ho
  | _ => exact hkind (fun _ => false) (by simp [Payload.coalesces, Payload.isVerdict, Payload.isOdometry]) (by simp)

theorem length_raiseQueued {q : List TxEntry} (hq : FewOfKind q) (p : Payload) :
    (raiseQueued q p).length = q.length := by
  obtain h | ⟨e, he, hlike, h⟩ := raiseQueued_cases q p <;> rw [h]
  rw [(placeNew_perm _ _).length_eq, List.length_cons]
  have hone := hq.coalescing p
  have hmem : 0 < (q.filter fun x => x.payload.coalesces p).length :=
    List.length_pos_of_mem (List.mem_filter.mpr ⟨he, hlike⟩)
  have hsplit := List.length_eq_length_filter_add (l := q) fun x => x.payload.coalesces p
  omega

theorem mem_raiseQueued_of_like {q : List TxEntry} {p : Payload} {x : TxEntry} (h : queuedLike q p = some x) :
    { x with urgent := true } ∈ raiseQueued q p := by
  have hx : x ∈ q := List.mem_of_find?_eq_some h
  simp only [raiseQueued, h]
  split
  next hu => rwa [← hu]
  next => exact mem_placeNew_self _ _

theorem raiseQueued_of_urgent {q : List TxEntry} {p : Payload} {x : TxEntry} (h : queuedLike q p = some x)
    (hu : x.urgent = true) : raiseQueued q p = q := by
  simp [raiseQueued, h, hu]

/-! ### A mismatch -/

/-- The attempt has ended before the frame is dealt with. -/
def State.stopped (s : State) (o : OnLine) : State := s.setLink (s.link.endAttempt o.entry)

theorem State.stopped_ended (s : State) (o : OnLine) {t : State} (hl : t.link.onLine = (s.stopped o).link.onLine)
    (ht : t.link.txTimer = (s.stopped o).link.txTimer) (hline : t.link.line = (s.stopped o).link.line)
    (hy : t.link.yield = (s.stopped o).link.yield) : AttemptEnded o s t := ⟨hl, ht, hline, hy⟩

theorem State.attemptEnded_of_sendsOnly {s t : State} {o : OnLine} (h : SendsOnly (s.stopped o) t) :
    AttemptEnded o s t := by
  apply s.stopped_ended o <;> rw [h.1]

/-- FAULT entry leaves the line to the attempts that are on it. -/
theorem State.enterFault_attemptEnded {s u : State} {o : OnLine} (c : FaultCause) (h : SendsOnly (s.stopped o) u) :
    AttemptEnded o s (u.enterFault c) := by
  rw [u.enterFault_eq]
  apply s.stopped_ended o <;>
    simp only [State.formPendingBoot, State.formBoot, State.enqueue_link_onLine, State.enqueue_link_txTimer,
      State.enqueue_link_line, State.enqueue_link_yield, State.setStartup_link, State.faulted, Link.faultEntry] <;>
    rw [h.1]

/-- A frame whose retry was taken ends with its attempt (R178). -/
theorem State.txMismatch_of_no_retry {s : State} {o : OnLine} (hline : s.link.onLine = some o) (hr : o.retry = false) :
    s.txMismatch = (s.stopped o).bootEnded o.entry := by
  simp [State.txMismatch, hline, hr, State.stopped]

/-- A frame below its limit returns, its attempt counted (R168). -/
theorem State.txMismatch_of_returns {s : State} {o : OnLine} (hline : s.link.onLine = some o) (hr : o.retry = true)
    (hlim : o.entry.attempts + 1 < attemptLimit o.entry) :
    s.txMismatch = (s.stopped o).returnEntry { o.entry with attempts := o.entry.attempts + 1 } := by
  simp only [State.txMismatch, hline, hr, if_true]
  exact if_neg (Nat.not_le.mpr hlim)

/-- A frame at its limit is discarded (R168). -/
theorem State.txMismatch_of_limit {s : State} {o : OnLine} (hline : s.link.onLine = some o) (hr : o.retry = true)
    (hlim : attemptLimit o.entry ≤ o.entry.attempts + 1) :
    s.txMismatch = ((s.stopped o).loseFrame { o.entry with attempts := o.entry.attempts + 1 }).reportLoopback
      { o.entry with attempts := o.entry.attempts + 1 } false := by
  simp only [State.txMismatch, hline, hr, if_true]
  exact if_pos hlim

/-- A discarded frame that is not the code 5 frame of its step fails nothing. -/
theorem State.txMismatch_of_discarded {s : State} {o : OnLine} (hline : s.link.onLine = some o) (hr : o.retry = true)
    (hlim : attemptLimit o.entry ≤ o.entry.attempts + 1)
    (hloop : ¬ (o.entry.payload.isLoopback = true ∧ s.inStep .s5 = true)) :
    s.txMismatch = (s.stopped o).loseFrame { o.entry with attempts := o.entry.attempts + 1 } := by
  rw [State.txMismatch_of_limit hline hr hlim, State.reportLoopback_idle]
  rw [State.loseFrame_inStep]
  exact hloop

/-- The discarded code 5 frame fails self-test (R183). -/
theorem State.txMismatch_of_failed {s : State} {o : OnLine} (hline : s.link.onLine = some o) (hr : o.retry = true)
    (hlim : attemptLimit o.entry ≤ o.entry.attempts + 1) (hloop : o.entry.payload.isLoopback = true)
    (hstep : s.inStep .s5 = true) :
    s.txMismatch =
      ((s.stopped o).loseFrame { o.entry with attempts := o.entry.attempts + 1 }).enterFault .link := by
  have hs : ((s.stopped o).loseFrame { o.entry with attempts := o.entry.attempts + 1 }).inStep .s5 = true := by
    rw [State.loseFrame_inStep]
    exact hstep
  rw [State.txMismatch_of_limit hline hr hlim, State.reportLoopback, if_pos hloop, State.loopbackResult, if_pos hs]
  rfl

/-- A stopped attempt has ended whatever becomes of its frame. -/
theorem State.txMismatch_attemptEnded {s : State} {o : OnLine} (hline : s.link.onLine = some o) :
    AttemptEnded o s s.txMismatch := by
  cases hr : o.retry with
  | false =>
    rw [State.txMismatch_of_no_retry hline hr]
    exact State.attemptEnded_of_sendsOnly (State.bootEnded_sendsOnly _ _)
  | true =>
    by_cases hlim : o.entry.attempts + 1 < attemptLimit o.entry
    · rw [State.txMismatch_of_returns hline hr hlim]
      exact State.attemptEnded_of_sendsOnly (State.returnEntry_sendsOnly _ _)
    · have hlim := Nat.le_of_not_lt hlim
      by_cases hloop : o.entry.payload.isLoopback = true ∧ s.inStep .s5 = true
      · obtain ⟨hl, hs⟩ := hloop
        rw [State.txMismatch_of_failed hline hr hlim hl hs]
        exact State.enterFault_attemptEnded _ (State.loseFrame_sendsOnly _ _)
      · rw [State.txMismatch_of_discarded hline hr hlim hloop]
        exact State.attemptEnded_of_sendsOnly (State.loseFrame_sendsOnly _ _)

/-- The counts at FAULT entry, the boot frames leaving room for the code 15 frame. -/
theorem State.enterFault_counts (s : State) (c : FaultCause)
    (hroom : (s.link.queue.filter fun e => e.payload.isBoot).length < txQueueSize) :
    (s.enterFault c).link.counts = s.link.counts := by
  rw [s.enterFault_eq, State.formPendingBoot_of_room _ _ hroom]
  rfl

/-- Settles O54: the frame's retry, its limit and the queue say which of the ends of R168, R172, R178 and R183 it
takes. -/
theorem stoppedAttemptsReturnOrEnd : Obligations.StoppedAttemptsReturnOrEnd := by
  intro s o hline hok
  obtain ⟨-, hfew, -⟩ := s.link.queueOk_iff.mp hok
  have hlimit : (if o.entry.urgent || o.entry.payload.isLoopback then 4 else 2) = attemptLimit o.entry := rfl
  rw [hlimit]
  let back := { o.entry with attempts := o.entry.attempts + 1 }
  refine ⟨_, rfl, State.txMismatch_attemptEnded hline, fun hr hlim hroom hnone => ?_, fun hr hlim hfull hnone => ?_,
    fun q hr hlim hq => ?_, fun hr hlim hloop => ?_, fun hr hlim hloop hstep hboot => ?_, fun hr => ?_⟩
  · have hback : s.txMismatch = (s.stopped o).setLink { (s.stopped o).link with
        queue := placeReturning s.link.queue back } := by
      rw [State.txMismatch_of_returns hline hr hlim, State.returnEntry, if_neg, if_pos]
      · rfl
      · exact hroom
      · exact fun h => by simp [show queuedLike (s.stopped o).link.queue _ = none from hnone] at h
    rw [hback]
    refine ⟨rfl, rfl, fun b hb => ?_⟩
    cases b <;> simp [Block.same, State.stopped] at hb ⊢
  · have hback : s.txMismatch = (s.stopped o).placeAtFull back := by
      rw [State.txMismatch_of_returns hline hr hlim, State.returnEntry, if_neg, if_neg]
      · exact Nat.not_lt.mpr hfull
      · exact fun h => by simp [show queuedLike (s.stopped o).link.queue _ = none from hnone] at h
    rw [hback]
    refine ⟨(s.stopped o).placeAtFull_counts back, fun b hb => ?_, fun hlost => ?_,
      fun urgents routines v hu hqueue hurg hrout hv hne => ?_⟩
    · cases b <;> simp [Block.same, State.stopped] at hb ⊢
    · rw [(s.stopped o).placeAtFull_lost back hlost]
      exact ⟨by rw [State.loseFrame_link]; rfl, State.loseFrame_startup _ _⟩
    · rw [(s.stopped o).placeAtFull_pushOut back urgents routines v hu hqueue hurg hrout hv hne]
      exact ⟨by rw [State.loseFrame_link]; rfl, State.loseFrame_startup _ _⟩
  · have hback : s.txMismatch = (s.stopped o).setLink { (s.stopped o).link with
        queue := if o.entry.urgent then raiseQueued s.link.queue o.entry.payload else s.link.queue } := by
      rw [State.txMismatch_of_returns hline hr hlim, State.returnEntry, if_pos]
      · rfl
      · simp [show queuedLike (s.stopped o).link.queue _ = some q from hq]
    rw [hback]
    refine ⟨?_, rfl, fun h => ?_, fun hu => ?_, fun b hb => ?_⟩
    · rw [State.setLink_link]
      dsimp only
      split
      · exact length_raiseQueued hfew _
      · rfl
    · rw [State.setLink_link]
      dsimp only
      split
      next hu => exact raiseQueued_of_urgent hq (h.resolve_left (by simp [hu]))
      · rfl
    · rw [State.setLink_link]
      dsimp only
      rw [if_pos hu]
      exact mem_raiseQueued_of_like hq
    · cases b <;> simp [Block.same, State.stopped] at hb ⊢
  · rw [State.txMismatch_of_discarded hline hr hlim hloop]
    refine ⟨by rw [State.loseFrame_link]; rfl, by rw [State.loseFrame_link]; rfl, State.loseFrame_startup _ _,
      fun b hb => ?_⟩
    cases b <;> simp [Block.same, State.stopped] at hb ⊢
  · rw [State.txMismatch_of_failed hline hr hlim hloop hstep]
    have hq : ((s.stopped o).loseFrame back).link.queue = s.link.queue := by rw [State.loseFrame_link]; rfl
    refine ⟨faultEntered_enterFault hq (by rw [State.loseFrame_link]; rfl) .link, ?_⟩
    rw [State.enterFault_counts _ _ (by rw [hq]; exact hboot), State.loseFrame_link]
    rfl
  · rw [State.txMismatch_of_no_retry hline hr]
    refine ⟨by rw [State.bootEnded_link]; rfl, by rw [State.bootEnded_link]; rfl, State.bootEnded_startup _ _,
      fun b hb => ?_⟩
    cases b <;> simp [Block.same, State.stopped] at hb ⊢

end Sys2Proof.Machine
end

section
/-! PROOFS. What an applied odometry frame makes of the carry flag (R43, R50), and the clean end of an own frame (R169). -/

namespace Sys2Proof.Machine

open Sys2Proof

/-! ### The carry flag -/

/-- Work that arrives at a Table Manager at work waits. -/
theorem State.kick_of_busy (s : State) (h : s.table.work ≠ .idle) : s.kick = s := by simp [State.kick, h]

/-- Work that arrives at an idle Table Manager in RUN is taken at once (R50). -/
theorem State.kick_of_idle (s : State) (hrun : s.running = true) (h : s.table.work = .idle) : s.kick = s.takeWork := by
  simp [State.kick, hrun, h]

/-- A Table Manager at work finds the flag when it ends it (R43). -/
theorem State.raiseCarry_of_busy (s : State) (h : s.table.work ≠ .idle) :
    s.raiseCarry = s.setTable { s.table with carryFlag := true } :=
  State.kick_of_busy _ h

/-- An idle Table Manager starts the carry at once (R50). -/
theorem State.raiseCarry_of_idle (s : State) (hrun : s.running = true) (h : s.table.work = .idle) :
    s.raiseCarry = (s.setTable { s.table with carryFlag := true }).startCarry :=
  ((s.setTable { s.table with carryFlag := true }).kick_of_idle hrun h).trans (State.takeWork_of_carryFlag _ rfl)

/-- The flag stands, or a carry has started with the Odometry Unit's inputs (R43, R76). -/
theorem State.raiseCarry_pends (s : State) (hrun : s.running = true) : s.raiseCarry.table.carryFlag = true ∨
    ∃ c, s.raiseCarry.table.work = .carrying c ∧ c.odoTag = s.odo.tag := by
  by_cases h : s.table.work = .idle
  · rw [s.raiseCarry_of_idle hrun h]
    exact .inr ⟨_, rfl, rfl⟩
  · rw [s.raiseCarry_of_busy h]
    exact .inl rfl

/-- An odometry frame of the source is applied, carried on, and recomputed on (R36, R37, R43, R127). -/
theorem State.takeOdometry_of_source (s : State) (src : Pos) (q : Seq) (l r : Half) (b : Bool)
    (hs : s.odo.source = some src) : s.takeOdometry src q l r b =
      (let u := s.setOdo (s.odo.apply s.setup q l r)
       (if b then u.awaitCarry else u).raiseCarry.recompute) := by
  rw [State.takeOdometry, if_pos hs]

/-! ### A clean completion -/

@[simp] theorem State.stopped_running (s : State) (o : OnLine) : (s.stopped o).running = s.running := rfl

@[simp] theorem State.stopped_inStep (s : State) (o : OnLine) (k : TestStep) : (s.stopped o).inStep k = s.inStep k := rfl

theorem State.txComplete_eq {s : State} {o : OnLine} (hline : s.link.onLine = some o) :
    s.txComplete =
      (((s.stopped o).bootEnded o.entry).reportLoopback o.entry true).ownCompletion o.entry := by
  simp [State.txComplete, hline, State.stopped]

theorem State.ownCompletion_of_not_odometry (s : State) (e : TxEntry) (h : e.payload.isOdometry = false) :
    s.ownCompletion e = s := by
  unfold State.ownCompletion
  split
  next d hd => simp [hd, Payload.isOdometry] at h
  next => rfl

theorem Payload.not_loopback_of_not_boot {p : Payload} (h : p.isBoot = false) : ¬ p.isLoopback = true := by
  cases p <;> simp_all [Payload.isBoot, Payload.isLoopback]

theorem Payload.not_odometry_of_boot {p : Payload} (h : p.isBoot = true) : p.isOdometry = false := by
  cases p <;> simp_all [Payload.isBoot, Payload.isOdometry]

theorem Payload.boot_of_loopback {p : Payload} (h : p.isLoopback = true) : p.isBoot = true := by
  cases p <;> simp_all [Payload.isBoot, Payload.isLoopback]

theorem Payload.not_boot_of_odometry {p : Payload} (h : p.isOdometry = true) : p.isBoot = false := by
  cases p <;> simp_all [Payload.isBoot, Payload.isOdometry]

/-- A frame that is neither boot status nor odometry has no more to do (R169). -/
theorem State.txComplete_of_other {s : State} {o : OnLine} (hline : s.link.onLine = some o)
    (hb : o.entry.payload.isBoot = false) (ho : o.entry.payload.isOdometry = false) : s.txComplete = s.stopped o := by
  rw [State.txComplete_eq hline, State.bootEnded_of_not_boot _ _ hb,
    State.reportLoopback_idle _ _ _ fun h => Payload.not_loopback_of_not_boot hb h.1,
    State.ownCompletion_of_not_odometry _ _ ho]

/-- A boot status frame's end is reported (R185). -/
theorem State.txComplete_of_boot {s : State} {o : OnLine} (hline : s.link.onLine = some o)
    (hb : o.entry.payload.isBoot = true) (hloop : ¬ (o.entry.payload.isLoopback = true ∧ s.inStep .s5 = true)) :
    s.txComplete = (s.stopped o).bootEnded o.entry := by
  rw [State.txComplete_eq hline, State.reportLoopback_idle _ _ _ (by rw [State.bootEnded_inStep]; exact hloop),
    State.ownCompletion_of_not_odometry _ _ (Payload.not_odometry_of_boot hb)]

/-- The code 5 frame's end passes step 5 (R183). -/
theorem State.txComplete_of_loopback {s : State} {o : OnLine} (hline : s.link.onLine = some o)
    (hloop : o.entry.payload.isLoopback = true) (hstep : s.inStep .s5 = true) :
    s.txComplete = ((s.stopped o).bootEnded o.entry).enterStep .s4 := by
  have hs : ((s.stopped o).bootEnded o.entry).inStep .s5 = true := by rw [State.bootEnded_inStep]; exact hstep
  rw [State.txComplete_eq hline, State.reportLoopback, if_pos hloop, State.loopbackResult, if_pos hs,
    State.ownCompletion_of_not_odometry _ _ (Payload.not_odometry_of_boot (Payload.boot_of_loopback hloop))]
  rfl

/-- An own odometry frame goes to the Encoder Interface and the Odometry Unit (R32). -/
theorem State.txComplete_of_odometry {s : State} {o : OnLine} (hline : s.link.onLine = some o) {d : OdometryData}
    (hd : o.entry.payload = .odometry d) : s.txComplete = (s.stopped o).ownOdometry (o.entry.seq.getD 0) d := by
  have hb : o.entry.payload.isBoot = false := by rw [hd]; rfl
  rw [State.txComplete_eq hline, State.bootEnded_of_not_boot _ _ hb,
    State.reportLoopback_idle _ _ _ fun h => Payload.not_loopback_of_not_boot hb h.1, State.ownCompletion, hd]

/-- What the end of an attempt sets on the line, the block's own work keeps. -/
theorem attemptEnded_kept (o : OnLine) (s : State) : Kept (AttemptEnded o s) where
  reads a b hl _ _ _ h := by
    unfold AttemptEnded at h ⊢
    rwa [hl]
  count a i _ h := by simpa [AttemptEnded] using h
  enqueue a p u h := by simpa [AttemptEnded] using h
  handling _ _ _ h := h
  recompute a h := by simpa [AttemptEnded] using h

/-- A clean completion ends the attempt, whatever the frame. -/
theorem State.txComplete_attemptEnded {s : State} {o : OnLine} (hline : s.link.onLine = some o) :
    AttemptEnded o s s.txComplete := by
  rw [State.txComplete_eq hline]
  refine (attemptEnded_kept o s).ownCompletion ?_ o.entry
  have hended : AttemptEnded o s ((s.stopped o).bootEnded o.entry) :=
    State.attemptEnded_of_sendsOnly (State.bootEnded_sendsOnly _ _)
  unfold State.reportLoopback State.loopbackResult
  (repeat' split)
  · exact (attemptEnded_kept o s).enqueue _ _ _ hended
  next h => exact absurd rfl h
  · exact hended
  · exact hended

/-- The error count a clean completion takes off (R32). -/
theorem Encoder.reported_errors (e : Encoder) (n : Byte) :
    (e.reported n).errors = BitVec.ofNat 8 (e.errors.toNat - n.toNat) := by
  unfold Encoder.reported
  apply BitVec.eq_of_toNat_eq
  dsimp only
  split
  next h =>
    rw [BitVec.toNat_sub_of_le (BitVec.le_def.mpr h), BitVec.toNat_ofNat]
    have := e.errors.isLt
    omega
  next h =>
    have : e.errors.toNat - n.toNat = 0 := by omega
    simp [this]

/-- Settles O55: a boot status frame is reported, the code 5 frame passes its step, and an odometry frame is applied as
one from the source would be. -/
theorem cleanCompletionsEndTheFrame : Obligations.CleanCompletionsEndTheFrame := by
  intro s o hline
  refine ⟨_, rfl, State.txComplete_attemptEnded hline, fun hb ho => ?_, fun hb hloop => ?_, fun hloop hstep hroom => ?_,
    fun d hd => ?_⟩
  · rw [State.txComplete_of_other hline hb ho]
    refine ⟨rfl, rfl, fun b hb => ?_⟩
    cases b <;> simp [Block.same, State.stopped] at hb ⊢
  · rw [State.txComplete_of_boot hline hb hloop, State.bootEnded_startup, State.bootEnded_link]
    refine ⟨by simp [hb, State.stopped], rfl, fun b hb => ?_⟩
    cases b <;> simp [Block.same, State.stopped] at hb ⊢
  · have hlink : ((s.stopped o).bootEnded o.entry).link = (s.stopped o).link := State.bootEnded_link _ _
    rw [State.txComplete_of_loopback hline hloop hstep, State.enterStep_of_room _ _ (by rw [hlink]; exact hroom)]
    refine ⟨rfl, rfl, rfl, rfl, rfl, BootQueued.of_queue (u := (s.stopped o).bootEnded o.entry) ?_, fun b hb => ?_⟩
    · rw [State.setLink_link, hlink]
      rfl
    · cases b <;> simp [Block.same, State.stopped] at hb ⊢
  · rw [State.txComplete_of_odometry hline hd]
    let u := (s.stopped o).setEnc (s.enc.reported d.errors)
    have hown : (s.stopped o).ownOdometry (o.entry.seq.getD 0) d =
        if s.running then u.takeOdometry u.startup.pos (o.entry.seq.getD 0) d.left d.right false else u := rfl
    refine ⟨?_, fun hrun hs => ?_, fun hrun => ?_, fun b hb => ?_⟩
    · have henc : u.enc = { s.enc with errors := (s.enc.reported d.errors).errors } := rfl
      rw [hown, ← Encoder.reported_errors, ← henc]
      split
      · simp
      · rfl
    · rw [hown, if_pos hrun, u.takeOdometry_of_source u.startup.pos _ _ _ _ hs]
      refine ⟨by simp [u, State.stopped], ?_⟩
      have := State.raiseCarry_pends (u.setOdo (u.odo.apply u.setup (o.entry.seq.getD 0) d.left d.right)) hrun
      simpa using this.imp_right fun ⟨c, hc, _⟩ => ⟨c, hc⟩
    · rw [hown, if_neg (by simp [hrun])]
      exact ⟨rfl, rfl⟩
    · cases b <;> simp [Block.same, State.stopped] at hb ⊢

end Sys2Proof.Machine
end

section
/-! PROOFS. The Encoder Interface's edges (R27, R28), the sub-steps of a pose delta (R39), and what the Odometry Unit
makes of a frame from its source (R34, R36 to R40). -/

namespace Sys2Proof.Machine

open Sys2Proof

/-! ### Encoder edges -/

theorem edgeKind_same (p : Pair) : edgeKind p p = .same := by simp [edgeKind]

theorem edgeKind_forward {p q : Pair} (h : (p, q) ∈ forwardSteps) : edgeKind p q = .tick 1 := by
  obtain ⟨a, b⟩ := p; obtain ⟨c, d⟩ := q
  revert h; cases a <;> cases b <;> cases c <;> cases d <;> decide

theorem edgeKind_back {p q : Pair} (h : (q, p) ∈ forwardSteps) : edgeKind p q = .tick (-1) := by
  obtain ⟨a, b⟩ := p; obtain ⟨c, d⟩ := q
  revert h; cases a <;> cases b <;> cases c <;> cases d <;> decide

theorem edgeKind_both {p q : Pair} (ha : p.a ≠ q.a) (hb : p.b ≠ q.b) : edgeKind p q = .both := by
  obtain ⟨a, b⟩ := p; obtain ⟨c, d⟩ := q
  revert ha hb; cases a <;> cases b <;> cases c <;> cases d <;> decide

/-- No pair of levels follows another both ways (R27). -/
theorem not_forward_of_back {p q : Pair} (h : (q, p) ∈ forwardSteps) : (p, q) ∉ forwardSteps := by
  obtain ⟨a, b⟩ := p; obtain ⟨c, d⟩ := q
  revert h; cases a <;> cases b <;> cases c <;> cases d <;> decide

theorem Encoder.edge_same {e : Encoder} {w : Wheel} {p : Pair} (h : e.quad w = some p) (v : SetupValues) :
    e.edge v w p = e := by
  simp [Encoder.edge, h, edgeKind_same]

theorem Encoder.edge_tick {e : Encoder} {w : Wheel} {p q : Pair} {step : Int} (h : e.quad w = some p)
    (hk : edgeKind p q = .tick step) (v : SetupValues) :
    e.edge v w q = (e.setQuad w q).addStep w (wheelSign v w * step) := by
  simp [Encoder.edge, h, hk]

theorem Encoder.edge_both {e : Encoder} {w : Wheel} {p q : Pair} (h : e.quad w = some p) (hk : edgeKind p q = .both)
    (v : SetupValues) : e.edge v w q = { e.setQuad w q with errors := satInc e.errors } := by
  cases w <;> simp [Encoder.edge, h, hk, Encoder.setQuad]

/-- A wheel's signed step as the count takes it (R27). -/
theorem ofInt_wheelSign (v : SetupValues) (w : Wheel) (forward : Bool) :
    BitVec.ofInt 16 (wheelSign v w * if forward then 1 else -1) =
      if forward = (if w = .left then v.reverseLeft else v.reverseRight) then 0xFFFF#16 else 1#16 := by
  cases w <;> cases forward <;> cases h : v.reverseLeft <;> cases h' : v.reverseRight <;>
    simp [wheelSign, h, h']

/-- A step on a wheel moves that wheel's count alone. -/
theorem Encoder.addStep_fields (e : Encoder) (w : Wheel) (p : Pair) (n : Int) :
    ((e.setQuad w p).addStep w n).quad w = some p ∧ ((e.setQuad w p).addStep w n).errors = e.errors ∧
    ((e.setQuad w p).addStep w n).left = (if w = .left then e.left + BitVec.ofInt 16 n else e.left) ∧
    ((e.setQuad w p).addStep w n).right = (if w = .right then e.right + BitVec.ofInt 16 n else e.right) := by
  cases w <;> exact ⟨rfl, rfl, rfl, rfl⟩

/-- Settles O30: the kind of an edge says what the count or the error count takes. -/
theorem encoderEdgesAreCounted : Obligations.EncoderEdgesAreCounted := by
  intro s w new
  let u := s.setPins (s.pins.setEncoder w new)
  have hedge : s.encoderEdge w new.a new.b = if s.encoding then u.setEnc (s.enc.edge s.setup w new) else u := rfl
  refine ⟨_, congrArg Host.Outcome.next hedge, ?_, fun hout b hb => ?_, fun old hrun hrole hq => ?_⟩
  · split <;> rfl
  · rw [if_neg (by simpa [State.encoding, or_iff_not_imp_left] using hout)]
    cases b <;> simp [Block.same, u] at hb ⊢
  · rw [if_pos (by simp [State.encoding, hrun, hrole])]
    refine ⟨fun b hb => ?_, fun h => ?_, fun ha hb => ?_, fun h => ?_⟩
    · cases b <;> simp [Block.same, u] at hb ⊢
    · exact Encoder.edge_same (h ▸ hq) _
    · rw [State.setEnc_enc, Encoder.edge_both hq (edgeKind_both ha hb)]
      cases w <;> exact ⟨rfl, rfl, rfl, rfl⟩
    · have hkind : edgeKind old new = .tick (if decide ((old, new) ∈ forwardSteps) then 1 else -1) := by
        obtain hf | hr := h
        · rw [edgeKind_forward hf, if_pos (by simpa using hf)]
        · rw [edgeKind_back hr, if_neg (by simpa using not_forward_of_back hr)]
      rw [State.setEnc_enc, Encoder.edge_tick hq hkind]
      dsimp only
      rw [← ofInt_wheelSign]
      exact Encoder.addStep_fields s.enc w new _

/-! ### Sub-steps -/

theorem ceilDiv_eq (a : Nat) : ceilDiv a maxTurn = (a + 127) / 128 ∧ ceilDiv a maxMove = (a + 254) / 255 := ⟨rfl, rfl⟩

/-- The size of a sub-step's part: a k-th of the whole, and one more for the first few (R39). -/
theorem natAbs_subStepPart (v : Int) (k i : Nat) :
    (subStepPart v k i).natAbs = v.natAbs / k + if i < v.natAbs % k then 1 else 0 := by
  unfold subStepPart
  obtain ⟨n, rfl | rfl⟩ := v.eq_nat_or_neg
  · rw [Int.natAbs_natCast, ← Int.ofNat_tdiv]
    split
    next h =>
      have hn : 0 < n := Nat.pos_of_ne_zero fun h0 => by simp [h0] at h
      rw [Int.sign_eq_one_of_pos (by omega)]
      generalize n / k = q
      omega
    next =>
      generalize n / k = q
      omega
  · rw [Int.natAbs_neg, Int.natAbs_natCast, Int.neg_tdiv, ← Int.ofNat_tdiv]
    split
    next h =>
      have hn : 0 < n := Nat.pos_of_ne_zero fun h0 => by simp [h0] at h
      rw [Int.sign_eq_neg_one_of_neg (by omega)]
      generalize n / k = q
      omega
    next =>
      generalize n / k = q
      omega

/-- A part is within a limit when there are enough sub-steps (R39). -/
theorem natAbs_subStepPart_le {v : Int} {k m : Nat} (hm : 0 < m) (hk : (v.natAbs + (m - 1)) / m ≤ k)
    (i : Nat) : (subStepPart v k i).natAbs ≤ m := by
  have hle : v.natAbs ≤ m * k := by
    have := (Nat.div_le_iff_le_mul_add_pred hm).mp hk
    omega
  rw [natAbs_subStepPart]
  have hdiv : v.natAbs / k ≤ m := Nat.div_le_of_le_mul (by rwa [Nat.mul_comm])
  split
  next h =>
    have hmod := Nat.div_add_mod v.natAbs k
    by_contra hgt
    have heq : v.natAbs / k = m := by omega
    rw [heq, Nat.mul_comm] at hmod
    omega
  next => exact hdiv

/-- The first few of the indices below a count. -/
theorem sum_range_first (m k : Nat) (hm : m ≤ k) (c : Int) :
    ((List.range k).map fun i => if i < m then c else 0).sum = m * c := by
  induction k generalizing m with
  | zero => simp [Nat.le_zero.mp hm]
  | succ k ih =>
    rw [List.range_succ, List.map_append, List.sum_append, List.map_singleton, List.sum_singleton]
    obtain rfl | hlt := Nat.eq_or_lt_of_le hm
    · have hall : ((List.range k).map fun i => if i < k + 1 then c else 0) =
          (List.range k).map fun i => if i < k then c else 0 :=
        List.map_congr_left fun i hi => by
          have := List.mem_range.mp hi
          rw [if_pos (by omega), if_pos this]
      rw [hall, ih k le_rfl, if_pos (by omega)]
      push_cast
      ring
    · rw [ih m (by omega), if_neg (by omega), add_zero]

/-- The parts add up to the whole (R39). -/
theorem sum_subStepPart (v : Int) (k : Nat) (hk : 0 < k) : ((List.range k).map (subStepPart v k)).sum = v := by
  have hparts : ((List.range k).map (subStepPart v k)).sum = k * v.tdiv k + (v.natAbs % k : Nat) * v.sign := by
    show ((List.range k).map fun i => v.tdiv k + if i < v.natAbs % k then v.sign else 0).sum = _
    rw [List.sum_map_add, sum_range_first _ k (Nat.mod_lt _ hk).le]
    simp
  have hmod : v.tmod k = (v.natAbs % k : Nat) * v.sign := by
    obtain ⟨n, rfl | rfl⟩ := v.eq_nat_or_neg
    · obtain rfl | hn := Nat.eq_zero_or_pos n
      · simp
      · rw [Int.sign_eq_one_of_pos (by omega), ← Int.ofNat_tmod]
        simp
    · obtain rfl | hn := Nat.eq_zero_or_pos n
      · simp
      · rw [Int.sign_eq_neg_one_of_neg (by omega), Int.neg_tmod, ← Int.ofNat_tmod]
        simp
  rw [hparts, ← hmod]
  exact Int.mul_tdiv_add_tmod v k

/-- Settles O36: the number of sub-steps is enough for both limits, and the parts add up. -/
theorem subStepsAddUp : Obligations.SubStepsAddUp := by
  intro ds dth
  have hpos : 0 < subStepCount ds dth := Nat.lt_of_lt_of_le Nat.zero_lt_one (Nat.le_max_left _ _)
  have hturn : (dth.natAbs + (128 - 1)) / 128 ≤ subStepCount ds dth :=
    (Nat.le_max_left _ _).trans (Nat.le_max_right _ _)
  have hmove : (ds.natAbs + (255 - 1)) / 255 ≤ subStepCount ds dth :=
    (Nat.le_max_right _ _).trans (Nat.le_max_right _ _)
  refine ⟨?_, ?_, ?_, fun q hq => ?_⟩
  · simp only [subSteps, List.length_map, List.length_range]
    rfl
  · simp only [subSteps, List.map_map]
    exact sum_subStepPart ds _ hpos
  · simp only [subSteps, List.map_map]
    exact sum_subStepPart dth _ hpos
  · obtain ⟨i, -, rfl⟩ := List.mem_map.mp hq
    exact ⟨natAbs_subStepPart_le (by omega) hmove i, natAbs_subStepPart_le (by omega) hturn i⟩

end Sys2Proof.Machine
end

section
/-! PROOFS. What an accepted frame has done before the block of its kind sees it (R34, R42, R151 to R155, R161, R174,
R175). -/

namespace Sys2Proof.Machine

open Sys2Proof

/-! ### From the line to the blocks -/

/-- Every received frame is one command's. -/
theorem exec_frameCommand (f : Frame) (s : State) : exec (frameCommand f) s = .next (s.receiveFrame f) := by
  obtain ⟨h, p⟩ := f
  cases p <;> rfl

theorem State.onLink_of_receiving {s : State} (h : s.receiving = true) : s.onLink = true := by
  unfold State.receiving at h
  cases hn : s.startup.node <;> simp_all [State.onLink]

@[simp] theorem State.lineFree_link_counts (s : State) : s.lineFree.link.counts = s.link.counts := by
  unfold State.lineFree; split <;> rfl

@[simp] theorem State.lineFree_link_handling (s : State) : s.lineFree.link.handling = s.link.handling := by
  unfold State.lineFree; split <;> rfl

@[simp] theorem State.lineFree_link_onLine (s : State) : s.lineFree.link.onLine = s.link.onLine := by
  unfold State.lineFree; split <;> rfl

@[simp] theorem State.lineFree_link_queue (s : State) : s.lineFree.link.queue = s.link.queue := by
  unfold State.lineFree; split <;> rfl

@[simp] theorem State.lineFree_link_nextOrder (s : State) : s.lineFree.link.nextOrder = s.link.nextOrder := by
  unfold State.lineFree; split <;> rfl

@[simp] theorem State.lineFree_link_seq (s : State) : s.lineFree.link.seq = s.link.seq := by
  unfold State.lineFree; split <;> rfl

/-- The end of a frame ends the routine yield (R165). -/
theorem State.lineFree_link_yield {s : State} (h : s.onLink = true) : s.lineFree.link.yield = false := by
  simp [State.lineFree, h, Link.lineFree]

theorem State.lineFree_link_line {s : State} (h : s.onLink = true) (hline : s.link.onLine = none) :
    s.lineFree.link.line = .idle 0 := by
  simp [State.lineFree, h, Link.lineFree, hline]

/-- The state in which a frame that is handed on comes to the Peer Monitor: its station's last seq is forgotten for a
boot status frame, and its handling has begun (R152, R174, R175). -/
def State.begunOn (s : State) (f : Frame) : State := (s.beforeTest f).setLink (s.link.handle [f])

/-- The same, for a frame that is handed on at its completion. -/
def State.begun (s : State) (f : Frame) : State := s.lineFree.begunOn f

@[simp] theorem State.begun_link (s : State) (f : Frame) : (s.begun f).link = s.lineFree.link.handle [f] := rfl

@[simp] theorem State.begun_startup (s : State) (f : Frame) : (s.begun f).startup = s.startup := by
  simp [State.begun, State.begunOn]

@[simp] theorem State.begun_running (s : State) (f : Frame) : (s.begun f).running = s.running := by
  simp [State.running]

@[simp] theorem State.begun_setup (s : State) (f : Frame) : (s.begun f).setup = s.setup := by
  simp [State.setup]

theorem State.begun_unchanged (s : State) (f : Frame) : UnchangedBut [.link, .peers] s (s.begun f) := by
  intro b hb
  cases b <;> simp [Block.same, State.begun, State.begunOn] at hb ⊢

/-- A frame that is no boot status frame leaves the peer table as it was. -/
theorem State.begun_peers (s : State) (f : Frame) (hb : f.payload.isBoot = false) : (s.begun f).peers = s.peers := by
  simp [State.begun, State.begunOn, State.beforeTest, hb]

theorem State.beforeTest_isDuplicate (s : State) (f : Frame) : (s.beforeTest f).isDuplicate f = s.isRepeat f := by
  unfold State.beforeTest State.isRepeat State.isDuplicate
  cases h : f.payload.isBoot with
  | true => simp [State.forgetSeq, PeerMonitor.setEntry]
  | false => simp

/-- A frame that is handed on and is no duplicate is handled (R175). -/
theorem State.handOn_fresh {s : State} {f : Frame} (hrep : s.isRepeat f = false) :
    s.handOn [f] = (s.begunOn f).handFrame f := by
  have hnew : (s.beforeTest f).isDuplicate f = false := by rw [State.beforeTest_isDuplicate, hrep]
  have hlink : (s.beforeTest f).link = s.link := by simp
  rw [State.handOn, hnew, hlink]
  rfl

/-- A frame that is handed on and is neither a duplicate nor from the own position goes through the blocks (R175). -/
theorem State.handOn_new {s : State} {f : Frame} (hsrc : f.head.src ≠ s.startup.pos) (hrep : s.isRepeat f = false) :
    s.handOn [f] = (s.begunOn f).acceptFrame f :=
  (State.handOn_fresh hrep).trans (if_neg (by simpa [State.begunOn] using hsrc))

@[simp] theorem State.lineFree_isRepeat (s : State) (f : Frame) : s.lineFree.isRepeat f = s.isRepeat f := by
  simp [State.isRepeat]

/-- A frame that is taken in goes through the blocks at its completion (R174, R175). -/
theorem State.receiveFrame_of_takes {s : State} {f : Frame} (h : s.Takes f) :
    s.receiveFrame f = (s.begun f).acceptFrame f := by
  obtain ⟨hrecv, hrx, hsrc, hrep, hwf⟩ := h
  calc s.receiveFrame f
      = s.lineFree.handOn [f] := by simp [State.receiveFrame, hrecv, hwf, State.bufferFrame, hrx, rxBuffers]
    _ = (s.begun f).acceptFrame f := State.handOn_new (by simpa using hsrc) (by simpa using hrep)

theorem State.Accepts.takes {s : State} {f : Frame} (h : s.Accepts f.head) (hwf : f.payload.wf = true)
    (hb : f.payload.isBoot = false) : s.Takes f := by
  obtain ⟨hrecv, hrx, hsrc, hseq⟩ := h
  exact ⟨hrecv, hrx, hsrc, by simpa [State.isRepeat, hb] using hseq, hwf⟩

/-! ### The Peer Monitor and the Odometry Unit's notice -/

/-- The state in which a frame that is handed on comes to the block of its kind (R150, R155). -/
def State.noticedOn (s : State) (f : Frame) : State :=
  ((s.begunOn f).peerAccept f.head f.payload.isBoot).handing fun t => t.odoNotice f.head f.payload.isBoot

/-- The same, for a frame that is handed on at its completion. -/
def State.noticed (s : State) (f : Frame) : State := s.lineFree.noticedOn f

theorem State.handOn_new_eq_kindBlock {s : State} {f : Frame} (hsrc : f.head.src ≠ s.startup.pos)
    (hrep : s.isRepeat f = false) : s.handOn [f] = (s.noticedOn f).kindBlock f := State.handOn_new hsrc hrep

theorem State.receiveFrame_eq_kindBlock {s : State} {f : Frame} (h : s.Takes f) :
    s.receiveFrame f = (s.noticed f).kindBlock f := State.receiveFrame_of_takes h

theorem State.peerAccept_sendsOnly (s : State) (h : Head) (b : Bool) : SendsOnly s (s.peerAccept h b) := by
  have hheard : SendsOnly s (s.handing fun t => t.peerHeard h b) :=
    .trans (t := s.peerHeard h b) ⟨rfl, rfl⟩ (State.notify_sendsOnly _ _ _)
  have hmissing (t : State) : SendsOnly t (t.handing State.judgeMissing) :=
    .trans (t := t.judgeMissing) (SendsOnly.of_eq (.refl t) (by simp) (by simp)) (State.notify_sendsOnly _ _ _)
  exact hheard.trans (hmissing _)

theorem State.odoNotice_handing_sendsOnly (s : State) (h : Head) (b : Bool) :
    SendsOnly s (s.handing fun t => t.odoNotice h b) :=
  .trans (t := s.odoNotice h b) (SendsOnly.of_eq (.refl s) (by simp) (by simp)) (State.notify_sendsOnly _ _ _)

/-- Up to the block of its kind, a frame hands on at most verdicts. -/
theorem State.noticedOn_sendsOnly (s : State) (f : Frame) : SendsOnly (s.begunOn f) (s.noticedOn f) :=
  (State.peerAccept_sendsOnly _ _ _).trans (State.odoNotice_handing_sendsOnly _ _ _)

theorem State.noticed_sendsOnly (s : State) (f : Frame) : SendsOnly (s.begun f) (s.noticed f) :=
  s.lineFree.noticedOn_sendsOnly f

theorem State.noticed_unchanged (s : State) (f : Frame) :
    UnchangedBut [.odo, .peers, .link, .clear, .startup] s (s.noticed f) := by
  intro b hb
  have hkept : b ∉ [Block.link, .peers] → b.same s (s.begun f) := s.begun_unchanged f b
  cases b <;> simp_all [Block.same, State.noticed, State.noticedOn, State.begun]

theorem State.noticed_startup (s : State) (f : Frame) :
    (s.noticed f).startup = { s.startup with bootPending := (s.noticed f).startup.bootPending } := by
  have := (s.noticed_sendsOnly f).2
  rwa [State.begun_startup] at this

@[simp] theorem State.noticed_startup_pos (s : State) (f : Frame) : (s.noticed f).startup.pos = s.startup.pos := by
  rw [State.noticed_startup]

@[simp] theorem State.noticed_startup_role (s : State) (f : Frame) : (s.noticed f).startup.role = s.startup.role := by
  rw [State.noticed_startup]

@[simp] theorem State.noticed_startup_node (s : State) (f : Frame) : (s.noticed f).startup.node = s.startup.node := by
  rw [State.noticed_startup]

@[simp] theorem State.noticed_running (s : State) (f : Frame) : (s.noticed f).running = s.running := by
  simp [State.running]

@[simp] theorem State.noticed_setup (s : State) (f : Frame) : (s.noticed f).setup = s.setup := by
  rw [State.setup, State.noticed_startup]
  rfl

@[simp] theorem State.noticed_table (s : State) (f : Frame) : (s.noticed f).table = s.table :=
  s.noticed_unchanged f .table (by decide)

@[simp] theorem State.noticed_report (s : State) (f : Frame) : (s.noticed f).report = s.report :=
  s.noticed_unchanged f .report (by decide)

@[simp] theorem State.noticed_floor (s : State) (f : Frame) : (s.noticed f).floor = s.floor :=
  s.noticed_unchanged f .floor (by decide)

@[simp] theorem State.noticed_wall (s : State) (f : Frame) : (s.noticed f).wall = s.wall :=
  s.noticed_unchanged f .wall (by decide)

@[simp] theorem State.noticed_pins (s : State) (f : Frame) : (s.noticed f).pins = s.pins :=
  s.noticed_unchanged f .pins (by decide)

@[simp] theorem State.noticed_bump (s : State) (f : Frame) : (s.noticed f).bump = s.bump :=
  s.noticed_unchanged f .bump (by decide)

@[simp] theorem State.noticed_drop (s : State) (f : Frame) : (s.noticed f).drop = s.drop :=
  s.noticed_unchanged f .drop (by decide)

@[simp] theorem State.noticed_enc (s : State) (f : Frame) : (s.noticed f).enc = s.enc :=
  s.noticed_unchanged f .enc (by decide)

@[simp] theorem State.noticed_beacon (s : State) (f : Frame) : (s.noticed f).beacon = s.beacon :=
  s.noticed_unchanged f .beacon (by decide)

@[simp] theorem State.noticed_choices (s : State) (f : Frame) : (s.noticed f).choices = s.choices :=
  s.noticed_unchanged f .choices (by decide)

/-- The link when the block of the kind sees the frame: what a frame's end and its handling make of it, and the verdicts
handed on. -/
theorem State.noticed_link (s : State) (f : Frame) :
    (s.noticed f).link = { s.lineFree.link.handle [f] with
      queue := (s.noticed f).link.queue, nextOrder := (s.noticed f).link.nextOrder
      counts := { s.link.counts with txFail := (s.noticed f).link.counts.txFail } } := by
  have := (s.noticed_sendsOnly f).1
  rw [State.begun_link] at this
  refine this.trans ?_
  simp [Link.handle]

/-! ### The peer table -/

theorem State.judgeMissing_peers (s : State) :
    s.judgeMissing.peers = { s.peers with missing := s.judgeMissing.peers.missing } := by
  unfold State.judgeMissing
  split <;> rfl

/-- The peer table after a frame's acceptance, MISSING_PEER apart (R151, R152, R154). -/
theorem State.noticedOn_peers (s : State) (f : Frame) :
    (s.noticedOn f).peers =
      { ((s.begunOn f).peerHeard f.head f.payload.isBoot).peers with missing := (s.noticedOn f).peers.missing } := by
  have h : (s.noticedOn f).peers =
      (((s.begunOn f).handing fun t => t.peerHeard f.head f.payload.isBoot).judgeMissing).peers := by
    simp [State.noticedOn, State.peerAccept]
  rw [h]
  conv_lhs => rw [State.judgeMissing_peers, State.handing_peers]

theorem State.begunOn_entries (s : State) (f : Frame) (p : Pos) (hp : p ≠ f.head.src) :
    (s.begunOn f).peers.entries[p] = s.peers.entries[p] := by
  have hne : f.head.src.val ≠ p.val := fun h => hp (Fin.ext h.symm)
  unfold State.begunOn State.beforeTest
  split
  · simp [State.forgetSeq, PeerMonitor.setEntry, hne]
  · simp

/-- The entry of the frame's station, and the others (R151, R152). -/
theorem State.noticedOn_entryUpdated (s : State) (f : Frame) : EntryUpdated f s (s.noticedOn f) := by
  have hentries :
      (s.noticedOn f).peers.entries = ((s.begunOn f).peerHeard f.head f.payload.isBoot).peers.entries := by
    rw [State.noticedOn_peers]
  refine ⟨?_, fun q hq => ?_⟩
  · rw [hentries]
    simp [State.peerHeard, PeerMonitor.setEntry, PeerEntry.heard]
  · have hne : f.head.src.val ≠ q.val := fun h => hq (Fin.ext h.symm)
    have hkept : (s.noticedOn f).peers.entries[q] = s.peers.entries[q] := by
      rw [hentries, ← s.begunOn_entries f q hq]
      simp [State.peerHeard, PeerMonitor.setEntry, hne]
    rw [hkept]

theorem State.noticed_entryUpdated (s : State) (f : Frame) : EntryUpdated f s (s.noticed f) := by
  have h := s.lineFree.noticedOn_entryUpdated f
  simpa only [EntryUpdated, OthersKept, State.lineFree_peers, State.noticed] using h

end Sys2Proof.Machine
end

section
/-! PROOFS. The odometry source and its frames (R34, R36 to R43), and the timers of the Odometry Unit and the Peer Monitor
that run out (R35, R42, R153, R154, R157). -/

namespace Sys2Proof.Machine

open Sys2Proof

/-! ### The notice of the Odometry Unit -/

/-- What the Odometry Unit makes of an accepted frame, before the block of its kind (R34, R42). -/
theorem State.noticed_odo (s : State) (f : Frame) : (s.noticed f).odo =
    (((s.begun f).peerAccept f.head f.payload.isBoot).odoNotice f.head f.payload.isBoot).odo := by
  simp [State.noticed, State.noticedOn, State.begun]

@[simp] theorem State.begun_odo (s : State) (f : Frame) : (s.begun f).odo = s.odo :=
  s.begun_unchanged f .odo (by decide)

@[simp] theorem State.peerAccept_odo' (s : State) (f : Frame) :
    ((s.begun f).peerAccept f.head f.payload.isBoot).odo = s.odo := by simp

/-- Outside RUN the Odometry Unit takes no notice. -/
theorem State.noticed_odo_outside (s : State) (f : Frame) (h : s.running = false) : (s.noticed f).odo = s.odo := by
  rw [State.noticed_odo, State.odoNotice, if_pos (by simp [h])]
  simp

/-- A frame of the source that is no boot status frame leaves the Odometry Unit alone when its role is WHEEL. -/
theorem State.noticed_odo_of_source (s : State) (f : Frame) (hs : s.odo.source = some f.head.src)
    (hrole : f.head.role = .wheel) (hb : f.payload.isBoot = false) : (s.noticed f).odo = s.odo := by
  rw [State.noticed_odo, State.odoNotice]
  split
  · simp
  · simp [hs, hrole, hb]

/-- A boot status frame of the source makes the Odometry Unit LOST, the source kept (R42). -/
theorem State.noticed_odo_of_boot (s : State) (f : Frame) (hrun : s.running = true)
    (hs : s.odo.source = some f.head.src) (hrole : f.head.role = .wheel) (hb : f.payload.isBoot = true) :
    (s.noticed f).odo = s.odo.lose := by
  rw [State.noticed_odo, State.odoNotice]
  simp [hs, hrole, hb, hrun, Odometry.lose]

/-- A frame of the source under another role makes the Odometry Unit LOST and the source given up (R42). -/
theorem State.noticed_odo_of_role (s : State) (f : Frame) (hrun : s.running = true)
    (hs : s.odo.source = some f.head.src) (hrole : f.head.role ≠ .wheel) :
    (s.noticed f).odo = s.odo.giveUp (s.noticed f).peers := by
  have hpeers : (s.noticed f).peers = ((s.begun f).peerAccept f.head f.payload.isBoot).peers := by
    simp [State.noticed, State.noticedOn, State.begun]
  rw [State.noticed_odo, hpeers, State.odoNotice]
  simp [hs, hrole, hrun]

/-- An absent source is taken from a frame of role WHEEL (R34). -/
theorem State.noticed_odo_of_absent (s : State) (f : Frame) (hrun : s.running = true) (hs : s.odo.source = none)
    (hrole : f.head.role = .wheel) : (s.noticed f).odo = { s.odo with source := some f.head.src } := by
  rw [State.noticed_odo, State.odoNotice]
  simp [hs, hrole, hrun]

/-- Any other frame leaves the Odometry Unit alone. -/
theorem State.noticed_odo_of_other (s : State) (f : Frame) (hs : s.odo.source ≠ some f.head.src)
    (ho : s.odo.source ≠ none ∨ f.head.role ≠ .wheel) : (s.noticed f).odo = s.odo := by
  have ho' : ¬ (s.odo.source = none ∧ f.head.role = .wheel) := by tauto
  rw [State.noticed_odo, State.odoNotice]
  split
  · simp
  · simp [hs, ho']

/-! ### Odometry frames of the source -/

/-- A frame that starts a baseline anew (R36, R37). -/
theorem Odometry.apply_rebase (o : Odometry) (v : SetupValues) (q : Seq) (l r : Half)
    (h : o.state = .lost ∨ o.holdsTag q = true) : o.apply v q l r = o.rebase q l r := by
  by_cases hl : o.state = .lost
  · simp [Odometry.apply, hl]
  · cases hs : o.state <;> cases hb : o.baseline <;> cases ht : o.tag <;>
      simp_all [Odometry.apply]

/-- A frame with a new seq on a baseline (R37). -/
theorem Odometry.apply_delta {o : Odometry} {lp rp : Half} {tag : Seq} (hstate : o.state ≠ .lost)
    (hbase : o.baseline = some (lp, rp)) (htag : o.tag = some tag) (v : SetupValues) (q : Seq) (l r : Half)
    (h : o.holdsTag q = false) :
    o.apply v q l r = { o with
      state := .tracking, baseline := some (l, r), tag := some q
      ring := ringAppend o.ring (deltaEntry v tag q (countDelta l lp) (countDelta r rp)).1
      lastDs := (deltaEntry v tag q (countDelta l lp) (countDelta r rp)).2, stalled := some stalledTime } := by
  cases hs : o.state with
  | lost => exact absurd hs hstate
  | tracking => simp [Odometry.apply, hs, hbase, htag, h]
  | stalled => simp [Odometry.apply, hs, hbase, htag, h]

@[simp] theorem State.raiseCarry_table_records (s : State) : s.raiseCarry.table.records = s.table.records := by
  unfold State.raiseCarry State.kick
  split
  · simp
  · rfl

@[simp] theorem State.raiseCarry_table_tag (s : State) : s.raiseCarry.table.tag = s.table.tag := by
  unfold State.raiseCarry State.kick
  split
  · simp
  · rfl

/-- An odometry frame of the source, in RUN: the state in which its course ends. -/
def State.tracked (s : State) (h : Head) (d : OdometryData) : State :=
  let v := s.noticed { head := h, payload := .odometry d }
  (v.setOdo (v.odo.apply v.setup h.seq d.left d.right)).awaitCarry

theorem State.odometryFrame_of_source {s : State} {h : Head} {d : OdometryData} (ha : s.Accepts h)
    (hrun : s.running = true) (hrole : h.role = .wheel)
    (hs : (s.noticed { head := h, payload := .odometry d }).odo.source = some h.src) :
    exec (.odometryFrame h d) s = .next (s.tracked h d).raiseCarry.recompute := by
  let f : Frame := { head := h, payload := .odometry d }
  have htakes : s.Takes f := State.Accepts.takes (f := f) ha rfl rfl
  have hblock : (s.noticed f).kindBlock f = (s.noticed f).takeOdometry h.src h.seq d.left d.right true := by
    simp [State.kindBlock, State.odometryBlock, hrun, hrole, f]
  rw [show exec (.odometryFrame h d) s = .next (s.receiveFrame f) from rfl, State.receiveFrame_eq_kindBlock htakes,
    hblock, State.takeOdometry_of_source _ _ _ _ _ _ hs]
  rfl

theorem State.tracked_odo (s : State) (h : Head) (d : OdometryData) : (s.tracked h d).odo =
    (s.noticed { head := h, payload := .odometry d }).odo.apply s.setup h.seq d.left d.right := by
  simp [State.tracked]

@[simp] theorem State.tracked_table (s : State) (h : Head) (d : OdometryData) : (s.tracked h d).table = s.table := by
  simp [State.tracked]

@[simp] theorem State.tracked_running (s : State) (h : Head) (d : OdometryData) :
    (s.tracked h d).running = s.running := by
  simp [State.tracked, State.running]

theorem State.tracked_unchanged (s : State) (h : Head) (d : OdometryData) :
    UnchangedBut [.odo, .table, .link, .peers, .clear, .startup] s (s.tracked h d).raiseCarry.recompute := by
  intro b hb
  cases b <;> simp [Block.same, State.tracked] at hb ⊢

/-- Settles O32: the frame is the source's, sets the baseline, and the carry flag meets the Table Manager busy or
idle. -/
theorem odometryBaselineIsTaken : Obligations.OdometryBaselineIsTaken := by
  intro s h d ha hrun hrole hsource hnew
  let f : Frame := { head := h, payload := .odometry d }
  have hodo : (s.noticed f).odo = { s.odo with source := some h.src } := by
    obtain hs | hs := hsource
    · rw [s.noticed_odo_of_source f hs hrole rfl, ← hs]
    · exact s.noticed_odo_of_absent f hrun hs hrole
  have htracked : (s.tracked h d).odo = { s.odo with
      state := .tracking, source := some h.src, baseline := some (d.left, d.right), tag := some h.seq, ring := []
      lastDs := 0, stalled := some 50000 } := by
    rw [State.tracked_odo, hodo, Odometry.apply_rebase]
    · rfl
    · obtain hl | ht | ⟨e, he, hr⟩ := hnew
      · exact .inl hl
      · exact .inr (by simp [Odometry.holdsTag, ht])
      · exact .inr (by simpa [Odometry.holdsTag] using .inr ⟨e, he, hr⟩)
  refine ⟨_, State.odometryFrame_of_source ha hrun hrole (by rw [hodo]), ?_, ?_, ?_, fun hbusy => ?_, fun hidle => ?_,
    s.tracked_unchanged h d⟩
  · simpa using htracked
  · simp
  · simp
  · rw [State.raiseCarry_of_busy _ (by simpa using hbusy)]
    simp
  · rw [State.raiseCarry_of_idle _ (by simpa using hrun) (by simpa using hidle)]
    simp [State.startCarry, htracked, carryTime]

/-- A pose delta's sub-steps are few when it is small (R39). -/
theorem subStepCount_le_iff (ds dth : Int) :
    subStepCount ds dth ≤ maxSubSteps ↔ dth.natAbs ≤ 4 * 128 ∧ ds.natAbs ≤ 4 * 255 := by
  simp only [subStepCount, ceilDiv, maxTurn, maxMove, maxSubSteps]
  omega

/-- A delta is a motion within the limits of R37 and R39, and a break beyond them. -/
theorem deltaEntry_eq (v : SetupValues) (f t : Seq) (dl dr : Int) : deltaEntry v f t dl dr =
    (let moves : Bool := dl.natAbs ≤ 2047 ∧ dr.natAbs ≤ 2047 ∧ (poseDth v.fh dl dr).natAbs ≤ 4 * 128 ∧
        (poseDs v.fd dl dr).natAbs ≤ 4 * 255
     (if moves then .motion f t (poseDs v.fd dl dr) (poseDth v.fh dl dr) else .brk f t,
       if moves then poseDs v.fd dl dr else 0)) := by
  simp only [deltaEntry, subStepCount_le_iff, jumpLimit]
  generalize poseDs v.fd dl dr = ds
  generalize poseDth v.fh dl dr = dth
  by_cases hjump : dl.natAbs ≤ 2047 ∧ dr.natAbs ≤ 2047
  · rw [if_neg (by omega)]
    obtain ⟨hl, hr⟩ := hjump
    by_cases hfew : dth.natAbs ≤ 4 * 128 ∧ ds.natAbs ≤ 4 * 255
    · simp [hl, hr, hfew]
    · rw [if_neg hfew]
      simp only [hl, hr, hfew, and_false, decide_false, Bool.false_eq_true, if_false]
  · rw [if_pos (by omega)]
    have hno (p : Prop) : ¬ (dl.natAbs ≤ 2047 ∧ dr.natAbs ≤ 2047 ∧ p) := fun h => hjump ⟨h.1, h.2.1⟩
    simp only [hno, decide_false, Bool.false_eq_true, if_false]

/-- The newest entries of a full ring (R40). -/
theorem ringAppend_eq_drop {ring : List RingEntry} (h : ring.length ≤ 4) (e : RingEntry) :
    ringAppend ring e = ring.drop (ring.length - 3) ++ [e] := by
  unfold ringAppend ringSize
  split
  next hlt => rw [show ring.length - 3 = 0 by omega, List.drop_zero]
  next hge => rw [show ring.length - 3 = 1 by omega]

/-- Settles O33: the frame's deltas give a motion or a break, by the limits of R37 and R39. -/
theorem odometryDeltaIsApplied : Obligations.OdometryDeltaIsApplied := by
  intro s h d l r tag ha hrun hrole hs hstate hbase htag hne hring hlen
  let f : Frame := { head := h, payload := .odometry d }
  have hodo : (s.noticed f).odo = s.odo := s.noticed_odo_of_source f hs hrole rfl
  have hnew : s.odo.holdsTag h.seq = false := by
    simpa [Odometry.holdsTag, htag, hne] using hring
  have htracked := (State.tracked_odo s h d).trans <| (congrArg (Odometry.apply · s.setup h.seq d.left d.right) hodo).trans
    (Odometry.apply_delta hstate hbase htag s.setup h.seq d.left d.right hnew)
  refine ⟨_, State.odometryFrame_of_source ha hrun hrole (by rw [hodo, hs]), ?_, ?_, ?_, s.tracked_unchanged h d⟩
  · simp only [State.recompute_odo, State.raiseCarry_odo, htracked, ringAppend_eq_drop hlen, deltaEntry_eq]
    rfl
  · simpa [htracked] using (s.tracked h d).raiseCarry_pends (by simpa using hrun)
  · simp

/-! ### Holds and timers -/

theorem State.someMissing_iff (s : State) : s.someMissing = true ↔ ∃ p : Pos, p ≠ s.startup.pos ∧
    s.peers.entries[p].expected = true ∧ s.peers.entries[p].state ≠ .alive := by
  simp [State.someMissing, and_assoc]

/-- Settles O35: each expiry clears its timer, and the flag is what is left. -/
theorem holdsAndTimersRunOut : Obligations.HoldsAndTimersRunOut := by
  refine ⟨fun s hrun => ⟨fun ht hs => ?_, fun ht => ?_⟩, fun s => ⟨fun hr ht => ?_, fun hr ht => ?_, fun hrun ht => ?_⟩⟩
  · have hend : s.stalledTimerExpiry = (s.setOdo { s.odo with state := .stalled, stalled := none }).notify s true := by
      simp [State.stalledTimerExpiry, hrun, ht, hs]
    refine ⟨_, congrArg Host.Outcome.next hend, by simp, by simp [State.flags], fun b hb => ?_⟩
    cases b <;> simp [Block.same] at hb ⊢
  · have hend : s.odoClashHoldExpiry = (s.setOdo { s.odo with clashHold := none }).notify s false := by
      simp [State.odoClashHoldExpiry, hrun, ht]
    refine ⟨_, congrArg Host.Outcome.next hend, by simp, by simp [State.flags_roleClash], fun b hb => ?_⟩
    cases b <;> simp [Block.same] at hb ⊢
  · have hend : s.posHoldExpiry = (s.setPeers { s.peers with posHold := none }).notify s false := by
      simp [State.posHoldExpiry, hr, ht]
    refine ⟨_, congrArg Host.Outcome.next hend, by simp, by simp [State.flags], fun b hb => ?_⟩
    cases b <;> simp [Block.same] at hb ⊢
  · have hend : s.roleHoldExpiry = (s.setPeers { s.peers with roleHold := none }).notify s false := by
      simp [State.roleHoldExpiry, hr, ht]
    refine ⟨_, congrArg Host.Outcome.next hend, by simp, by simp [State.flags_roleClash], fun b hb => ?_⟩
    cases b <;> simp [Block.same] at hb ⊢
  · let u := s.setPeers { s.peers with missingTimer := none }
    have hend : s.missingTimerExpiry = u.handing State.judgeMissing := by
      simp [State.missingTimerExpiry, hrun, ht, u]
    have hpeers : u.judgeMissing.peers = { u.peers with missing := u.someMissing } := by
      simp [State.judgeMissing, show u.running = true from hrun, show u.peers.missingTimer = none from rfl]
    refine ⟨_, congrArg Host.Outcome.next hend, ?_, ?_, rfl, fun b hb => ?_⟩
    · rw [State.handing_peers, hpeers]
      rfl
    · rw [State.handing_peers, hpeers]
      exact u.someMissing_iff
    · cases b <;> simp [Block.same, u] at hb ⊢

end Sys2Proof.Machine
end

section
/-! PROOFS. What every frame that is taken in leaves behind (R150 to R157, R161, R174), what becomes of the frames that
are not taken in at once (R153, R174, R175), and the peers that fall silent (R151, R155). -/

namespace Sys2Proof.Machine

open Sys2Proof

/-! ### What the block of a frame's kind keeps -/

/-- The link's marks of a frame that is taken in: its buffer, its handling, the line and the receive counts. -/
def TakenIn (f : Frame) (quiet free : Prop) (k : Counts) (t : State) : Prop :=
  t.link.rx = [f] ∧ (∃ h, t.link.handling = some h ∧ h.timer = 8) ∧ (quiet → t.link.yield = false) ∧
  (free → t.link.line = .idle 0) ∧ t.link.counts.duplicate = k.duplicate ∧ t.link.counts.overrun = k.overrun ∧
  t.link.counts.malformed = k.malformed

/-- Two handlings with the same timer. -/
theorem exists_handling_map {o : Option Handling} {g : Handling → Handling} (hg : ∀ h, (g h).timer = h.timer)
    (h : ∃ k, o = some k ∧ k.timer = 8) : ∃ k, o.map g = some k ∧ k.timer = 8 := by
  obtain ⟨k, rfl, hk⟩ := h
  exact ⟨g k, rfl, (hg k).trans hk⟩

@[simp] theorem State.count_handling (s : State) (i : CountId) : (s.count i).link.handling = s.link.handling := rfl

/-- The blocks that frames are for touch none of it: they count other counts. -/
theorem takenIn_reads {f : Frame} {quiet free : Prop} {k : Counts} {s t : State} (h : TakenIn f quiet free k s)
    (hl : t.link.rx = s.link.rx) (hh : t.link.handling = s.link.handling) (hy : t.link.yield = s.link.yield)
    (hline : t.link.line = s.link.line) (hd : t.link.counts.duplicate = s.link.counts.duplicate)
    (ho : t.link.counts.overrun = s.link.counts.overrun) (hm : t.link.counts.malformed = s.link.counts.malformed) :
    TakenIn f quiet free k t := by
  unfold TakenIn at h ⊢
  rwa [hl, hh, hy, hline, hd, ho, hm]

theorem TakenIn.of_sendsOnly {f : Frame} {quiet free : Prop} {k : Counts} {s t : State} (h : TakenIn f quiet free k s)
    (hst : SendsOnly s t) : TakenIn f quiet free k t := by
  refine takenIn_reads h ?_ ?_ ?_ ?_ ?_ ?_ ?_ <;> rw [hst.1]

theorem TakenIn.formBoot {f : Frame} {quiet free : Prop} {k : Counts} {s : State} (h : TakenIn f quiet free k s)
    (c : ProgressCode) : TakenIn f quiet free k (s.formBoot c) := by
  unfold State.formBoot
  exact TakenIn.of_sendsOnly (by exact takenIn_reads h rfl rfl rfl rfl rfl rfl rfl) (State.enqueue_sendsOnly _ _ _)

theorem TakenIn.formPendingBoot {f : Frame} {quiet free : Prop} {k : Counts} {s : State} (h : TakenIn f quiet free k s)
    (c : ProgressCode) : TakenIn f quiet free k (s.formPendingBoot c) := by
  unfold State.formPendingBoot
  exact TakenIn.formBoot (by exact takenIn_reads h rfl rfl rfl rfl rfl rfl rfl) c

/-- What the blocks do on a frame keeps the marks of its taking in. -/
theorem takenIn_blockKept (f : Frame) (quiet free : Prop) (k : Counts) : BlockKept (TakenIn f quiet free k) where
  reads s t hl _ _ _ h := takenIn_reads h (by rw [hl]) (by rw [hl]) (by rw [hl]) (by rw [hl]) (by rw [hl]) (by rw [hl])
    (by rw [hl])
  count s i hi h := by
    refine takenIn_reads h rfl rfl rfl rfl ?_ ?_ ?_ <;> cases i <;> simp_all [isBlockCount, State.count, Counts.inc]
  enqueue s p u h := h.of_sendsOnly (s.enqueue_sendsOnly p u)
  handling s g hg h := by
    obtain ⟨hrx, hhandling, hrest⟩ := h
    exact ⟨hrx, exists_handling_map hg hhandling, hrest⟩
  recompute s h := h.of_sendsOnly s.recompute_sendsOnly
  enterRun s v h := by
    have hboot := h.formBoot .c1
    have hblocks : TakenIn f quiet free k ((s.formBoot .c1).runBlocks v) := by
      refine takenIn_reads hboot ?_ ?_ ?_ ?_ ?_ ?_ ?_ <;> rw [State.runBlocks_link]
    rw [State.enterRun_eq]
    refine TakenIn.of_sendsOnly ?_ (State.recompute_sendsOnly _)
    have henc : TakenIn f quiet free k ((s.formBoot .c1).runBlocks v).encoderEnterRun := by
      unfold State.encoderEnterRun
      split
      · exact TakenIn.of_sendsOnly (s := State.setEnc _ _) hblocks (State.enqueue_sendsOnly _ _ _)
      · exact hblocks
    refine takenIn_reads henc ?_ ?_ ?_ ?_ ?_ ?_ ?_ <;> rw [State.clearEnterRun_link]
  rejoin s h := by
    have hrejoined : TakenIn f quiet free k s.rejoined := by
      obtain ⟨hrx, hhandling, -, hline, hcounts⟩ := h
      exact ⟨hrx, hhandling, fun _ => rfl, hline, hcounts⟩
    rw [State.rejoin_eq]
    exact takenIn_reads (hrejoined.formPendingBoot .c2) rfl rfl rfl rfl rfl rfl rfl

/-- The peer entries and the clash holds go on, the expected fields apart. -/
def PeersFollow (s t : State) : Prop :=
  (∀ q : Pos, t.peers.entries[q] = { s.peers.entries[q] with expected := t.peers.entries[q].expected }) ∧
  t.peers.roleHold = s.peers.roleHold ∧ t.peers.posHold = s.peers.posHold

theorem PeersFollow.of_eq {s t : State} (h : t.peers = s.peers) : PeersFollow s t := by simp [PeersFollow, h]

theorem PeersFollow.of_expect {s t : State} (set : Byte)
    (he : t.peers.entries = (s.peers.expect set).entries) (hr : t.peers.roleHold = s.peers.roleHold)
    (hp : t.peers.posHold = s.peers.posHold) : PeersFollow s t := by
  refine ⟨fun q => ?_, hr, hp⟩
  rw [he]
  simp [PeerMonitor.expect]

theorem State.setupBlock_peersFollow (s : State) (h : Head) (d : SetupData) : PeersFollow s (s.setupBlock h d) := by
  unfold State.setupBlock
  split
  · exact .of_eq rfl
  · split
    · exact .of_eq rfl
    · unfold State.trySetup
      split
      next p0 p1 p2 p3 _ _ _ _ =>
        have hpeers : ((s.setStartup (s.startup.holdPart d.part)).enterRun (clampSetup p0 p1 p2 p3)).peers =
            s.peers.enterRun (clampSetup p0 p1 p2 p3).expected := by simp [State.enterRun]
        refine .of_expect (clampSetup p0 p1 p2 p3).expected ?_ ?_ ?_ <;> rw [hpeers] <;> rfl
      · exact .of_eq rfl

theorem State.rejoinBlock_peersFollow (s : State) (h : Head) (d : Pos) : PeersFollow s (s.rejoinBlock h d) := by
  unfold State.rejoinBlock
  split
  · exact .of_eq rfl
  · split
    · exact .of_eq rfl
    · split
      · have hpeers : s.rejoin.peers = s.peers.rejoin := by rw [State.rejoin_eq]; simp [State.rejoined]
        refine .of_expect 0 ?_ ?_ ?_ <;> rw [hpeers] <;> rfl
      · exact .of_eq rfl

theorem State.modeBlock_peersFollow (s : State) (h : Head) (v : Byte) : PeersFollow s (s.modeBlock h v) := by
  unfold State.modeBlock
  split
  · exact .of_eq rfl
  · split
    · exact .of_eq rfl
    · split
      · exact .of_eq rfl
      · simp [PeersFollow]

/-- The block of a frame's kind leaves the peer table to the Peer Monitor. -/
theorem State.kindBlock_peersFollow (s : State) (f : Frame) : PeersFollow s (s.kindBlock f) := by
  unfold State.kindBlock
  split
  · exact .of_eq (by simp)
  · exact .of_eq (by simp)
  · exact .of_eq rfl
  · exact .of_eq (by simp)
  · exact .of_eq (by simp)
  · exact .of_eq rfl
  · exact .of_eq rfl
  · exact s.setupBlock_peersFollow _ _
  · exact s.modeBlock_peersFollow _ _
  · exact s.rejoinBlock_peersFollow _ _

theorem EntryUpdated.follow {f : Frame} {s t u : State} (h : EntryUpdated f s t) (htu : PeersFollow t u) :
    EntryUpdated f s u := by
  obtain ⟨hsrc, hothers⟩ := h
  obtain ⟨hentries, -⟩ := htu
  refine ⟨?_, fun q hq => ?_⟩
  · rw [hentries f.head.src, hsrc]
  · rw [hentries q, hothers q hq]

/-- The source by the entries, which the block of the kind leaves. -/
theorem State.SourceRenewed.follow {s t : State} (h : s.SourceRenewed) (ho : t.odo.source = s.odo.source)
    (hp : PeersFollow s t) : t.SourceRenewed := by
  obtain ⟨hentries, -⟩ := hp
  have halive (q : Pos) : t.aliveWheel q ↔ s.aliveWheel q := by
    unfold State.aliveWheel
    rw [hentries q]
  simpa only [State.SourceRenewed, halive, ho] using h

/-! ### The clash of roles -/

theorem State.begunOn_clashes (s : State) (f : Frame) :
    (s.begunOn f).clashes f.head f.payload.isBoot = s.clashes f.head f.payload.isBoot := by
  have hst (p : Pos) : (s.begunOn f).peers.entries[p].state = s.peers.entries[p].state ∧
      (s.begunOn f).peers.entries[p].role = s.peers.entries[p].role := by
    by_cases hp : p = f.head.src
    · subst hp
      unfold State.begunOn State.beforeTest
      split <;> simp [State.forgetSeq, PeerMonitor.setEntry]
    · rw [s.begunOn_entries f p hp]
      exact ⟨rfl, rfl⟩
  have hrole : (s.begunOn f).startup.role = s.startup.role := by
    unfold State.begunOn State.beforeTest
    split <;> simp [State.forgetSeq]
  simp only [State.clashes, PeerMonitor.otherHolds, hst, hrole]

theorem State.clashes_iff (s : State) (f : Frame) :
    s.clashes f.head f.payload.isBoot = true ↔ s.RoleClashes f := by
  have hany (r : HeadRole) : s.peers.otherHolds f.head.src r = true ↔ ∃ p : Pos, p ≠ f.head.src ∧
      (s.peers.entries[p].state = .alive ∨ s.peers.entries[p].state = .silent) ∧
      s.peers.entries[p].role = some r := by
    simp [PeerMonitor.otherHolds, and_assoc]
  simp only [State.clashes, State.RoleClashes, Bool.or_eq_true, Bool.and_eq_true, decide_eq_true_eq, hany,
    Option.any_eq_true, Bool.not_eq_true', or_assoc]
  simp [← and_assoc]

/-- ROLE_CLASH's hold after a frame's acceptance (R154), and the other hold. -/
theorem State.noticed_holds (s : State) (f : Frame) :
    (s.noticed f).peers.roleHold = (if s.clashes f.head f.payload.isBoot then some clashHoldTime
      else s.peers.roleHold) ∧ (s.noticed f).peers.posHold = s.peers.posHold := by
  have hclash : (s.lineFree.begunOn f).clashes f.head f.payload.isBoot = s.clashes f.head f.payload.isBoot := by
    rw [State.begunOn_clashes]
    simp [State.clashes, PeerMonitor.otherHolds]
  have hkept : (s.lineFree.begunOn f).peers.roleHold = s.peers.roleHold ∧
      (s.lineFree.begunOn f).peers.posHold = s.peers.posHold := by
    unfold State.begunOn State.beforeTest
    split <;> simp [State.forgetSeq, PeerMonitor.setEntry]
  rw [State.noticed, State.noticedOn_peers]
  simp only [State.peerHeard, State.setPeers_peers, PeerMonitor.setEntry, hclash, hkept, and_self]

/-! ### The source given up -/

theorem PeerMonitor.aliveWheels_head?_eq_some {m : PeerMonitor} {p : Pos} (h : m.aliveWheels.head? = some p) :
    (m.entries[p].state = .alive ∧ m.entries[p].role = some .wheel) ∧
    ∀ q : Pos, q < p → ¬ (m.entries[q].state = .alive ∧ m.entries[q].role = some .wheel) := by
  rw [PeerMonitor.aliveWheels, List.head?_filter, List.find?_eq_some_iff_getElem] at h
  obtain ⟨hp, i, hi, rfl, hbefore⟩ := h
  refine ⟨by simpa using hp, fun q hq => ?_⟩
  rw [not_and_or]
  simpa using hbefore q.val (by simpa [Fin.lt_def] using hq)

/-- The source that the peer table names (R42). -/
theorem State.sourceRenewed_of_eq {s : State} (h : s.odo.source = s.peers.aliveWheels.head?) : s.SourceRenewed := by
  refine ⟨fun p hp => ?_, fun hnone q hq => ?_⟩
  · exact PeerMonitor.aliveWheels_head?_eq_some (h ▸ hp)
  · rw [h, List.head?_eq_none_iff, PeerMonitor.aliveWheels, List.filter_eq_nil_iff] at hnone
    exact hnone q (List.mem_finRange q) (by simpa [State.aliveWheel] using hq)

theorem Odometry.isLost_lose (o : Odometry) : o.lose.IsLost := ⟨rfl, rfl, rfl, rfl, rfl, rfl⟩

theorem Odometry.isLost_giveUp (o : Odometry) (m : PeerMonitor) : (o.giveUp m).IsLost := o.isLost_lose

/-- Only odometry frames, completing setup parts and taken rejoin orders act on the Odometry Unit beside its notice. -/
theorem State.kindBlock_odo {s : State} {f : Frame} (ho : f.payload.isOdometry = false)
    (hsetup : ∀ d, f.payload = .setup d → s.running = true)
    (hrejoin : ∀ p, f.payload = .rejoin p → p ≠ s.startup.pos ∨ f.head.role ≠ .controller) :
    (s.kindBlock f).odo = s.odo := by
  unfold State.kindBlock
  split
  next d hp => simp [hp, Payload.isOdometry] at ho
  · simp
  · rfl
  · simp
  · simp
  · rfl
  · rfl
  next d hp =>
    have hnode : s.startup.node = .run := by simpa [State.running] using hsetup d hp
    unfold State.setupBlock
    split
    · rfl
    · rw [if_pos (by simp [hnode])]
      simp
  · simp
  next p hp =>
    unfold State.rejoinBlock
    split
    · rfl
    next hpos =>
      rw [if_pos ((hrejoin p hp).resolve_left hpos)]
      simp

/-! ### A frame that is taken in -/

theorem State.Takes.noticed_takenIn {s : State} {f : Frame} (h : s.Takes f) :
    TakenIn f True (s.link.onLine = none) s.link.counts (s.noticed f) := by
  obtain ⟨hrecv, -⟩ := h
  have hl := State.onLink_of_receiving hrecv
  refine TakenIn.of_sendsOnly ?_ (s.noticed_sendsOnly f)
  unfold TakenIn
  simp only [State.begun_link, Link.handle, State.lineFree_link_counts, and_self, and_true, true_and]
  exact ⟨⟨_, rfl, rfl⟩, fun _ => State.lineFree_link_yield hl, State.lineFree_link_line hl⟩

theorem State.noticed_missing {s : State} {f : Frame} (hrun : s.running = true) (ht : s.peers.missingTimer = none) :
    (s.noticed f).peers.missing = (s.noticed f).someMissing := by
  let w := (s.begun f).handing fun t => t.peerHeard f.head f.payload.isBoot
  have hw : (s.noticed f).peers = w.judgeMissing.peers := by simp [State.noticed, State.noticedOn, State.begun,
    State.peerAccept, w]
  have hwrun : w.running = true := by simpa [w, State.peerHeard] using hrun
  have htimer : w.peers.missingTimer = none := by
    have : (s.begun f).peers.missingTimer = s.peers.missingTimer := by
      unfold State.begun State.begunOn State.beforeTest
      split <;> simp [State.forgetSeq, PeerMonitor.setEntry]
    simpa [w, State.peerHeard, PeerMonitor.setEntry, this] using ht
  have hjudged : w.judgeMissing.peers = { w.peers with missing := w.someMissing } := by
    simp [State.judgeMissing, hwrun, htimer]
  have hpos : w.startup.pos = s.startup.pos := by
    have hsends := (State.notify_sendsOnly ((s.begun f).peerHeard f.head f.payload.isBoot) (s.begun f) false).2
    exact (congrArg Startup.pos hsends).trans (by simp [State.peerHeard])
  simp only [State.someMissing, hw, hjudged, State.noticed_startup_pos, hpos]

/-- The Odometry Unit after a frame of a kind that does not act further on it (R34, R42). -/
theorem State.noticed_odo_cases (s : State) (f : Frame) {t : State} (ho : t.odo = (s.noticed f).odo)
    (hp : PeersFollow (s.noticed f) t) :
    (s.running = false → t.odo = s.odo) ∧
    (s.running = true → s.odo.source = some f.head.src →
      (f.head.role ≠ .wheel → t.odo.IsLost ∧ t.SourceRenewed) ∧
      (f.head.role = .wheel → f.payload.isBoot = true → t.odo.IsLost ∧ t.odo.source = some f.head.src) ∧
      (f.head.role = .wheel → f.payload.isBoot = false → t.odo = s.odo)) ∧
    (s.running = true → s.odo.source = none → f.head.role = .wheel →
      t.odo = { s.odo with source := some f.head.src }) ∧
    (s.odo.source ≠ some f.head.src → s.odo.source ≠ none ∨ f.head.role ≠ .wheel → t.odo = s.odo) := by
  refine ⟨fun hrun => ?_, fun hrun hsrc => ⟨fun hr => ?_, fun hr hb => ?_, fun hr hb => ?_⟩,
    fun hrun hnone hr => ?_, fun hsrc hor => ?_⟩
  · rw [ho, State.noticed_odo_outside s f hrun]
  · have hgive := State.noticed_odo_of_role s f hrun hsrc hr
    refine ⟨by rw [ho, hgive]; exact Odometry.isLost_giveUp _ _, ?_⟩
    refine State.SourceRenewed.follow (State.sourceRenewed_of_eq ?_) (by rw [ho]) hp
    simp only [hgive, Odometry.giveUp]
  · rw [ho, State.noticed_odo_of_boot s f hrun hsrc hr hb]
    exact ⟨Odometry.isLost_lose _, hsrc⟩
  · rw [ho, State.noticed_odo_of_source s f hsrc hr hb]
  · rw [ho, State.noticed_odo_of_absent s f hrun hnone hr]
  · rw [ho, State.noticed_odo_of_other s f hsrc hor]

theorem State.Takes.exec_eq {s : State} {f : Frame} (h : s.Takes f) :
    exec (frameCommand f) s = .next ((s.noticed f).kindBlock f) := by
  rw [exec_frameCommand, State.receiveFrame_eq_kindBlock h]

/-- Verdicts, health reports and boot status frames have no block of their own. -/
theorem State.kindBlock_of_report (s : State) {f : Frame} (h : (∃ d, frameCommand f = .verdict f.head d) ∨
    (∃ d, frameCommand f = .healthReport f.head d) ∨ (∃ d, frameCommand f = .bootStatus f.head d)) :
    s.kindBlock f = s := by
  obtain ⟨hd, p⟩ := f
  cases p <;> simp_all [frameCommand, State.kindBlock]

/-- Settles O49: the Peer Monitor's and the Odometry Unit's notice, which the block of the kind leaves as they are. -/
theorem acceptedFramesUpdateTheirPeer : Obligations.AcceptedFramesUpdateTheirPeer := by
  intro s f htakes
  have hfollow := (s.noticed f).kindBlock_peersFollow f
  refine ⟨?_, fun ho hsetup hrejoin => ?_, ?_⟩
  · have htaken := (takenIn_blockKept f True (s.link.onLine = none) s.link.counts).kindBlock htakes.noticed_takenIn f
    obtain ⟨hrx, hhandling, hyield, hline, hdup, hover, hmal⟩ := htaken
    obtain ⟨-, hrole, hpos⟩ := hfollow
    obtain ⟨hroleHold, hposHold⟩ := s.noticed_holds f
    refine ⟨_, htakes.exec_eq, s.noticed_entryUpdated f |>.follow (State.kindBlock_peersFollow _ _), hrx, hhandling,
      hyield trivial, hline, fun hc => ?_, fun hc => ?_, hpos.trans hposHold, hdup, hover, hmal⟩
    · rw [hrole, hroleHold, if_pos ((s.clashes_iff f).2 hc)]
      rfl
    · rw [hrole, hroleHold, if_neg (mt (s.clashes_iff f).1 hc)]
  · exact ⟨_, htakes.exec_eq, s.noticed_odo_cases f
      (State.kindBlock_odo ho (by simpa using hsetup) (by simpa using hrejoin)) hfollow⟩
  · rintro c rfl hc
    refine ⟨_, htakes.exec_eq.trans (congrArg Host.Outcome.next (State.kindBlock_of_report _ hc)), fun hrun ht => ?_,
      fun b hb => s.noticed_unchanged f b ?_⟩
    · rw [State.noticed_missing hrun ht, State.someMissing_iff, State.noticed_startup_pos]
    · simp_all

end Sys2Proof.Machine
end

section
/-! PROOFS. What becomes of the frames that are not taken in at once (R153, R174, R175), and of the peers that fall silent
(R151, R155, R157). -/

namespace Sys2Proof.Machine

open Sys2Proof

/-! ### Frames that are buffered, dropped or from the own position -/

theorem State.lineFree_unchanged (s : State) : UnchangedBut [.link] s s.lineFree := by
  intro b hb
  cases b <;> simp [Block.same] at hb ⊢

theorem State.setLink_unchanged (s : State) (l : Link) : UnchangedBut [.link] s (s.setLink l) := by
  intro b hb
  cases b <;> simp [Block.same] at hb ⊢

theorem UnchangedBut.trans {bs : List Block} {s t u : State} (hst : UnchangedBut bs s t) (htu : UnchangedBut bs t u) :
    UnchangedBut bs s u := by
  intro b hb
  have h1 := hst b hb
  have h2 := htu b hb
  cases b <;> exact h2.trans h1

theorem UnchangedBut.mono {bs cs : List Block} {s t : State} (h : UnchangedBut bs s t) (hbs : ∀ b ∈ bs, b ∈ cs) :
    UnchangedBut cs s t := fun b hb => h b fun hb' => hb (hbs b hb')

theorem State.receiveFrame_not_receiving {s : State} {f : Frame} (h : s.receiving = false) :
    s.receiveFrame f = s.lineFree := by
  simp [State.receiveFrame, h]

theorem State.receiveFrame_of_wf {s : State} {f : Frame} (h : s.receiving = true) (hwf : f.payload.wf = true) :
    s.receiveFrame f = s.lineFree.bufferFrame f := by
  simp [State.receiveFrame, h, hwf]

/-- A repeated frame frees its buffer at once (R175). -/
theorem State.handOn_repeat {s : State} {f : Frame} (h : s.isRepeat f = true) :
    s.handOn [f] = (s.count .duplicate).setLink { (s.count .duplicate).link with rx := [], handling := none } := by
  have hb : f.payload.isBoot = false := by
    have := h
    simp only [State.isRepeat, Bool.and_eq_true, Bool.not_eq_true'] at this
    exact this.1
  have hbefore : s.beforeTest f = s := by simp [State.beforeTest, hb]
  rw [State.handOn, if_pos (by rw [State.beforeTest_isDuplicate, h]), hbefore, State.handOn]

/-- A frame from the own position (R153). -/
theorem State.handOn_own {s : State} {f : Frame} (hrep : s.isRepeat f = false) (hsrc : f.head.src = s.startup.pos) :
    s.handOn [f] = (s.begunOn f).posClash.notify (s.begunOn f) false := by
  have hpos : (s.begunOn f).startup.pos = s.startup.pos := by
    unfold State.begunOn State.beforeTest
    split <;> simp [State.forgetSeq]
  have hframe : (s.begunOn f).handFrame f = (s.begunOn f).posClash.notify (s.begunOn f) false := by
    rw [State.handFrame, if_pos (by rw [hpos, hsrc])]
  rw [State.handOn_fresh hrep, hframe]

theorem State.begunOn_unchanged (s : State) (f : Frame) : UnchangedBut [.link, .peers] s (s.begunOn f) := by
  intro b hb
  unfold State.begunOn State.beforeTest
  split <;> cases b <;> simp [Block.same, State.forgetSeq] at hb ⊢

/-- The state after a frame from the own position. -/
theorem State.ownFrame_effect (s : State) {f : Frame} {t : State}
    (ht : t = (s.begunOn f).posClash.notify (s.begunOn f) false) :
    t.peers.posHold = some 1000000 ∧ t.flags.posClash = true ∧ t.link.rx = [f] ∧
    (f.payload.isBoot = false → t.peers.entries = s.peers.entries) ∧ OthersKept f.head.src s t ∧
    UnchangedBut [.peers, .link, .clear, .startup] s t := by
  have hpeers : t.peers = { (s.begunOn f).peers with posHold := some clashHoldTime } := by
    rw [ht, State.notify_peers]
    rfl
  have hlink := (State.notify_sendsOnly (s.begunOn f).posClash (s.begunOn f) false).1
  refine ⟨by rw [hpeers]; rfl, by simp [State.flags, hpeers], ?_, fun hb => ?_, fun q hq => ?_, fun b hb => ?_⟩
  · rw [ht, hlink]
    rfl
  · rw [hpeers]
    simp [State.begunOn, State.beforeTest, hb]
  · have hq' := s.begunOn_entries f q hq
    rw [hpeers]
    simp only [hq']
  · have hbegun : b ∉ [Block.link, .peers] → b.same s (s.begunOn f) := s.begunOn_unchanged f b
    cases b <;> simp_all [Block.same, State.posClash]

/-- A frame that completes frees the line and ends the routine yield (R161, R165). -/
theorem State.receiveFrame_line {s : State} {f : Frame} (hl : s.onLink = true) (ho : s.link.onLine = none)
    (hwf : f.payload.wf = true) :
    (s.receiveFrame f).link.line = .idle 0 ∧ (s.receiveFrame f).link.yield = false := by
  have hfree := State.lineFree_link_line hl ho
  have hyield := State.lineFree_link_yield hl
  cases hr : s.receiving
  · rw [State.receiveFrame_not_receiving hr]
    exact ⟨hfree, hyield⟩
  · rw [State.receiveFrame_of_wf hr hwf, State.bufferFrame]
    split
    · exact ⟨hfree, hyield⟩
    · split
      next hrx =>
        cases hrep : s.lineFree.isRepeat f
        · by_cases hsrc : f.head.src = s.lineFree.startup.pos
          · have hlink := (State.notify_sendsOnly (s.lineFree.begunOn f).posClash (s.lineFree.begunOn f) false).1
            rw [State.handOn_own hrep hsrc, hlink]
            exact ⟨hfree, hyield⟩
          · have htakes : s.Takes f := ⟨hr, by simpa using hrx, by simpa using hsrc, by simpa using hrep, hwf⟩
            have htaken := (takenIn_blockKept f True (s.link.onLine = none) s.link.counts).kindBlock htakes.noticed_takenIn f
            obtain ⟨-, -, hy, hi, -⟩ := htaken
            rw [State.handOn_new_eq_kindBlock hsrc hrep]
            exact ⟨hi ho, hy trivial⟩
        · rw [State.handOn_repeat hrep]
          exact ⟨hfree, hyield⟩
      · exact ⟨hfree, hyield⟩

/-- The marks of a frame that is handed on. -/
theorem State.noticedOn_takenIn (s : State) (f : Frame) : TakenIn f False False s.link.counts (s.noticedOn f) :=
  have hbegun : TakenIn f False False s.link.counts (s.begunOn f) :=
    ⟨rfl, ⟨{ timer := handlingTime, wait := .no }, rfl, rfl⟩, False.elim, False.elim, by simp [State.begunOn, Link.handle]⟩
  hbegun.of_sendsOnly (s.noticedOn_sendsOnly f)

/-- The frame that completes takes a free buffer, and is handed on at once when both are free (R174). -/
theorem State.bufferFrame_of_full {s : State} {f : Frame} (h : 2 ≤ s.link.rx.length) :
    s.bufferFrame f = s.count .overrun := if_pos h

theorem State.bufferFrame_of_one {s : State} {f : Frame} (h : s.link.rx.length = 1) :
    s.bufferFrame f = s.setLink { s.link with rx := s.link.rx ++ [f] } := by
  rw [State.bufferFrame, if_neg (by simp [h, rxBuffers]), if_neg (by intro h0; simp [h0] at h)]

theorem State.bufferFrame_of_none {s : State} {f : Frame} (h : s.link.rx = []) : s.bufferFrame f = s.handOn [f] := by
  simp [State.bufferFrame, h, rxBuffers]

/-- The block of a handled frame's kind leaves its marks. -/
theorem State.frameHandlingEnd_eq {s : State} {h : Handling} {g : Frame} {rest : List Frame}
    (hr : s.receiving = true) (hh : s.link.handling = some h) (hw : h.wait = .no) (hrx : s.link.rx = g :: rest) :
    s.frameHandlingEnd = s.handOn rest := by
  simp [State.frameHandlingEnd, hr, hh, hw, hrx]

/-- Settles O50: what becomes of a frame by the buffers, by its seq and by its source. -/
theorem framesAreBufferedInOrder : Obligations.FramesAreBufferedInOrder := by
  refine ⟨fun s f hwf => ?_, fun s h g rest hr hh hw hrx => ?_⟩
  · refine ⟨_, exec_frameCommand f s, fun hr => ?_, fun hr hrx => ?_, fun hr hrx => ?_, fun hr hrx hrep => ?_,
      fun hr hrx hrep hsrc => ?_, fun hl ho => State.receiveFrame_line hl ho hwf⟩
    · rw [State.receiveFrame_not_receiving hr]
      exact ⟨s.lineFree_unchanged, by simp, by simp, by simp⟩
    · rw [State.receiveFrame_of_wf hr hwf, State.bufferFrame_of_full (by simpa using hrx)]
      refine ⟨s.lineFree_unchanged.trans (State.setLink_unchanged _ _), by simp, ?_⟩
      simp [State.count, Counts.inc]
    · rw [State.receiveFrame_of_wf hr hwf, State.bufferFrame_of_one (by simpa using hrx)]
      exact ⟨s.lineFree_unchanged.trans (State.setLink_unchanged _ _), by simp, by simp, by simp⟩
    · rw [State.receiveFrame_of_wf hr hwf, State.bufferFrame_of_none (by simpa using hrx),
        State.handOn_repeat (by simpa using hrep)]
      refine ⟨s.lineFree_unchanged.trans ((State.setLink_unchanged _ _).trans (State.setLink_unchanged _ _)),
        rfl, rfl, ?_⟩
      simp [State.count, Counts.inc]
    · rw [State.receiveFrame_of_wf hr hwf, State.bufferFrame_of_none (by simpa using hrx),
        State.handOn_own (by simpa using hrep) (by simpa using hsrc)]
      obtain ⟨hhold, hflag, hbuf, hentries, hothers, hkept⟩ := s.lineFree.ownFrame_effect (f := f) rfl
      refine ⟨hhold, hflag, hbuf, by simpa using hentries, by simpa [OthersKept] using hothers, ?_⟩
      refine UnchangedBut.trans (fun b hb => s.lineFree_unchanged b ?_) hkept
      simp_all
  · have hend := State.frameHandlingEnd_eq hr hh hw hrx
    refine ⟨_, congrArg Host.Outcome.next hend, fun hrest => ?_, fun f hrest hsrc hrep => ?_, fun f hrest hrep => ?_⟩
    · subst hrest
      exact ⟨rfl, State.setLink_unchanged _ _⟩
    · subst hrest
      rw [State.handOn_new_eq_kindBlock hsrc hrep]
      have htaken := (takenIn_blockKept f False False s.link.counts).kindBlock (s.noticedOn_takenIn f) f
      obtain ⟨hbuf, hhandling, -⟩ := htaken
      exact ⟨(s.noticedOn_entryUpdated f).follow (State.kindBlock_peersFollow _ _), hbuf, hhandling⟩
    · subst hrest
      rw [State.handOn_repeat hrep]
      exact ⟨rfl, rfl, rfl, (State.setLink_unchanged _ _).trans (State.setLink_unchanged _ _)⟩

end Sys2Proof.Machine
end

section
/-! PROOFS. What an item that comes to the request FIFO makes of it, of the check it belongs to and of the counts (R50,
R52, R53, R105), and the checks that resolve (R102 to R104, R155). -/

namespace Sys2Proof.Machine

open Sys2Proof

/-! ### The request FIFO -/

/-- The FIFO after an item's arrival (R52, R53). -/
def pushed (i : Item) (fifo : List Item) : List Item :=
  if fifo.length < fifoSize then fifo ++ [i]
  else if i.isKept && fifo.any Item.nonCliff then dropNonCliff fifo ++ [i]
  else fifo

/-- An outcome finds no place, and its check ends (R105). -/
def outcomeLost (i : Item) (fifo : List Item) : Bool :=
  i.isOutcome && !(decide (fifo.length < fifoSize) || fifo.any Item.nonCliff)

theorem State.pushItem_of_room {s : State} (i : Item) (h : s.table.fifo.length < fifoSize) :
    s.pushItem i = s.setTable { s.table with fifo := s.table.fifo ++ [i] } := if_pos h

/-- At a full FIFO an own CLIFF observation or an outcome may take a place (R53). -/
theorem State.pushItem_of_kept {s : State} {i : Item} (h : ¬ s.table.fifo.length < fifoSize) (hi : i.isKept = true) :
    s.pushItem i = s.pushOverNonCliff i := by
  unfold State.pushItem
  rw [if_neg h]
  cases i <;> simp_all [Item.isKept]

/-- Any other item but a lookup is discarded. -/
theorem State.pushItem_of_not_kept {s : State} {i : Item} (h : ¬ s.table.fifo.length < fifoSize)
    (hi : i.isKept = false) (hl : i.isLookup = false) : s.pushItem i = s.count .tableDiscard := by
  unfold State.pushItem
  rw [if_neg h]
  cases i <;> simp_all [Item.isKept, Item.isLookup]

theorem Item.cases (i : Item) : i.isKept = true ∨ (i.isKept = false ∧ i.isLookup = false) ∨
    ∃ q d x y t, i = .lookup q d x y t := by
  cases i
  case own k o x y t => cases hk : k.isCliff <;> simp [Item.isKept, Item.isLookup, hk]
  all_goals simp [Item.isKept, Item.isLookup]

theorem State.pushItem_table (s : State) (i : Item) :
    (s.pushItem i).table = { s.table with fifo := pushed i s.table.fifo } := by
  unfold pushed
  split
  next h => rw [State.pushItem_of_room i h]; rfl
  next h =>
    obtain hi | ⟨hi, hl⟩ | ⟨q, d, x, y, t, rfl⟩ := i.cases
    · rw [State.pushItem_of_kept h hi, State.pushOverNonCliff, hi, Bool.true_and]
      split
      · rfl
      · split <;> rfl
    · rw [State.pushItem_of_not_kept h hi hl, hi]
      rfl
    · rw [State.pushItem, if_neg h]
      simp [Item.isKept]

theorem State.pushItem_report' (s : State) (i : Item) :
    (s.pushItem i).report = if outcomeLost i s.table.fifo then s.report.drop else s.report := by
  by_cases h : s.table.fifo.length < fifoSize
  · rw [State.pushItem_of_room i h]
    simp [outcomeLost, h]
  · obtain hi | ⟨hi, hl⟩ | ⟨q, d, x, y, t, rfl⟩ := i.cases
    · rw [State.pushItem_of_kept h hi, State.pushOverNonCliff]
      by_cases hany : s.table.fifo.any Item.nonCliff = true
      · rw [if_pos hany]
        simp [outcomeLost, hany]
      · rw [if_neg hany]
        cases ho : i.isOutcome <;> simp [outcomeLost, h, ho, Bool.eq_false_iff.2 hany]
    · have ho : i.isOutcome = false := by cases i <;> simp_all [Item.isKept, Item.isOutcome]
      rw [State.pushItem_of_not_kept h hi hl]
      simp [outcomeLost, ho]
    · rw [State.pushItem, if_neg h]
      simp [outcomeLost, Item.isOutcome]

theorem State.pushItem_tableDiscard (s : State) {i : Item} (hl : i.isLookup = false) :
    (s.pushItem i).link.counts.tableDiscard =
      if s.table.fifo.length < fifoSize then s.link.counts.tableDiscard else satInc s.link.counts.tableDiscard := by
  by_cases h : s.table.fifo.length < fifoSize
  · rw [State.pushItem_of_room i h, if_pos h]
    rfl
  · rw [if_neg h]
    cases hi : i.isKept
    · rw [State.pushItem_of_not_kept h hi hl]
      rfl
    · rw [State.pushItem_of_kept h hi, State.pushOverNonCliff]
      split
      · rfl
      · split <;> rfl

/-- The oldest non-CLIFF observation leaves (R53). -/
theorem dropNonCliff_append {before after : List Item} {x : Item} (hx : x.nonCliff = true)
    (hb : ∀ b ∈ before, b.nonCliff = false) : dropNonCliff (before ++ x :: after) = before ++ after := by
  induction before with
  | nil => simp [dropNonCliff, hx]
  | cons b before ih =>
    have hb' : b.nonCliff = false := hb b (by simp)
    simp [dropNonCliff, hb', ih fun c hc => hb c (by simp [hc])]

theorem dropNonCliff_sublist (fifo : List Item) : (dropNonCliff fifo).Sublist fifo := by
  induction fifo with
  | nil => exact List.Sublist.slnil
  | cons i is ih =>
    unfold dropNonCliff
    split
    · exact List.sublist_cons_self _ _
    · exact ih.cons_cons _

theorem length_dropNonCliff {fifo : List Item} (h : fifo.any Item.nonCliff = true) :
    (dropNonCliff fifo).length + 1 = fifo.length := by
  induction fifo with
  | nil => simp at h
  | cons i is ih =>
    unfold dropNonCliff
    split
    · rfl
    next hi =>
      have h' : is.any Item.nonCliff = true := by simpa [hi] using h
      simpa using ih h'

theorem ReportHandler.atRest_drop (r : ReportHandler) : r.drop.AtRest := ⟨rfl, rfl, rfl, rfl, rfl, rfl, rfl⟩

/-! ### An item that has come -/

/-- What an arrival is judged by. -/
theorem ItemAtFull.of_eqs {i : Item} {s t : State} (hfull : ¬ s.table.fifo.length < fifoSize)
    (htable : t.table = { s.table with fifo := pushed i s.table.fifo })
    (hcount : t.link.counts.tableDiscard = satInc s.link.counts.tableDiscard)
    (hrest : outcomeLost i s.table.fifo = true → t.report.AtRest) : ItemAtFull i s t := by
  have hfifo : t.table.fifo =
      if i.isKept && s.table.fifo.any Item.nonCliff then dropNonCliff s.table.fifo ++ [i] else s.table.fifo := by
    rw [htable, pushed, if_neg hfull]
  refine ⟨by rw [htable], hcount, fun hi => by rw [hfifo]; simp [hi], fun hi => ⟨fun before after x hf hx hb => ?_,
    fun hnone => ?_⟩⟩
  · have hany : s.table.fifo.any Item.nonCliff = true := by simp [hf, hx]
    rw [hfifo, hi, hany, hf, dropNonCliff_append hx hb]
    simp
  · have hany : s.table.fifo.any Item.nonCliff = false := by simpa using hnone
    refine ⟨by rw [hfifo, hi, hany]; rfl, fun ho => hrest ?_⟩
    simp [outcomeLost, ho, hfull, hany]

/-- An item that comes to the FIFO, and that an idle Table Manager takes, has entered it. -/
theorem ItemEntered.of_kick {i : Item} {s u : State} (hrun : u.running = true)
    (htable : u.table = { s.table with fifo := pushed i s.table.fifo })
    (hcount : i.isLookup = false → s.table.fifo.length = fifoSize →
      u.link.counts.tableDiscard = satInc s.link.counts.tableDiscard)
    (hrest : outcomeLost i s.table.fifo = true → u.report.AtRest) : ItemEntered i s u.kick := by
  have hwork : u.table.work = s.table.work := by rw [htable]
  refine ⟨fun hbusy hroom => ?_, fun hl hbusy hfull => ?_, fun hidle hf hc ha => ?_⟩
  · rw [State.kick_of_busy u (by rwa [hwork]), htable, pushed, if_pos hroom]
    exact ⟨rfl, rfl⟩
  · rw [State.kick_of_busy u (by rwa [hwork])]
    exact .of_eqs (by simp [hfull]) htable (hcount hl hfull) hrest
  · have hfifo : u.table.fifo = [i] := by rw [htable]; simp [pushed, hf, fifoSize]
    have hflag : u.table.carryFlag = false := by rw [htable]; exact hc
    have hage : u.table.pendingAge = 0 := by rw [htable]; exact ha
    have hrecords : u.table.records = s.table.records := by rw [htable]
    rw [u.kick_of_idle hrun (by rwa [hwork]), u.takeWork_of_fifo hflag hage i [] hfifo, hrecords]
    exact ⟨rfl, rfl, rfl⟩

/-- What a later change leaves of it. -/
theorem ItemEntered.congr {i : Item} {s t s' t' : State} (h : ItemEntered i s t) (hs : s'.table = s.table)
    (hsc : s'.link.counts.tableDiscard = s.link.counts.tableDiscard) (ht : t'.table = t.table)
    (htc : t'.link.counts.tableDiscard = t.link.counts.tableDiscard) (htr : t'.report = t.report) :
    ItemEntered i s' t' := by
  unfold ItemEntered ItemAtFull at h ⊢
  rwa [hs, hsc, ht, htc, htr]

/-- An observation enters the FIFO (R50, R52, R53). -/
theorem State.observe_entered (s : State) (i : Item) (hrun : s.running = true) : ItemEntered i s (s.observe i) := by
  refine .of_kick (by simpa using hrun) (s.pushItem_table i) (fun hl hfull => ?_) fun hlost => ?_
  · rw [s.pushItem_tableDiscard hl, if_neg (by simp [hfull])]
  · rw [s.pushItem_report', if_pos hlost]
    exact ReportHandler.atRest_drop _

end Sys2Proof.Machine
end

section
/-! PROOFS. The verdicts that a frame's notice may hand on leave room in the queue (R128, R171); then hazard reports and
check requests (R53, R97, R112), check answers (R102 to R105) and the peers that are lost (R155). -/

namespace Sys2Proof.Machine

open Sys2Proof

/-! ### Verdicts take one place -/

/-- Fewer than `n` entries, or no more than `n` with a verdict among them. -/
def VerdictRoom (n : Nat) (q : List TxEntry) : Prop := q.length < n ∨ q.length ≤ n ∧ ∃ e ∈ q, e.payload.isVerdict = true

theorem length_raiseQueued_le (q : List TxEntry) (p : Payload) : (raiseQueued q p).length ≤ q.length := by
  obtain h | ⟨e, he, hlike, h⟩ := raiseQueued_cases q p <;> rw [h]
  rw [(placeNew_perm _ _).length_eq, List.length_cons]
  have hmem : 0 < (q.filter fun x => x.payload.coalesces p).length :=
    List.length_pos_of_mem (List.mem_filter.mpr ⟨he, hlike⟩)
  have hsplit := List.length_eq_length_filter_add (l := q) fun x => x.payload.coalesces p
  omega

theorem length_replaceQueued_le (q : List TxEntry) (p : Payload) (u : Bool) : (replaceQueued q p u).length ≤ q.length := by
  unfold replaceQueued
  split
  · exact (length_raiseQueued_le _ _).trans (by simp [replaceContent])
  · simp [replaceContent]

/-- An entry that is replaced stays in the queue under its new payload (R171). -/
theorem exists_mem_replaceQueued {q : List TxEntry} {p : Payload} (u : Bool) (h : (queuedLike q p).isSome = true)
    (hp : p.coalesces p = true) : ∃ e ∈ replaceQueued q p u, e.payload = p := by
  cases u
  · obtain ⟨e, he⟩ := Option.isSome_iff_exists.1 h
    have hlike : e.payload.coalesces p = true := by simpa using List.find?_some he
    exact ⟨_, List.mem_map.2 ⟨e, List.mem_of_find?_eq_some he, if_pos hlike⟩, rfl⟩
  · obtain ⟨e, he, hep, -⟩ := mem_replaceQueued_of_like hp h
    exact ⟨e, he, hep⟩

/-- A verdict handed on takes one place at most (R171). -/
theorem State.enqueue_verdictRoom {s : State} {n : Nat} (d : VerdictData) (u : Bool) (hn : n < txQueueSize)
    (h : VerdictRoom n s.link.queue) : VerdictRoom n (s.enqueue (.verdict d) u).link.queue := by
  have hself : (Payload.verdict d).coalesces (.verdict d) = true := rfl
  have hlen : s.link.queue.length ≤ n := h.elim le_of_lt And.left
  by_cases hlike : (queuedLike s.link.queue (.verdict d)).isSome
  · rw [State.enqueue, if_pos hlike]
    obtain ⟨e, he, hep⟩ := exists_mem_replaceQueued u hlike hself
    exact .inr ⟨(length_replaceQueued_le _ _ _).trans hlen, e, he, by rw [hep]; rfl⟩
  · have hnone : queuedLike s.link.queue (.verdict d) = none := by simpa using hlike
    have hfew : s.link.queue.length < n := by
      refine h.resolve_right fun ⟨_, e, he, hv⟩ => ?_
      have hlike' : e.payload.coalesces (.verdict d) = true := by
        rw [Payload.coalesces, hv]
        rfl
      exact absurd hlike' (List.find?_eq_none.1 hnone e he)
    rw [s.enqueue_of_room _ u hnone (hfew.trans hn), State.setLink_link]
    refine .inr ⟨?_, newEntry (.verdict d) u s.link.nextOrder, mem_placeNew_self _ _, rfl⟩
    rw [(placeNew_perm _ _).length_eq, List.length_cons]
    exact hfew

section
variable {n : Nat} (hn : n < txQueueSize)
include hn

theorem State.recompute_verdictRoom {s : State} (h : VerdictRoom n s.link.queue) :
    VerdictRoom n s.recompute.link.queue := by
  unfold State.recompute
  split
  · unfold State.judgeVerdict
    split
    · exact h
    · exact State.enqueue_verdictRoom (s := State.setClear _ _) _ _ hn h
  · exact h

theorem State.notify_verdictRoom {s : State} (b : State) (w : Bool) (h : VerdictRoom n s.link.queue) :
    VerdictRoom n (s.notify b w).link.queue := by
  unfold State.notify
  split
  · exact State.recompute_verdictRoom hn h
  · exact h

/-- The notice of a frame hands on verdicts only (R127, R150). -/
theorem State.noticedOn_verdictRoom {s : State} (f : Frame) (h : VerdictRoom n s.link.queue) :
    VerdictRoom n (s.noticedOn f).link.queue := by
  have hheard : VerdictRoom n ((s.begunOn f).handing fun t => t.peerHeard f.head f.payload.isBoot).link.queue :=
    State.notify_verdictRoom hn _ _ h
  have hmissing : VerdictRoom n ((s.begunOn f).peerAccept f.head f.payload.isBoot).link.queue := by
    refine State.notify_verdictRoom hn _ _ ?_
    rwa [State.judgeMissing_link]
  refine State.notify_verdictRoom hn _ _ ?_
  rwa [State.odoNotice_link]

theorem State.noticed_verdictRoom {s : State} (f : Frame) (h : VerdictRoom n s.link.queue) :
    VerdictRoom n (s.noticed f).link.queue := State.noticedOn_verdictRoom hn f (by simpa using h)

end

theorem VerdictRoom.lt {n m : Nat} {q : List TxEntry} (h : VerdictRoom n q) (hn : n < m) : q.length < m := by
  obtain h | ⟨h, -⟩ := h <;> omega

/-! ### What an observation leaves alone -/

@[simp] theorem State.pushItem_table_records (s : State) (i : Item) :
    (s.pushItem i).table.records = s.table.records := by rw [State.pushItem_table]

@[simp] theorem State.kick_table_records (s : State) : s.kick.table.records = s.table.records := by
  unfold State.kick
  split <;> simp

@[simp] theorem State.observe_table_records (s : State) (i : Item) : (s.observe i).table.records = s.table.records := by
  simp [State.observe]

theorem State.observe_unchanged (s : State) {i : Item} (hi : i.isOutcome = false) :
    UnchangedBut [.table, .link, .startup] s (s.observe i) := by
  have hreport : (s.pushItem i).report = s.report := by simp [State.pushItem_report', outcomeLost, hi]
  intro b hb
  cases b <;> simp_all [Block.same, State.observe]

/-- A lookup at a full FIFO is answered NONE at once (R53). -/
theorem State.pushItem_lookup_at_full (s : State) (q : Pos) (id : BitVec 4) (x y : Int) (t : Option Seq)
    (h : s.table.fifo.length = fifoSize) : s.pushItem (.lookup q id x y t) = s.sendAnswer q id .none 0 := by
  unfold State.pushItem
  rw [if_neg (by simp [h])]

theorem State.noticed_tableDiscard (s : State) (f : Frame) :
    (s.noticed f).link.counts.tableDiscard = s.link.counts.tableDiscard := by rw [State.noticed_link]

/-- An item that a frame brings (R97, R112). -/
theorem State.noticed_observe_entered {s : State} (f : Frame) (i : Item) (hrun : s.running = true) :
    ItemEntered i s ((s.noticed f).observe i) :=
  ((s.noticed f).observe_entered i (by simpa using hrun)).congr (by simp) (s.noticed_tableDiscard f).symm rfl rfl rfl

theorem State.noticed_observe_unchanged (s : State) (f : Frame) {i : Item} (hi : i.isOutcome = false) :
    UnchangedBut [.table, .odo, .peers, .link, .clear, .startup] s ((s.noticed f).observe i) :=
  ((s.noticed_unchanged f).mono (by decide)).trans (((s.noticed f).observe_unchanged hi).mono (by decide))

/-- The blocks use frames of these kinds in RUN only, from roles SENSE and WHEEL (R97, R112). -/
theorem unused_of_role {run : Bool} {r : HeadRole} (h : run = false ∨ r = .controller ∨ r = .other) :
    ¬ (run && (r = .sense || r = .wheel)) = true := by
  obtain rfl | rfl | rfl := h <;> simp

section
variable {s : State} {h : Head}

theorem State.hazardBlock_used (d : HazardData) (hrun : s.running = true) (hrole : h.role = .sense ∨ h.role = .wheel) :
    s.hazardBlock h d = s.observe (reportItem h d) := if_pos (by simpa [hrun] using hrole)

theorem State.hazardBlock_unused (d : HazardData)
    (hor : s.running = false ∨ h.role = .controller ∨ h.role = .other) : s.hazardBlock h d = s :=
  if_neg (unused_of_role hor)

theorem State.requestBlock_used (d : CheckRequestData) (hrun : s.running = true)
    (hrole : h.role = .sense ∨ h.role = .wheel) : s.requestBlock h d = s.observe (lookupItem h d) :=
  if_pos (by simpa [hrun] using hrole)

theorem State.requestBlock_unused (d : CheckRequestData)
    (hor : s.running = false ∨ h.role = .controller ∨ h.role = .other) : s.requestBlock h d = s :=
  if_neg (unused_of_role hor)

theorem State.Takes.exec_hazardReport {d : HazardData} (ht : s.Takes { head := h, payload := .hazard d }) :
    exec (.hazardReport h d) s =
      .next ((s.noticed { head := h, payload := .hazard d }).hazardBlock h d) := ht.exec_eq

theorem State.Takes.exec_checkRequest {d : CheckRequestData}
    (ht : s.Takes { head := h, payload := .checkRequest d }) : exec (.checkRequest h d) s =
      .next ((s.noticed { head := h, payload := .checkRequest d }).requestBlock h d) := ht.exec_eq

end

/-- A report at a Table Manager at work with a full FIFO is discarded and counted (R53). -/
theorem State.noticed_observe_report_at_full (s : State) (f : Frame) (h : Head) (d : HazardData)
    (hbusy : s.table.work ≠ .idle) (hfull : s.table.fifo.length = fifoSize) :
    ((s.noticed f).observe (reportItem h d)).table = s.table ∧
    ((s.noticed f).observe (reportItem h d)).link.counts.tableDiscard = satInc s.link.counts.tableDiscard := by
  rw [State.observe, State.kick_of_busy _ (by simpa [State.pushItem_table] using hbusy), State.pushItem_table,
    State.pushItem_tableDiscard _ rfl, State.noticed_tableDiscard, State.noticed_table, if_neg (by simp [hfull])]
  simp [pushed, hfull, reportItem, Item.isKept]

/-- A request there is answered NONE (R53). -/
theorem State.noticed_observe_lookup_at_full (s : State) (f : Frame) (h : Head) (d : CheckRequestData)
    (hbusy : s.table.work ≠ .idle) (hfull : s.table.fifo.length = fifoSize) (hroom : s.link.queue.length < 5) :
    ((s.noticed f).observe (lookupItem h d)).table = s.table ∧
    Queued (answerFrame h.src d.id .none 0) true ((s.noticed f).observe (lookupItem h d)) := by
  have hpush : (s.noticed f).pushItem (lookupItem h d) = (s.noticed f).sendAnswer h.src d.id .none 0 :=
    State.pushItem_lookup_at_full _ _ _ _ _ _ (by simpa using hfull)
  have hroom' := State.noticed_verdictRoom (by decide) f (.inl hroom)
  rw [State.observe, State.kick_of_busy _ (by simpa [State.pushItem_table] using hbusy), hpush]
  exact ⟨by simp, State.sendAnswer_queued _ _ _ _ _ (hroom'.lt (by decide))⟩

/-- Settles O48: the item enters the FIFO behind the notice of its frame, which hands on verdicts only. -/
theorem reportsAndRequestsEnterTheFifo : Obligations.ReportsAndRequestsEnterTheFifo := by
  refine fun s h ha => ⟨fun d hwf => ?_, fun d => ?_⟩
  · have htakes : s.Takes { head := h, payload := .hazard d } := ha.takes hwf rfl
    refine ⟨fun hrun hrole => ⟨_, htakes.exec_hazardReport, ?_⟩, fun hor => ⟨_, htakes.exec_hazardReport, ?_⟩⟩
    · rw [State.hazardBlock_used d (by simpa using hrun) hrole]
      exact ⟨State.noticed_observe_entered _ _ hrun, s.noticed_observe_report_at_full _ _ _, by simp,
        s.noticed_observe_unchanged _ rfl⟩
    · rw [State.hazardBlock_unused d (by simpa using hor)]
      exact s.noticed_unchanged _
  · have htakes : s.Takes { head := h, payload := .checkRequest d } := ha.takes rfl rfl
    refine ⟨fun hrun hrole => ⟨_, htakes.exec_checkRequest, ?_⟩, fun hor => ⟨_, htakes.exec_checkRequest, ?_⟩⟩
    · rw [State.requestBlock_used d (by simpa using hrun) hrole]
      exact ⟨State.noticed_observe_entered _ _ hrun, s.noticed_observe_lookup_at_full _ _ _, by simp,
        s.noticed_observe_unchanged _ rfl⟩
    · rw [State.requestBlock_unused d (by simpa using hor)]
      exact s.noticed_unchanged _

end Sys2Proof.Machine
end

section
/-! PROOFS. Checks that resolve (R102 to R105), and the peers that fall silent or are lost (R151, R155, R157). -/

namespace Sys2Proof.Machine

open Sys2Proof

/-! ### A check that resolves -/

theorem State.resolveCheck_running (s : State) : s.resolveCheck.running = s.running := by
  unfold State.resolveCheck
  split <;> simp [State.markResolved]

/-- The report state of a check that has resolved (R104). -/
def ReportHandler.resolved (r : ReportHandler) : ReportHandler := { r with phase := .resolved, checkTimer := none }

theorem ReportHandler.AtRest.checking {s : State} (h : s.report.AtRest) : s.flags.checking = false := by
  obtain ⟨hphase, -⟩ := h
  simp [State.flags, ReportHandler.isChecking, hphase]

section
variable {s : State} {slot : Slot} (h : s.report.outstanding = some slot)
include h

theorem State.resolveCheck_eq : s.resolveCheck =
    (s.handing State.markResolved).handing fun t => t.pushItem (.outcome (outcomeOf s.report.answers) slot) := by
  simp only [State.resolveCheck, h]

theorem State.resolveCheck_table : s.resolveCheck.table =
    { s.table with fifo := pushed (.outcome (outcomeOf s.report.answers) slot) s.table.fifo } := by
  rw [State.resolveCheck_eq h, State.handing_table, State.pushItem_table]
  simp

theorem State.resolveCheck_report : s.resolveCheck.report =
    if outcomeLost (.outcome (outcomeOf s.report.answers) slot) s.table.fifo then s.report.resolved.drop
    else s.report.resolved := by
  rw [State.resolveCheck_eq h, State.handing_report, State.pushItem_report']
  simp [State.markResolved, ReportHandler.resolved]

theorem State.resolveCheck_tableDiscard : s.resolveCheck.link.counts.tableDiscard =
    if s.table.fifo.length < fifoSize then s.link.counts.tableDiscard else satInc s.link.counts.tableDiscard := by
  have hmarked : (s.handing State.markResolved).link.counts.tableDiscard = s.link.counts.tableDiscard := by
    rw [State.handing, (State.notify_sendsOnly _ _ _).1]
    rfl
  rw [State.resolveCheck_eq h, State.handing, (State.notify_sendsOnly _ _ _).1]
  refine (State.pushItem_tableDiscard _ rfl).trans ?_
  rw [hmarked]
  simp

/-- The outcome enters the FIFO (R104, R105). -/
theorem State.resolveCheck_entered (hrun : s.running = true) :
    ItemEntered (.outcome (outcomeOf s.report.answers) slot) s s.resolveCheck.kick := by
  refine .of_kick (s.resolveCheck_running.trans hrun) (State.resolveCheck_table h) (fun _ hfull => ?_) fun hlost => ?_
  · rw [State.resolveCheck_tableDiscard h, if_neg (by simp [hfull])]
  · rw [State.resolveCheck_report h, if_pos hlost]
    exact ReportHandler.atRest_drop _

/-- The check is over, or its outcome waits (R105). -/
theorem State.resolveCheck_report_cases :
    (s.table.fifo.length < 8 ∨ (∃ x ∈ s.table.fifo, x.nonCliff = true) → s.resolveCheck.report = s.report.resolved) ∧
    (8 ≤ s.table.fifo.length → (∀ x ∈ s.table.fifo, x.nonCliff = false) → s.resolveCheck.report.AtRest) := by
  rw [State.resolveCheck_report h]
  refine ⟨fun hor => if_neg ?_, fun hfull hnone => ?_⟩
  · obtain hroom | hany := hor
    · simp [outcomeLost, fifoSize, hroom]
    · simpa [outcomeLost, Item.isOutcome] using fun _ => hany
  · rw [if_pos (by simpa [outcomeLost, Item.isOutcome, fifoSize, Nat.not_lt.2 hfull] using hnone)]
    exact ReportHandler.atRest_drop _

end

theorem State.resolveCheck_kick_unchanged (s : State) :
    UnchangedBut [.report, .table, .link, .clear, .startup] s s.resolveCheck.kick := by
  intro b hb
  cases b <;> simp [Block.same] at hb ⊢

@[simp] theorem State.resolveCheck_table_records (s : State) : s.resolveCheck.table.records = s.table.records := by
  unfold State.resolveCheck
  split <;> simp

theorem State.resolveCheck_lateAnswer (s : State) :
    s.resolveCheck.link.counts.lateAnswer = s.link.counts.lateAnswer := by
  cases h : s.report.outstanding with
  | none => simp [State.resolveCheck, h]
  | some slot =>
    rw [State.resolveCheck_eq h, State.handing, (State.notify_sendsOnly _ _ _).1]
    refine (State.pushItem_link_counts_lateAnswer _ _).trans ?_
    rw [State.handing, (State.notify_sendsOnly _ _ _).1]
    rfl

/-! ### Check answers -/

theorem State.noticed_lateAnswer (s : State) (f : Frame) :
    (s.noticed f).link.counts.lateAnswer = s.link.counts.lateAnswer := by rw [State.noticed_link]

theorem State.count_lateAnswer (s : State) :
    (s.count .lateAnswer).link.counts.lateAnswer = satInc s.link.counts.lateAnswer := rfl

theorem State.noticed_answerCase (s : State) (f : Frame) (h : Head) (d : CheckAnswerData) :
    (s.noticed f).answerCase h d = s.answerCase h d := by simp [State.answerCase]

section
variable {s : State} {h : Head} {d : CheckAnswerData}

theorem State.answerCase_other (hd : d.dest ≠ s.startup.pos) : s.answerCase h d = .ignored := if_pos hd

theorem State.answerCase_recorded (hd : d.dest = s.startup.pos) (hrun : s.running = true)
    (hp : s.report.phase = .awaiting) (hid : s.report.checkId = some d.id) (hsrc : h.src ∈ s.report.awaited) :
    s.answerCase h d = .recorded := by
  simp [State.answerCase, hd, hrun, hp, hid, hsrc]

theorem State.answerCase_repeated (hd : d.dest = s.startup.pos) (hrun : s.running = true)
    (hp : s.report.phase = .awaiting) (hid : s.report.checkId = some d.id) (hsrc : h.src ∉ s.report.awaited)
    (ha : ∃ a ∈ s.report.answers, a.src = h.src) : s.answerCase h d = .ignored := by
  simpa [State.answerCase, hd, hrun, hp, hid, hsrc] using ha

theorem State.answerCase_unasked (hd : d.dest = s.startup.pos) (hrun : s.running = true)
    (hp : s.report.phase = .awaiting) (hid : s.report.checkId = some d.id) (hsrc : h.src ∉ s.report.awaited)
    (ha : ∀ a ∈ s.report.answers, a.src ≠ h.src) : s.answerCase h d = .late := by
  simpa [State.answerCase, hd, hrun, hp, hid, hsrc] using ha

theorem State.answerCase_closed (hd : d.dest = s.startup.pos)
    (hor : s.running = false ∨ s.report.phase ≠ .awaiting ∨ s.report.checkId ≠ some d.id) :
    s.answerCase h d = .late := by
  rw [State.answerCase, if_neg (by simpa using hd), if_neg]
  obtain hr | hp | hid := hor
  · simp [hr]
  · simp [hp]
  · simp [hid]

end

theorem outcomeOf_eq (as : List AnswerSoFar) : outcomeOf as =
    if ∃ a ∈ as, a.answer = .cliff then .confirm
    else if ∃ a ∈ as, a.answer = .darkRug ∧ 8 ≤ a.conf then .overrule
    else .confirm := by
  simp only [outcomeOf, List.any_eq_true, Bool.and_eq_true, decide_eq_true_eq]
  rfl

/-- The report state with an answer recorded (R102). -/
def ReportHandler.recorded (r : ReportHandler) (h : Head) (d : CheckAnswerData) : ReportHandler :=
  { r with
    awaited := r.awaited.filter (· ≠ h.src)
    answers := r.answers ++ [{ src := h.src, answer := d.answer, conf := d.conf.toNat }] }

theorem State.answerBlock_ignored {s : State} {h : Head} {d : CheckAnswerData} (hc : s.answerCase h d = .ignored) :
    s.answerBlock h d = s := by simp [State.answerBlock, hc]

theorem State.answerBlock_late {s : State} {h : Head} {d : CheckAnswerData} (hc : s.answerCase h d = .late) :
    s.answerBlock h d = s.count .lateAnswer := by simp [State.answerBlock, hc]

theorem State.answerBlock_recorded {s : State} {h : Head} {d : CheckAnswerData} (hc : s.answerCase h d = .recorded) :
    s.answerBlock h d = if s.report.awaited.filter (· ≠ h.src) = [] then
      (s.setReport (s.report.recorded h d)).resolveCheck.kick else s.setReport (s.report.recorded h d) := by
  simp only [State.answerBlock, hc]
  rfl

theorem State.answerBlock_unchanged (s : State) (h : Head) (d : CheckAnswerData) :
    UnchangedBut [.report, .table, .link, .clear, .startup] s (s.answerBlock h d) := by
  intro b hb
  cases b <;> simp [Block.same] at hb ⊢

theorem State.Takes.exec_checkAnswer {s : State} {h : Head} {d : CheckAnswerData} (ha : s.Accepts h) :
    exec (.checkAnswer h d) s =
      .next ((s.noticed { head := h, payload := .checkAnswer d }).answerBlock h d) :=
  (State.Accepts.takes (f := { head := h, payload := .checkAnswer d }) ha rfl rfl).exec_eq

section
variable {s : State} {f : Frame} {h : Head} {d : CheckAnswerData}

/-- An answer that is ignored leaves the report state and the count (R102). -/
theorem State.noticed_answer_ignored (hc : s.answerCase h d = .ignored) :
    ((s.noticed f).answerBlock h d).report = s.report ∧
    ((s.noticed f).answerBlock h d).link.counts.lateAnswer = s.link.counts.lateAnswer := by
  rw [State.answerBlock_ignored (by rw [State.noticed_answerCase, hc])]
  exact ⟨s.noticed_report f, s.noticed_lateAnswer f⟩

/-- An answer that is late is counted (R102). -/
theorem State.noticed_answer_late (hc : s.answerCase h d = .late) :
    ((s.noticed f).answerBlock h d).report = s.report ∧
    ((s.noticed f).answerBlock h d).link.counts.lateAnswer = satInc s.link.counts.lateAnswer := by
  rw [State.answerBlock_late (by rw [State.noticed_answerCase, hc])]
  exact ⟨by simp, by rw [State.count_lateAnswer, s.noticed_lateAnswer f]⟩

/-- An answer that is recorded, others being awaited (R102). -/
theorem State.noticed_answer_recorded (hc : s.answerCase h d = .recorded)
    (hrest : s.report.awaited.filter (· ≠ h.src) ≠ []) :
    (s.noticed f).answerBlock h d = (s.noticed f).setReport (s.report.recorded h d) := by
  rw [State.answerBlock_recorded (by rw [State.noticed_answerCase, hc]), State.noticed_report, if_neg hrest]

/-- The last answer resolves the check (R104). -/
theorem State.noticed_answer_last (hc : s.answerCase h d = .recorded)
    (hrest : s.report.awaited.filter (· ≠ h.src) = []) : (s.noticed f).answerBlock h d =
      ((s.noticed f).setReport (s.report.recorded h d)).resolveCheck.kick := by
  rw [State.answerBlock_recorded (by rw [State.noticed_answerCase, hc]), State.noticed_report, if_pos hrest]

theorem State.noticed_answer_lateAnswer (hc : s.answerCase h d = .recorded) :
    ((s.noticed f).answerBlock h d).link.counts.lateAnswer = s.link.counts.lateAnswer := by
  by_cases hrest : s.report.awaited.filter (· ≠ h.src) = []
  · rw [State.noticed_answer_last hc hrest, State.kick_link_counts, State.resolveCheck_lateAnswer,
      State.setReport_link, s.noticed_lateAnswer f]
  · rw [State.noticed_answer_recorded hc hrest, State.setReport_link, s.noticed_lateAnswer f]

/-- What the last answer leaves of the check (R104, R105). -/
theorem State.recorded_resolves {u : State} {slot : Slot} (htable : u.table = s.table) (hrun : u.running = true)
    (hdiscard : u.link.counts.tableDiscard = s.link.counts.tableDiscard) (ho : u.report.outstanding = some slot) :
    (s.table.fifo.length < 8 ∨ (∃ x ∈ s.table.fifo, x.nonCliff = true) →
      u.resolveCheck.kick.report = u.report.resolved) ∧
    (8 ≤ s.table.fifo.length → (∀ x ∈ s.table.fifo, x.nonCliff = false) →
      u.resolveCheck.kick.report.AtRest ∧ u.resolveCheck.kick.flags.checking = false) ∧
    ItemEntered (.outcome (if ∃ a ∈ u.report.answers, a.answer = .cliff then .confirm
      else if ∃ a ∈ u.report.answers, a.answer = .darkRug ∧ 8 ≤ a.conf then .overrule
      else .confirm) slot) s u.resolveCheck.kick := by
  obtain ⟨hresolved, hlost⟩ := State.resolveCheck_report_cases ho
  have hreport : u.resolveCheck.kick.report = u.resolveCheck.report := State.kick_report _
  rw [htable] at hresolved hlost
  refine ⟨fun hor => by rw [hreport, hresolved hor], fun h8 hnone => ?_, ?_⟩
  · have hat : u.resolveCheck.kick.report.AtRest := hreport ▸ hlost h8 hnone
    exact ⟨hat, hat.checking⟩
  · rw [← outcomeOf_eq]
    exact (State.resolveCheck_entered ho hrun).congr htable.symm hdiscard.symm rfl rfl rfl

/-- The report state after the last answer (R102, R104). -/
theorem State.recorded_resolved (hrest : s.report.awaited.filter (· ≠ h.src) = []) :
    (s.report.recorded h d).resolved = { s.report with
      awaited := [], answers := s.report.answers ++ [{ src := h.src, answer := d.answer, conf := d.conf.toNat }]
      phase := .resolved, checkTimer := none } := by
  rw [ReportHandler.resolved, ReportHandler.recorded, hrest]

/-- What the last answer makes of the check (R104, R105). -/
theorem State.noticed_answer_resolves {slot : Slot} (hc : s.answerCase h d = .recorded) (hrun : s.running = true)
    (hrest : s.report.awaited.filter (· ≠ h.src) = []) (ho : s.report.outstanding = some slot) :
    let answers := s.report.answers ++ [{ src := h.src, answer := d.answer, conf := d.conf.toNat }]
    let t := (s.noticed f).answerBlock h d
    (s.table.fifo.length < 8 ∨ (∃ x ∈ s.table.fifo, x.nonCliff = true) →
      t.report = { s.report with awaited := [], answers := answers, phase := .resolved, checkTimer := none }) ∧
    (8 ≤ s.table.fifo.length → (∀ x ∈ s.table.fifo, x.nonCliff = false) →
      t.report.AtRest ∧ t.flags.checking = false) ∧
    ItemEntered (.outcome (if ∃ a ∈ answers, a.answer = .cliff then .confirm
      else if ∃ a ∈ answers, a.answer = .darkRug ∧ 8 ≤ a.conf then .overrule
      else .confirm) slot) s t := by
  intro answers t
  have ht : t = ((s.noticed f).setReport (s.report.recorded h d)).resolveCheck.kick :=
    State.noticed_answer_last hc hrest
  have hdiscard : ((s.noticed f).setReport (s.report.recorded h d)).link.counts.tableDiscard =
      s.link.counts.tableDiscard := by rw [State.setReport_link, s.noticed_tableDiscard]
  rw [ht, ← State.recorded_resolved hrest]
  exact State.recorded_resolves (by simp) (by simpa using hrun) hdiscard ho

theorem State.noticed_answer_unchanged :
    UnchangedBut [.report, .table, .odo, .peers, .link, .clear, .startup] s ((s.noticed f).answerBlock h d) :=
  ((s.noticed_unchanged f).mono (by decide)).trans (((s.noticed f).answerBlock_unchanged h d).mono (by decide))

end

/-- Settles O47: the case of an answer by R102's table, and a check that resolves by its answers. -/
theorem checksResolveByTheirAnswers : Obligations.ChecksResolveByTheirAnswers := by
  refine ⟨fun s h d ha => ?_, fun s slot hrun hp ht ho => ?_⟩
  · refine ⟨_, State.Takes.exec_checkAnswer ha, fun hd => State.noticed_answer_ignored (State.answerCase_other hd),
      fun ⟨hd, hrun, hp, hid⟩ hsrc => ?_,
      fun ⟨hd, hrun, hp, hid⟩ hsrc has => State.noticed_answer_ignored (State.answerCase_repeated hd hrun hp hid hsrc has),
      fun ⟨hd, hrun, hp, hid⟩ hsrc has => State.noticed_answer_late (State.answerCase_unasked hd hrun hp hid hsrc has),
      fun hd hor => State.noticed_answer_late (State.answerCase_closed hd hor), State.noticed_answer_unchanged⟩
    have hc : s.answerCase h d = .recorded := State.answerCase_recorded hd hrun hp hid hsrc
    refine ⟨State.noticed_answer_lateAnswer hc, fun hrest => ?_, fun slot hrest ho => ?_⟩
    · rw [State.noticed_answer_recorded hc hrest, State.setReport_table, State.noticed_table]
      exact ⟨rfl, rfl⟩
    · exact State.noticed_answer_resolves hc hrun hrest ho
  · have hexec : s.checkTimeout = s.resolveCheck.kick := by simp [State.checkTimeout, hrun, hp, ht]
    obtain ⟨hresolved, hlost, hentered⟩ := State.recorded_resolves rfl hrun rfl ho
    refine ⟨_, congrArg Host.Outcome.next hexec, hresolved, hlost, ?_, by simp, s.resolveCheck_kick_unchanged⟩
    · convert hentered using 2
      by_cases hcliff : ∃ a ∈ s.report.answers, a.answer = .cliff <;> simp [hcliff]

/-! ### Peers that fall silent and are lost -/

/-- The peer table after an expiry, MISSING_PEER judged anew (R151, R157). -/
theorem State.setEntry_judged (s : State) (p : Pos) (e : PeerEntry) {t : State}
    (ht : t.peers = ((s.setPeers (s.peers.setEntry p e)).handing State.judgeMissing).peers) :
    t.peers.entries[p] = e ∧ OthersKept p s t := by
  have hentries : t.peers.entries = (s.peers.setEntry p e).entries := by
    rw [ht, State.handing_peers, State.judgeMissing_peers]
    rfl
  refine ⟨by rw [hentries]; simp [PeerMonitor.setEntry], fun q hq => ?_⟩
  have hne : p.val ≠ q.val := fun h => hq (Fin.ext h.symm)
  have hq' : t.peers.entries[q] = s.peers.entries[q] := by
    rw [hentries]
    simp [PeerMonitor.setEntry, hne]
  rw [hq']

/-- The LOST notice of the Odometry Unit (R42). -/
theorem State.odoLostNotice_odo_of_source {s : State} {p : Pos} (hrun : s.running = true)
    (hsrc : s.odo.source = some p) : (s.odoLostNotice p).odo = s.odo.giveUp s.peers := by
  simp [State.odoLostNotice, hrun, hsrc]

theorem State.odoLostNotice_of_other {s : State} {p : Pos} (hsrc : s.odo.source ≠ some p) :
    s.odoLostNotice p = s := by
  simp [State.odoLostNotice, hsrc]

/-- The LOST notice of the Report Handler, others being awaited (R103). -/
theorem State.reportLostNotice_report_of_rest {s : State} {p : Pos} (hp : s.report.phase = .awaiting)
    (ha : p ∈ s.report.awaited) (hrest : s.report.awaited.filter (· ≠ p) ≠ []) :
    (s.reportLostNotice p).report = { s.report with awaited := s.report.awaited.filter (· ≠ p) } := by
  unfold State.reportLostNotice
  rw [if_pos (by simp [hp, ha])]
  exact congrArg State.report (if_neg hrest)

/-- The LOST notice that empties the awaited set resolves the check (R103, R104). -/
theorem State.reportLostNotice_phase_of_last {s : State} {p : Pos} (hp : s.report.phase = .awaiting)
    (ha : p ∈ s.report.awaited) (hrest : s.report.awaited.filter (· ≠ p) = [])
    (ho : s.report.outstanding.isSome = true) (hroom : s.table.fifo.length < 8) :
    (s.reportLostNotice p).report.phase = .resolved := by
  obtain ⟨slot, ho⟩ := Option.isSome_iff_exists.1 ho
  unfold State.reportLostNotice
  rw [if_pos (by simp [hp, ha])]
  refine (congrArg (fun v : State => v.report.phase) (if_pos hrest)).trans ?_
  have hw : (s.setReport { s.report with awaited := s.report.awaited.filter (· ≠ p) }).report.outstanding = some slot :=
    ho
  rw [(State.resolveCheck_report_cases hw).1 (.inl hroom)]
  rfl

@[simp] theorem State.reportLostNotice_table_records (s : State) (p : Pos) :
    (s.reportLostNotice p).table.records = s.table.records := by
  unfold State.reportLostNotice
  split
  · dsimp only
    split <;> simp
  · rfl

/-- A SILENT peer's timer runs out (R155, R156). -/
theorem State.peerLost_eq {s : State} {p : Pos} (hr : s.receiving = true) (hs : s.peers.entries[p].silence.isSome = true)
    (hstate : s.peers.entries[p].state = .silent) : s.peerLost p =
      (((s.setPeers (s.peers.setEntry p { s.peers.entries[p] with state := .lost, silence := none })).handing
        State.judgeMissing |>.handing fun u => u.odoLostNotice p).reportLostNotice p).kick :=
  if_pos (by simp_all)

/-- What a LOST peer's notices make of a state, its entry being marked (R42, R103, R156). -/
theorem State.lostNotices_effect (u : State) (p : Pos) {t : State}
    (ht : t = ((u.handing fun v => v.odoLostNotice p).reportLostNotice p).kick) :
    t.peers = u.peers ∧
    (u.running = true → u.odo.source = some p → t.odo.IsLost ∧ t.SourceRenewed) ∧
    (u.odo.source ≠ some p → t.odo = u.odo) ∧
    (u.report.phase = .awaiting → p ∈ u.report.awaited → u.report.awaited.filter (· ≠ p) ≠ [] →
      t.report = { u.report with awaited := u.report.awaited.filter (· ≠ p) }) ∧
    (u.report.phase = .awaiting → p ∈ u.report.awaited → u.report.awaited.filter (· ≠ p) = [] →
      u.report.outstanding.isSome → u.table.fifo.length < 8 → t.report.phase = .resolved) ∧
    t.table.records = u.table.records ∧ UnchangedBut [.odo, .report, .table, .clear, .link, .startup] u t := by
  have hodo : t.odo = (u.odoLostNotice p).odo := by simp [ht]
  have hpeers : t.peers = u.peers := by simp [ht]
  have hreport : (u.handing fun v => v.odoLostNotice p).report = u.report := by simp
  have htable : (u.handing fun v => v.odoLostNotice p).table = u.table := by simp
  refine ⟨hpeers, fun hrun hsrc => ?_, fun hsrc => ?_, fun hp ha hrest => ?_, fun hp ha hrest ho hroom => ?_, by simp [ht],
    fun b hb => ?_⟩
  · have hgive := State.odoLostNotice_odo_of_source hrun hsrc
    refine ⟨by rw [hodo, hgive]; exact Odometry.isLost_giveUp _ _, State.sourceRenewed_of_eq ?_⟩
    rw [hodo, hgive, hpeers, Odometry.giveUp]
  · rw [hodo, State.odoLostNotice_of_other hsrc]
  · rw [← hreport] at hp ha hrest ⊢
    rw [ht, State.kick_report, State.reportLostNotice_report_of_rest hp ha hrest]
  · rw [← hreport] at hp ha hrest ho
    rw [← htable] at hroom
    rw [ht, State.kick_report, State.reportLostNotice_phase_of_last hp ha hrest ho hroom]
  · cases b <;> simp [Block.same, ht] at hb ⊢

/-- Settles O51: the entry's change, then the LOST notices. -/
theorem peersFallSilentAndLost : Obligations.PeersFallSilentAndLost := by
  refine fun s p hr hs => ⟨fun hstate => ?_, fun hstate => ?_⟩
  · have hexec : s.peerSilent p = (s.setPeers (s.peers.setEntry p { s.peers.entries[p] with state := .silent })).handing
        State.judgeMissing := if_pos (by simp_all)
    obtain ⟨hentry, hothers⟩ := s.setEntry_judged p _ (congrArg State.peers hexec)
    refine ⟨_, rfl, hentry, hothers, fun b hb => ?_⟩
    rw [hexec]
    cases b <;> simp [Block.same] at hb ⊢
  · let u := (s.setPeers (s.peers.setEntry p { s.peers.entries[p] with state := .lost, silence := none })).handing
      State.judgeMissing
    have hodo : u.odo = s.odo := by simp [u]
    have hreport : u.report = s.report := by simp [u]
    have htable : u.table = s.table := by simp [u]
    have hrun : u.running = s.running := by simp [u]
    have hexec : s.peerLost p = ((u.handing fun v => v.odoLostNotice p).reportLostNotice p).kick :=
      State.peerLost_eq hr hs hstate
    have hu : UnchangedBut [.peers, .odo, .report, .table, .clear, .link, .startup] s u := by
      intro b hb
      cases b <;> simp [Block.same, u] at hb ⊢
    obtain ⟨hpeers, hlost, hother, hrest, hlast, hrecords, hkept⟩ := u.lostNotices_effect p hexec
    obtain ⟨hentry, hothers⟩ := s.setEntry_judged p { s.peers.entries[p] with state := .lost, silence := none } hpeers
    rw [hodo, hrun] at hlost
    rw [hodo] at hother
    rw [hreport] at hrest hlast
    rw [htable] at hlast hrecords
    exact ⟨s.peerLost p, rfl, hentry, hothers, hlost, hother, hrest, hlast, hrecords,
      hu.trans (hkept.mono (by decide))⟩

end Sys2Proof.Machine
end

section
/-! PROOFS. What setup parts make of a node that awaits them, and RUN entry (R187, R188). -/

namespace Sys2Proof.Machine

open Sys2Proof

/-! ### Outside RUN -/

theorem State.notify_outside {s : State} (h : s.running = false) (b : State) (w : Bool) : s.notify b w = s := by
  unfold State.notify
  split
  · exact s.recompute_outside h
  · rfl

/-- Outside RUN a frame's notice changes its entry alone (R127, R151). -/
theorem State.noticed_outside {s : State} (f : Frame) (h : s.running = false) :
    s.noticed f = (s.begun f).peerHeard f.head f.payload.isBoot := by
  have hrun : ((s.begun f).peerHeard f.head f.payload.isBoot).running = false := by
    rw [State.peerHeard_running, State.begun_running, h]
  have haccept : (s.begun f).peerAccept f.head f.payload.isBoot = (s.begun f).peerHeard f.head f.payload.isBoot := by
    rw [State.peerAccept, State.handing, State.handing, State.notify_outside hrun, State.judgeMissing,
      if_neg (by simp [hrun]), State.notify_outside hrun]
  have hnotice : ((s.begun f).peerHeard f.head f.payload.isBoot).odoNotice f.head f.payload.isBoot =
      (s.begun f).peerHeard f.head f.payload.isBoot := by
    rw [State.odoNotice, if_pos (by simp [hrun])]
  calc s.noticed f
      = ((s.begun f).peerAccept f.head f.payload.isBoot).handing fun t => t.odoNotice f.head f.payload.isBoot := rfl
    _ = (s.begun f).peerHeard f.head f.payload.isBoot := by
        rw [haccept, State.handing, hnotice, State.notify_outside hrun]

theorem State.noticed_startup_outside {s : State} (f : Frame) (h : s.running = false) :
    (s.noticed f).startup = s.startup := by
  rw [State.noticed_outside f h, State.peerHeard, State.setPeers_startup, State.begun_startup]

theorem State.noticed_link_outside {s : State} (f : Frame) (h : s.running = false) :
    (s.noticed f).link = s.lineFree.link.handle [f] := by
  rw [State.noticed_outside f h, State.peerHeard, State.setPeers_link, State.begun_link]

theorem State.noticed_unchanged_outside {s : State} (f : Frame) (h : s.running = false) :
    UnchangedBut [.peers, .link] s (s.noticed f) := by
  rw [State.noticed_outside f h]
  intro b hb
  have hkept : b ∉ [Block.link, .peers] → b.same s (s.begun f) := s.begun_unchanged f b
  cases b <;> simp_all [Block.same, State.peerHeard]

theorem State.setStartup_unchanged (s : State) (u : Startup) :
    UnchangedBut [.startup, .peers, .link] s (s.setStartup u) := by
  intro b hb
  cases b <;> simp [Block.same] at hb ⊢

theorem State.noticed_refusedOrder (s : State) (f : Frame) :
    (s.noticed f).link.counts.refusedOrder = s.link.counts.refusedOrder := by rw [State.noticed_link]

theorem State.count_refusedOrder (s : State) :
    (s.count .refusedOrder).link.counts.refusedOrder = satInc s.link.counts.refusedOrder := rfl

/-! ### Setup parts -/

theorem State.Accepts.exec_setupPart {s : State} {h : Head} (ha : s.Accepts h) (d : SetupData) :
    exec (.setupPart h d) s = .next ((s.noticed { head := h, payload := .setup d }).setupBlock h d) :=
  (State.Accepts.takes (f := { head := h, payload := .setup d }) ha rfl rfl).exec_eq

theorem State.setupBlock_ignored {s : State} {h : Head} {d : SetupData} (hd : d.dest ≠ s.startup.pos) :
    s.setupBlock h d = s := if_pos hd

theorem State.setupBlock_refused {s : State} {h : Head} {d : SetupData} (hd : d.dest = s.startup.pos)
    (hor : h.role ≠ .controller ∨ s.startup.node ≠ .awaitSetup) : s.setupBlock h d = s.count .refusedOrder := by
  rw [State.setupBlock, if_neg (by simpa using hd), if_pos hor]

theorem State.setupBlock_taken {s : State} {h : Head} {d : SetupData} (hd : d.dest = s.startup.pos)
    (hr : h.role = .controller) (hn : s.startup.node = .awaitSetup) :
    s.setupBlock h d = (s.setStartup (s.startup.holdPart d.part)).trySetup := by
  rw [State.setupBlock, if_neg (by simpa using hd), if_neg (by simp [hr, hn])]

theorem State.trySetup_of_incomplete {s : State} (h : s.startup.complete = false) : s.trySetup = s := by
  unfold State.trySetup
  split
  · simp_all [Startup.complete]
  · rfl

theorem State.trySetup_of_complete {s : State} {p0 : Part0} {p1 : Part1} {p2 : Part2} {p3 : Part3}
    (h0 : s.startup.part0 = some p0) (h1 : s.startup.part1 = some p1) (h2 : s.startup.part2 = some p2)
    (h3 : s.startup.part3 = some p3) : s.trySetup = s.enterRun (clampSetup p0 p1 p2 p3) := by
  simp only [State.trySetup, h0, h1, h2, h3]

/-- Settles O21: outside RUN the part is held and the frame's notice changes its entry alone. -/
theorem setupPartIsJudged : Obligations.SetupPartIsJudged := by
  intro s h d ha
  have hexec := ha.exec_setupPart d
  have hstartup := s.noticed_startup { head := h, payload := .setup d }
  have hcount := s.noticed_refusedOrder { head := h, payload := .setup d }
  have houtside := State.noticed_startup_outside (s := s) { head := h, payload := .setup d }
  have hkept := State.noticed_unchanged_outside (s := s) { head := h, payload := .setup d }
  generalize s.noticed { head := h, payload := .setup d } = u at hexec hstartup hcount houtside hkept
  have hpos : u.startup.pos = s.startup.pos := by rw [hstartup]
  have hnode : u.startup.node = s.startup.node := by rw [hstartup]
  refine ⟨fun hd => ⟨_, hexec, ?_⟩, fun hd hor => ⟨_, hexec, ?_⟩, fun hd hr hn hc => ⟨_, hexec, ?_⟩⟩
  · rw [State.setupBlock_ignored (by rwa [hpos])]
    exact ⟨hstartup, hcount⟩
  · rw [State.setupBlock_refused (by rwa [hpos]) (by rwa [hnode])]
    exact ⟨hstartup, u.count_refusedOrder.trans (congrArg satInc hcount)⟩
  · have hrun : s.running = false := by simp [State.running, hn]
    rw [State.setupBlock_taken (by rwa [hpos]) hr (by rwa [hnode]), houtside hrun, State.trySetup_of_incomplete hc]
    exact ⟨rfl, hcount, ((hkept hrun).mono (by decide)).trans (State.setStartup_unchanged _ _)⟩

/-! ### RUN entry -/

/-- No boot frame is pending again once none is (R185). -/
theorem State.enqueue_bootPending_none {s : State} (p : Payload) (u : Bool) (h : s.startup.bootPending = none) :
    (s.enqueue p u).startup.bootPending = none := by
  have hlost (t : State) (e : TxEntry) (ht : t.startup.bootPending = none) :
      (t.loseFrame e).startup.bootPending = none := by
    unfold State.loseFrame State.bootEnded
    split <;> simp [ht]
  unfold State.enqueue
  split
  · exact h
  · dsimp only
    split
    · exact h
    · unfold State.placeAtFull
      split
      · split
        · exact hlost _ _ h
        · exact hlost _ _ h
      · exact hlost _ _ h

theorem State.recompute_bootPending_none {s : State} (h : s.startup.bootPending = none) :
    s.recompute.startup.bootPending = none := by
  unfold State.recompute
  split
  · unfold State.judgeVerdict
    split
    · exact h
    · exact State.enqueue_bootPending_none (s := State.setClear _ _) _ _ h
  · exact h

/-- The Start-up Controller of a node that has entered RUN (R188). -/
def Startup.entered (u : Startup) (v : SetupValues) : Startup :=
  { u with node := .run, setup := some v, code := some .c1, bootTimer := none, bootPending := none, led := .steady,
           ledTimer := none }

theorem State.runBlocks_startup_entered (s : State) (v : SetupValues) :
    ((s.formBoot .c1).runBlocks v).startup = s.startup.entered v := by
  have hboot : (s.formBoot .c1).startup = { s.startup with
      code := some .c1, bootPending := (s.formBoot .c1).startup.bootPending } :=
    ((s.setStartup { s.startup with code := some .c1 }).enqueue_sendsOnly (s.bootFrame .c1) false).2
  rw [State.runBlocks_startup, hboot]
  rfl

theorem State.sendOdometry_startup {s : State} (h : s.startup.bootPending = none) :
    s.sendOdometry.startup = s.startup := by
  have hnone : s.sendOdometry.startup.bootPending = none := State.enqueue_bootPending_none _ _ h
  have hsends : s.sendOdometry.startup = { s.startup with bootPending := s.sendOdometry.startup.bootPending } :=
    (s.enqueue_sendsOnly _ _).2
  rw [hsends, hnone, ← h]

theorem State.encoderEnterRun_startup {s : State} (h : s.startup.bootPending = none) :
    s.encoderEnterRun.startup = s.startup := by
  unfold State.encoderEnterRun
  split
  · exact State.sendOdometry_startup (s := State.setEnc _ _) h
  · rfl

theorem State.runEntered_startup (s : State) (v : SetupValues) : (s.runEntered v).startup = s.startup.entered v := by
  have h : ((s.formBoot .c1).runBlocks v).encoderEnterRun.startup = s.startup.entered v := by
    rw [State.encoderEnterRun_startup (by rw [State.runBlocks_startup_entered]; rfl), State.runBlocks_startup_entered]
  exact h

theorem State.enterRun_startup (s : State) (v : SetupValues) : (s.enterRun v).startup = s.startup.entered v := by
  have hsends := (s.runEntered v).recompute_sendsOnly.2
  have hnone : (s.runEntered v).recompute.startup.bootPending = none :=
    State.recompute_bootPending_none (by rw [State.runEntered_startup]; rfl)
  rw [s.enterRun_eq_recompute, hsends, hnone, State.runEntered_startup]
  rfl

end Sys2Proof.Machine
end

section
/-! PROOFS. RUN entry (R188): the blocks' first values, the first recompute and the frames it leaves in the queue (R134). -/

namespace Sys2Proof.Machine

open Sys2Proof

/-! ### The channels at RUN entry -/

/-- What a burst that falls due leaves of its channel. -/
theorem State.floorDue_floor (s : State) :
    s.floorDue.floor = { s.floor with ch := s.floorDue.floor.ch } ∧ s.floorDue.floor.ch.step = s.floor.ch.step := by
  refine ⟨rfl, ?_⟩
  unfold State.floorDue
  dsimp only
  rw [State.setFloor_floor]
  dsimp only
  split <;> rfl

theorem State.wallDue_wall (s : State) :
    s.wallDue.wall = { s.wall with ch := s.wallDue.wall.ch } ∧ s.wallDue.wall.ch.step = s.wall.ch.step := by
  refine ⟨rfl, ?_⟩
  unfold State.wallDue
  dsimp only
  rw [State.setWall_wall]
  dsimp only
  split <;> rfl

/-- The channels' values that the first bursts leave (R2, R3). -/
theorem State.firstBursts_channels (s : State) :
    s.firstBursts.floor.ch.step = s.floor.ch.step ∧ s.firstBursts.floor.accepted = s.floor.accepted ∧
    s.firstBursts.wall.ch.step = s.wall.ch.step ∧ s.firstBursts.wall.result = s.wall.result := by
  have hfloor (u : State) := u.floorDue_floor.2
  have hwall (u : State) := u.wallDue_wall.2
  unfold State.firstBursts State.bothDue
  split
  · dsimp only
    split
    · exact ⟨hfloor _, rfl, hwall _, rfl⟩
    · exact ⟨hfloor _, rfl, hwall _, rfl⟩
  · exact ⟨hfloor s, rfl, rfl, rfl⟩

/-- Both channels and the filters at RUN entry (R6, R21, R24). -/
theorem State.channelsEnterRun_values (s : State) :
    s.channelsEnterRun.floor.ch.step = s.setup.lf ∧ s.channelsEnterRun.floor.accepted = .unknown ∧
    s.channelsEnterRun.wall.ch.step = s.setup.lf ∧ s.channelsEnterRun.wall.result = .unseen ∧
    s.channelsEnterRun.bump.accepted = false ∧ s.channelsEnterRun.drop.accepted = false := by
  unfold State.channelsEnterRun
  dsimp only
  obtain ⟨hf, hfa, hw, hwr⟩ := State.firstBursts_channels (State.setDrop (State.setBump (State.setWall (State.setFloor s
    { FloorChannel.reset with ch := Channel.activate s.setup (floorPeriod s.peers.mode) }) (s.wall.enterRun s.setup))
    (if s.setup.bumpFitted then Filter.start false switchSample else Filter.stopped))
    (if s.setup.dropFitted then Filter.start false switchSample else Filter.stopped))
  have hstep : (s.wall.enterRun s.setup).ch.step = s.setup.lf := by
    unfold WallChannel.enterRun
    split <;> rfl
  have hresult : (s.wall.enterRun s.setup).result = .unseen := by
    unfold WallChannel.enterRun
    split <;> rfl
  have haccepted (b : Bool) : (if b = true then Filter.start false switchSample else Filter.stopped).accepted = false := by
    split <;> rfl
  refine ⟨hf, hfa, hw.trans hstep, hwr.trans hresult, ?_, ?_⟩
  · rw [State.firstBursts_bump]
    exact haccepted _
  · rw [State.firstBursts_drop]
    exact haccepted _

/-! ### The first recompute -/

theorem State.formBoot_startup (s : State) (c : ProgressCode) : (s.formBoot c).startup = { s.startup with
    code := some c, bootPending := (s.formBoot c).startup.bootPending } :=
  ((s.setStartup { s.startup with code := some c }).enqueue_sendsOnly (s.bootFrame c) false).2

@[simp] theorem State.formBoot_startup_role (s : State) (c : ProgressCode) :
    (s.formBoot c).startup.role = s.startup.role := by rw [State.formBoot_startup]

@[simp] theorem State.formBoot_startup_pos (s : State) (c : ProgressCode) :
    (s.formBoot c).startup.pos = s.startup.pos := by rw [State.formBoot_startup]

section
variable (s : State) (v : SetupValues)

@[simp] theorem State.runEntered_setup : (s.runEntered v).setup = v := by
  rw [State.setup, State.runEntered_startup_setup]
  rfl

@[simp] theorem State.runEntered_table : (s.runEntered v).table = s.table.clear (some ageTick) := by
  simp [State.runEntered, State.runBlocks]

@[simp] theorem State.runEntered_report : (s.runEntered v).report = s.report.clear := by
  simp [State.runEntered, State.runBlocks]

@[simp] theorem State.runEntered_odo : (s.runEntered v).odo = { s.odo.lose with
    source := if s.startup.role = .wheel then some s.startup.pos else none, clashHold := none } := by
  simp [State.runEntered, State.runBlocks, State.odoEnterRun]

@[simp] theorem State.runEntered_peers : (s.runEntered v).peers = s.peers.enterRun v.expected := by
  simp [State.runEntered, State.runBlocks]

@[simp] theorem State.runEntered_beacon : (s.runEntered v).beacon = Beacon.enterRun s.pins := by
  simp [State.runEntered, State.runBlocks]

@[simp] theorem State.runEntered_clear : (s.runEntered v).clear =
    { s.clear with driver := true, hold := some stopHoldTime, last := none, verdictTimer := none
                   line := (s.runEntered v).clear.line } := by
  simp [State.runEntered, State.clearEnterRun]

/-- The blocks' values at RUN entry before the channels' (R188). -/
def State.beforeChannels : State :=
  let s := s.setStartup { s.startup with
    node := .run, setup := some v, bootTimer := none, bootPending := none, led := .steady, ledTimer := none }
  let s := (s.setPeers (s.peers.enterRun v.expected)).odoEnterRun
  let s := (s.setTable (s.table.clear (some ageTick))).setReport s.report.clear
  let s := s.setBeacon (Beacon.enterRun s.pins)
  s.setLink { s.link with healthTimer := some healthTime }

theorem State.runBlocks_eq : s.runBlocks v = (s.beforeChannels v).channelsEnterRun := rfl

theorem State.runEntered_channels :
    (s.runEntered v).floor.ch.step = v.lf ∧ (s.runEntered v).floor.accepted = .unknown ∧
    (s.runEntered v).wall.ch.step = v.lf ∧ (s.runEntered v).wall.result = .unseen ∧
    (s.runEntered v).bump.accepted = false ∧ (s.runEntered v).drop.accepted = false := by
  have hsetup : ((s.formBoot .c1).beforeChannels v).setup = v := rfl
  have hvalues := ((s.formBoot .c1).beforeChannels v).channelsEnterRun_values
  rw [hsetup] at hvalues
  simp only [State.runEntered, State.clearEnterRun_floor, State.clearEnterRun_wall, State.clearEnterRun_bump,
    State.clearEnterRun_drop, State.encoderEnterRun_floor, State.encoderEnterRun_wall, State.encoderEnterRun_bump,
    State.encoderEnterRun_drop, State.runBlocks_eq]
  exact hvalues

/-- Nothing stands near a node that enters RUN: its own stop condition is not met (R121, R188). -/
theorem State.runEntered_stopCondition (hbase : v.sBase ≤ 300) :
    (s.runEntered v).stopCondition 2047 2047 = false := by
  obtain ⟨-, hfloor, -, -, hbump, hdrop⟩ := s.runEntered_channels v
  have hmargin : ¬ (2047 : Int) < v.sBase + lostMargin := by
    simp only [lostMargin]
    omega
  simp [State.stopCondition, hfloor, hbump, hdrop, State.distanceTerm, Odometry.lose, hmargin]

/-- The Clearance Unit after the first recompute of RUN: the driver is held, the distances are clear, and the first
verdict, a routine one, is handed on (R124, R134). -/
theorem State.enterRun_clear (hbase : v.sBase ≤ 300) :
    (s.enterRun v).clear.driver = true ∧ (s.enterRun v).clear.hold = some 30000 ∧
    (s.enterRun v).clear.ownStop = false ∧ (s.enterRun v).clear.ahead = 2047 ∧ (s.enterRun v).clear.behind = 2047 ∧
    (s.enterRun v).clear.verdictTimer = some 100000 ∧
    ∃ (l : VerdictData) (u : State), (s.enterRun v).clear.last = some l ∧ l.flags.stopOwn = true ∧
      u.link = (s.runEntered v).link ∧ s.enterRun v = u.enqueue (.verdict l) false := by
  have hahead : clearAhead v (s.runEntered v).peers.mode [] = 2047 := rfl
  have hbehind : clearBehind v (s.runEntered v).peers.mode [] = 2047 := rfl
  have hrecords : (s.runEntered v).table.records = [] := by rw [State.runEntered_table]; rfl
  have hreclear : (s.runEntered v).reclear.clear = { (s.runEntered v).clear with
      ahead := 2047, behind := 2047, cliffNear := false, rugAhead := false, ownStop := false } := by
    simp only [State.reclear, State.setClear_clear, State.runEntered_setup, hrecords, hahead, hbehind,
      s.runEntered_stopCondition v hbase, Clearance.drive]
    rw [State.runEntered_clear]
    rfl
  have hlast : (s.runEntered v).reclear.clear.last = none := by rw [hreclear, State.runEntered_clear]
  have hdue : (s.runEntered v).reclear.verdictToSend = some false := by simp [State.verdictToSend, hlast]
  have hsent := State.judgeVerdict_some _ _ hdue
  have hrun : s.enterRun v = (s.runEntered v).reclear.judgeVerdict := by
    rw [s.enterRun_eq_recompute, State.recompute, if_pos (s.runEntered_running v)]
  obtain ⟨hclear, hqueue⟩ := hsent
  rw [hrun, hclear, hreclear, State.runEntered_clear]
  refine ⟨rfl, rfl, rfl, rfl, rfl, rfl, _, _, rfl, ?_, ?_, hqueue⟩
  · rw [State.verdictNow, State.flags, hreclear, State.runEntered_clear]
  · simp

/-- WHEEL's first snapshot (R30). -/
def State.firstOdometry : Payload :=
  .odometry { left := s.enc.left, right := s.enc.right, interval := 10, errors := s.enc.errors }

/-- The queue before the first verdict (R30, R170, R188). -/
theorem State.runEntered_link (hroom : s.link.queue.length < 4) (hodo : ∀ e ∈ s.link.queue, e.payload.isOdometry = false) :
    (s.runEntered v).link = { s.link with
      queue := if s.startup.role = .wheel then
          placeNew (s.link.queue ++ [newEntry (s.bootFrame .c1) false s.link.nextOrder])
            (newEntry s.firstOdometry true (s.link.nextOrder + 1))
        else s.link.queue ++ [newEntry (s.bootFrame .c1) false s.link.nextOrder]
      nextOrder := if s.startup.role = .wheel then s.link.nextOrder + 2 else s.link.nextOrder + 1
      healthTimer := some healthTime } := by
  have hboot : ((s.formBoot .c1).runBlocks v).link = { s.link with
      queue := s.link.queue ++ [newEntry (s.bootFrame .c1) false s.link.nextOrder]
      nextOrder := s.link.nextOrder + 1, healthTimer := some healthTime } := by
    rw [State.runBlocks_link, s.formBoot_of_room _ (by simp only [txQueueSize]; omega)]
    rfl
  have hrole : ((s.formBoot .c1).runBlocks v).startup.role = s.startup.role := by
    rw [State.runBlocks_startup_entered]
    rfl
  have henc : ((s.formBoot .c1).runBlocks v).enc = s.enc := by simp [State.runBlocks]
  rw [State.runEntered, State.clearEnterRun_link, State.encoderEnterRun, hrole]
  split
  · rw [State.sendOdometry, State.enqueue_of_room, State.setLink_link, State.setEnc_link, hboot]
    · simp only [State.setEnc_enc, henc]
      rfl
    · rw [State.setEnc_link, hboot, queuedLike_eq_none_iff]
      intro e he
      obtain he | he := List.mem_append.1 he
      · simp [Payload.coalesces, hodo e he, Payload.isVerdict]
      · simp only [List.mem_singleton] at he
        subst he
        rfl
    · rw [State.setEnc_link, hboot]
      simp only [List.length_append, List.length_singleton, txQueueSize]
      omega
  · exact hboot

/-- A routine entry at the end does not matter to the place of an urgent one (R170). -/
theorem placeNew_append_routine {q : List TxEntry} {b e : TxEntry} (hb : b.urgent = false) (he : e.urgent = true) :
    placeNew (q ++ [b]) e = q.takeWhile (·.urgent) ++ [e] ++ q.dropWhile (·.urgent) ++ [b] := by
  have hsplit : (q ++ [b]).takeWhile (·.urgent) = q.takeWhile (·.urgent) ∧
      (q ++ [b]).dropWhile (·.urgent) = q.dropWhile (·.urgent) ++ [b] := by
    induction q with
    | nil => simp [hb]
    | cons x q ih =>
      cases hx : x.urgent
      · simp [hx]
      · simpa [hx] using ih
  obtain ⟨htake, hdrop⟩ := hsplit
  rw [placeNew, if_pos he, htake, hdrop]
  simp

/-- The frames a node enters RUN with (R30, R134, R170, R188). -/
theorem State.enterRun_queue (hbase : v.sBase ≤ 300) (hroom : s.link.queue.length < 4)
    (hkinds : ∀ e ∈ s.link.queue, e.payload.isVerdict = false ∧ e.payload.isOdometry = false) :
    ∃ l : VerdictData, (s.enterRun v).clear.last = some l ∧
      (s.enterRun v).link.queue = s.link.queue.takeWhile (·.urgent) ++
        (if s.startup.role = .wheel then [newEntry s.firstOdometry true (s.link.nextOrder + 1)] else []) ++
        s.link.queue.dropWhile (·.urgent) ++
        [newEntry (s.bootFrame .c1) false s.link.nextOrder,
         newEntry (.verdict l) false
          (if s.startup.role = .wheel then s.link.nextOrder + 2 else s.link.nextOrder + 1)] := by
  obtain ⟨-, -, -, -, -, -, l, u, hlast, -, hlink, hsent⟩ := s.enterRun_clear v hbase
  have hqueue := s.runEntered_link v hroom fun e he => (hkinds e he).2
  refine ⟨l, hlast, ?_⟩
  have hnone (q : List TxEntry) (hq : ∀ e ∈ q, e.payload.isVerdict = false) : queuedLike q (.verdict l) = none := by
    rw [queuedLike_eq_none_iff]
    intro e he
    simp [Payload.coalesces, hq e he, Payload.isOdometry]
  have hold : ∀ e ∈ s.link.queue, e.payload.isVerdict = false := fun e he => (hkinds e he).1
  have hboot : ∀ e ∈ s.link.queue ++ [newEntry (s.bootFrame .c1) false s.link.nextOrder],
      e.payload.isVerdict = false := by
    intro e he
    obtain he | he := List.mem_append.1 he
    · exact hold e he
    · simp only [List.mem_singleton] at he
      subst he
      rfl
  rw [← hlink] at hqueue
  have hq := congrArg Link.queue hqueue
  have horder := congrArg Link.nextOrder hqueue
  dsimp only at hq horder
  by_cases hrole : s.startup.role = .wheel
  · rw [if_pos hrole] at hq horder
    have hall : ∀ e ∈ u.link.queue, e.payload.isVerdict = false := by
      rw [hq]
      intro e he
      obtain rfl | he := (mem_placeNew ..).1 he
      · rfl
      · exact hboot e he
    have hlen : u.link.queue.length < txQueueSize := by
      rw [hq, (placeNew_perm _ _).length_eq]
      simp only [List.length_cons, List.length_append, List.length_nil, txQueueSize]
      omega
    rw [hsent, State.enqueue_of_room u _ false (hnone _ hall) hlen, State.setLink_link, hq, horder, if_pos hrole,
      if_pos hrole, placeNew_append_routine rfl rfl, placeNew_routine rfl]
    simp
  · rw [if_neg hrole] at hq horder
    have hlen : u.link.queue.length < txQueueSize := by
      rw [hq]
      simp only [List.length_cons, List.length_append, List.length_nil, txQueueSize]
      omega
    rw [hsent, State.enqueue_of_room u _ false (hnone _ (by rw [hq]; exact hboot)) hlen, State.setLink_link, hq, horder,
      if_neg hrole, if_neg hrole, placeNew_routine rfl]
    simp

end

/-! ### The completing part -/

theorem Startup.holdPart_role (u : Startup) (p : PartData) : (u.holdPart p).role = u.role := by cases p <;> rfl

theorem Startup.holdPart_pos (u : Startup) (p : PartData) : (u.holdPart p).pos = u.pos := by cases p <;> rfl

theorem clampSetup_sBase_le (p0 : Part0) (p1 : Part1) (p2 : Part2) (p3 : Part3) :
    (clampSetup p0 p1 p2 p3).sBase ≤ 300 := by
  simp only [clampSetup, clampTo]
  omega

theorem State.enterRun_healthTimer (s : State) (v : SetupValues) :
    (s.enterRun v).link.healthTimer = some 1000000 := by
  have hrun : (s.runEntered v).link.healthTimer = some 1000000 := by
    rw [State.runEntered, State.clearEnterRun_link, State.encoderEnterRun]
    split
    · rw [State.sendOdometry, (State.enqueue_sendsOnly _ _ _).1, State.setEnc_link, State.runBlocks_link]
      rfl
    · rw [State.runBlocks_link]
      rfl
  rw [s.enterRun_eq_recompute, (State.recompute_sendsOnly _).1, hrun]

/-- Settles O22: the blocks' values at RUN entry, the first recompute and the frames it leaves. -/
theorem setupCompletionEntersRun : Obligations.SetupCompletionEntersRun := by
  intro s h d p0 p1 p2 p3 ha hd hr hn h0 h1 h2 h3
  have hexec := ha.exec_setupPart d
  have hrun : s.running = false := by simp [State.running, hn]
  have hstartup := State.noticed_startup_outside (s := s) { head := h, payload := .setup d } hrun
  have hlink := State.noticed_link_outside (s := s) { head := h, payload := .setup d } hrun
  have hkept := State.noticed_unchanged_outside (s := s) { head := h, payload := .setup d } hrun
  generalize s.noticed { head := h, payload := .setup d } = u at hexec hstartup hlink hkept
  rw [State.setupBlock_taken (by rwa [hstartup]) hr (by rwa [hstartup]), hstartup,
    State.trySetup_of_complete h0 h1 h2 h3] at hexec
  have hbase := clampSetup_sBase_le p0 p1 p2 p3
  generalize clampSetup p0 p1 p2 p3 = v at hexec hbase
  have hpins : u.pins = s.pins := hkept .pins (by decide)
  have henc : u.enc = s.enc := hkept .enc (by decide)
  have htable : u.table = s.table := hkept .table (by decide)
  have hreport : u.report = s.report := hkept .report (by decide)
  have hq : u.link.queue = s.link.queue := by rw [hlink]; simp [Link.handle]
  have hn : u.link.nextOrder = s.link.nextOrder := by rw [hlink]; simp [Link.handle]
  obtain ⟨w, hw⟩ : ∃ w, w = u.setStartup (s.startup.holdPart d.part) := ⟨_, rfl⟩
  rw [← hw] at hexec
  obtain ⟨hdriver, hhold, hown, hahead, hbehind, htimer, l, -, hlast, hstop, -⟩ := w.enterRun_clear v hbase
  have hu : w.startup = s.startup.holdPart d.part := by rw [hw, State.setStartup_startup]
  have hrole : w.startup.role = s.startup.role := by rw [hu, Startup.holdPart_role]
  have hpos : w.startup.pos = s.startup.pos := by rw [hu, Startup.holdPart_pos]
  have hwtable : w.table = s.table := by rw [hw, State.setStartup_table, htable]
  have hwreport : w.report = s.report := by rw [hw, State.setStartup_report, hreport]
  have hwpins : w.pins = s.pins := by rw [hw, State.setStartup_pins, hpins]
  have hwenc : w.enc = s.enc := by rw [hw, State.setStartup_enc, henc]
  have hwq : w.link.queue = s.link.queue := by rw [hw, State.setStartup_link, hq]
  have hwn : w.link.nextOrder = s.link.nextOrder := by rw [hw, State.setStartup_link, hn]
  obtain ⟨hf, hfa, hwl, hwr, hbump, hdrop⟩ := w.runEntered_channels v
  have hentered := w.enterRun_startup v
  have hE := w.enterRun_eq_recompute v
  have htable' : (w.enterRun v).table = s.table.clear (some ageTick) := by
    rw [hE, State.recompute_table, State.runEntered_table, hwtable]
  have hreport' : (w.enterRun v).report = s.report.clear := by
    rw [hE, State.recompute_report, State.runEntered_report, hwreport]
  have hpeers' : (w.enterRun v).peers = w.peers.enterRun v.expected := by
    rw [hE, State.recompute_peers, State.runEntered_peers]
  have hbeacon' : (w.enterRun v).beacon = Beacon.enterRun s.pins := by
    rw [hE, State.recompute_beacon, State.runEntered_beacon, hwpins]
  have hodo' : (w.enterRun v).odo = { w.odo.lose with
      source := if s.startup.role = .wheel then some s.startup.pos else none, clashHold := none } := by
    rw [hE, State.recompute_odo, State.runEntered_odo, hrole, hpos]
  have hfloor' : (w.enterRun v).floor = (w.runEntered v).floor := by rw [hE, State.recompute_floor]
  have hwall' : (w.enterRun v).wall = (w.runEntered v).wall := by rw [hE, State.recompute_wall]
  have hbump' : (w.enterRun v).bump = (w.runEntered v).bump := by rw [hE, State.recompute_bump]
  have hdrop' : (w.enterRun v).drop = (w.runEntered v).drop := by rw [hE, State.recompute_drop]
  have hhealth := w.enterRun_healthTimer v
  have hqueue := w.enterRun_queue v hbase
  rw [hwq, hwn, hrole, State.firstOdometry, hwenc] at hqueue
  generalize w.enterRun v = t at *
  refine ⟨t, hexec, ?_⟩
  dsimp only
  rw [hentered, hfloor', hwall', hbump', hdrop', hodo', htable', hreport', hpeers', hbeacon', hlast]
  refine ⟨rfl, rfl, rfl, rfl, rfl, rfl, hf, hwl, hfa, hwr, hbump, hdrop, rfl, rfl, rfl, rfl, rfl, rfl, rfl, rfl, rfl, rfl,
    rfl, fun p => ?_, rfl, rfl, hhealth, hdriver, hhold, hown, hahead, hbehind, htimer, ?_, fun hroom hkinds => ?_⟩
  · simp [PeerMonitor.enterRun, PeerMonitor.expect]
  · simp [hstop]
  · obtain ⟨l', hl', hqueue⟩ := hqueue hroom hkinds
    obtain rfl : l = l' := Option.some.inj (hlast.symm.trans hl')
    exact ⟨_, l, rfl, rfl, hqueue⟩

end Sys2Proof.Machine
end

section
/-! PROOFS. What rejoin orders and mode orders make of a node (R158, R189). -/

namespace Sys2Proof.Machine

open Sys2Proof

/-! ### Rejoin orders -/

theorem State.Accepts.exec_rejoinOrder {s : State} {h : Head} (ha : s.Accepts h) (dest : Pos) :
    exec (.rejoinOrder h dest) s = .next ((s.noticed { head := h, payload := .rejoin dest }).rejoinBlock h dest) :=
  (State.Accepts.takes (f := { head := h, payload := .rejoin dest }) ha rfl rfl).exec_eq

theorem State.rejoinBlock_ignored {s : State} {h : Head} {dest : Pos} (hd : dest ≠ s.startup.pos) :
    s.rejoinBlock h dest = s := if_pos hd

theorem State.rejoinBlock_refused {s : State} {h : Head} {dest : Pos} (hd : dest = s.startup.pos)
    (hor : h.role ≠ .controller ∨ s.startup.node = .selfTest) : s.rejoinBlock h dest = s.count .refusedOrder := by
  rw [State.rejoinBlock, if_neg (by simpa using hd)]
  split
  · rfl
  next hr =>
    have hn := hor.resolve_left hr
    rw [if_neg (by simp [hn])]

theorem State.rejoinBlock_taken {s : State} {h : Head} {dest : Pos} (hd : dest = s.startup.pos)
    (hr : h.role = .controller) (hn : s.startup.node = .run ∨ s.startup.node = .awaitSetup) :
    s.rejoinBlock h dest = s.rejoin := by
  rw [State.rejoinBlock, if_neg (by simpa using hd), if_neg (by simpa using hr), if_pos hn]

/-- The state after a taken order, with its code 2 frame (R185, R189). -/
theorem State.rejoin_eq_of_room (s : State) : s.rejoin =
    (s.rejoined.setStartup { s.startup.rejoin with
      bootPending := some s.link.nextOrder, code := some .c2, led := .flashOn 2 0, ledTimer := some 150000 }).setLink
      { s.link.rejoin with
        queue := [newEntry (s.rejoined.bootFrame .c2) false s.link.nextOrder], nextOrder := s.link.nextOrder + 1 } := by
  have hroom : s.rejoined.link.queue.length < txQueueSize := by
    rw [show s.rejoined.link.queue = [] from rfl]
    decide
  rw [State.rejoin_eq, State.formPendingBoot_of_room _ _ hroom]
  rfl

/-- Settles O23: the order's values are written out in the model; the frame's notice hands on a verdict at most. -/
theorem rejoinOrderIsJudged : Obligations.RejoinOrderIsJudged := by
  intro s h dest ha
  have hexec := ha.exec_rejoinOrder dest
  have hstartup := s.noticed_startup { head := h, payload := .rejoin dest }
  have hrefused := s.noticed_refusedOrder { head := h, payload := .rejoin dest }
  have hlink := s.noticed_link { head := h, payload := .rejoin dest }
  have houtside := State.noticed_link_outside (s := s) { head := h, payload := .rejoin dest }
  have hkept := s.noticed_unchanged { head := h, payload := .rejoin dest }
  generalize s.noticed { head := h, payload := .rejoin dest } = u at hexec hstartup hrefused hlink houtside hkept
  have hpos : u.startup.pos = s.startup.pos := by rw [hstartup]
  have hnode : u.startup.node = s.startup.node := by rw [hstartup]
  refine ⟨fun hd => ⟨_, hexec, ?_⟩, fun hd hor => ⟨_, hexec, ?_⟩, fun hd hr hn => ?_⟩
  · rw [State.rejoinBlock_ignored (by rwa [hpos])]
    exact ⟨hnode, hrefused⟩
  · rw [State.rejoinBlock_refused (by rwa [hpos]) (by rwa [hnode])]
    exact ⟨hnode, u.count_refusedOrder.trans (congrArg satInc hrefused)⟩
  · rw [State.rejoinBlock_taken (by rwa [hpos]) hr (by rwa [hnode]), State.rejoin_eq_of_room] at hexec
    have hcounts : u.link.counts = { s.link.counts with txFail := u.link.counts.txFail } := by
      conv_lhs => rw [hlink]
    have hseq : u.link.seq = s.link.seq := by rw [hlink]; simp [Link.handle]
    have hkeeps : s.running = false → u.link.counts = s.link.counts ∧ u.link.nextOrder = s.link.nextOrder := by
      intro hrun
      rw [houtside hrun]
      simp [Link.handle]
    have hfloor : u.floor = s.floor := hkept .floor (by decide)
    have hwall : u.wall = s.wall := hkept .wall (by decide)
    have henc : u.enc = s.enc := hkept .enc (by decide)
    have htable : u.table = s.table := hkept .table (by decide)
    have hreport : u.report = s.report := hkept .report (by decide)
    have hbeacon : u.beacon = s.beacon := hkept .beacon (by decide)
    refine ⟨_, hexec, rfl, rfl, rfl, rfl, rfl, rfl, rfl, rfl,
      ⟨_, u.link.nextOrder, rfl, rfl, rfl, rfl, fun hrun => (hkeeps hrun).2⟩, hcounts, fun hrun => (hkeeps hrun).1, hseq, rfl,
      rfl, ?_, rfl, rfl, rfl, rfl, rfl, rfl, rfl, rfl, rfl, rfl, rfl, rfl, congrArg (·.ch.step) hfloor, rfl, rfl,
      congrArg (·.ch.step) hwall, congrArg (·.healthOk) hwall, rfl, rfl, congrArg (·.left) henc, congrArg (·.right) henc,
      rfl, rfl, rfl, rfl, congrArg (·.good) htable, rfl, rfl, congrArg (·.nextId) hreport, rfl, rfl,
      congrArg (·.mark) hbeacon, rfl, rfl, fun p => ?_⟩
    · intro o ho
      obtain ⟨q, -, rfl⟩ := Option.map_eq_some_iff.1 ho
      rfl
    · simp [State.rejoined, PeerMonitor.rejoin, PeerMonitor.expect]

/-! ### Mode orders -/

theorem State.Accepts.exec_modeOrder {s : State} {h : Head} (ha : s.Accepts h) (value : Byte) :
    exec (.modeOrder h value) s = .next ((s.noticed { head := h, payload := .mode value }).modeBlock h value) :=
  (State.Accepts.takes (f := { head := h, payload := .mode value }) ha rfl rfl).exec_eq

theorem State.noticed_peers_mode (s : State) (f : Frame) : (s.noticed f).peers.mode = s.peers.mode := by
  have hbegun : (s.begun f).peers.mode = s.peers.mode := by
    unfold State.begun State.begunOn State.beforeTest
    split <;> simp [State.forgetSeq, PeerMonitor.setEntry]
  rw [State.noticed, State.noticedOn_peers]
  exact hbegun

theorem modeOf_eq_none {value : Byte} (h : 2 < value.toNat) : modeOf value = none := by
  have hne (n : Byte) (hn : n.toNat ≤ 2) : value ≠ n := by
    rintro rfl
    omega
  rw [modeOf, if_neg (hne 0 (by decide)), if_neg (hne 1 (by decide)), if_neg (hne 2 (by decide))]

theorem State.modeBlock_refused {s : State} {h : Head} {value : Byte}
    (hor : h.role ≠ .controller ∨ s.startup.node ≠ .run ∨ 2 < value.toNat) :
    s.modeBlock h value = s.count .refusedOrder := by
  unfold State.modeBlock
  split
  · rfl
  next hno =>
    have hvalue : 2 < value.toNat := by
      simp only [State.running, not_or] at hno
      simp_all
    simp [modeOf_eq_none hvalue]

/-- The state in which the channels see a change of mode (R133). -/
def State.modeSet (s : State) (m : Mode) : State := (s.setPeers { s.peers with mode := m }).notify s true

theorem State.modeBlock_taken {s : State} {h : Head} {value : Byte} {m : Mode} (hr : h.role = .controller)
    (hn : s.startup.node = .run) (hm : modeOf value = some m) :
    s.modeBlock h value = if m = s.peers.mode then s else
      (s.modeSet m).handing fun t => t.channelsMode s.peers.mode m := by
  unfold State.modeBlock
  rw [if_neg (by simp [hr, State.running, hn]), hm]
  rfl

/-! ### The channels at a change of mode -/

/-- A burst that falls due starts or waits (R3). -/
theorem State.floorDue_ch (s : State) : s.floorDue.floor.ch.period = s.floor.ch.period ∧
    (s.floorDue.floor.ch.bursting = true ∨ s.floorDue.floor.ch.due = true) := by
  unfold State.floorDue
  dsimp only
  rw [State.setFloor_floor]
  dsimp only
  split
  · exact ⟨rfl, .inl rfl⟩
  · exact ⟨rfl, .inr rfl⟩

theorem State.wallDue_ch (s : State) : s.wallDue.wall.ch.period = s.wall.ch.period ∧
    s.wallDue.wall.ch.relock = s.wall.ch.relock ∧ s.wallDue.wall.ch.blinded = s.wall.ch.blinded ∧
    (s.wallDue.wall.ch.bursting = true ∨ s.wallDue.wall.ch.due = true) := by
  unfold State.wallDue
  dsimp only
  rw [State.setWall_wall]
  dsimp only
  split
  · exact ⟨rfl, rfl, rfl, .inl rfl⟩
  · exact ⟨rfl, rfl, rfl, .inr rfl⟩

/-- Both channels' bursts fall due, in either order (R3). -/
theorem State.bothDue_cases (s : State) : ∃ u : State,
    (u.floor = s.floor ∧ u.wall = s.wall) ∧ (s.bothDue = u.floorDue.wallDue ∨ s.bothDue = u.wallDue.floorDue) := by
  refine ⟨s.setChoices (s.choices + 1), ⟨rfl, rfl⟩, ?_⟩
  unfold State.bothDue
  dsimp only
  split
  · exact .inl rfl
  · exact .inr rfl

theorem State.bothDue_channels (s : State) :
    s.bothDue.floor.accepted = s.floor.accepted ∧ s.bothDue.floor.ch.period = s.floor.ch.period ∧
    (s.bothDue.floor.ch.bursting = true ∨ s.bothDue.floor.ch.due = true) ∧
    s.bothDue.wall.result = s.wall.result ∧ s.bothDue.wall.ch.step = s.wall.ch.step ∧
    s.bothDue.wall.ch.period = s.wall.ch.period ∧
    s.bothDue.wall.ch.relock = s.wall.ch.relock ∧ s.bothDue.wall.ch.blinded = s.wall.ch.blinded ∧
    (s.bothDue.wall.ch.bursting = true ∨ s.bothDue.wall.ch.due = true) := by
  obtain ⟨u, ⟨hf, hw⟩, hboth | hboth⟩ := s.bothDue_cases <;> rw [hboth, ← hf, ← hw]
  · obtain ⟨hp, hb⟩ := u.floorDue_ch
    obtain ⟨hwp, hrelock, hblinded, hwb⟩ := u.floorDue.wallDue_ch
    exact ⟨rfl, hp, hb, rfl, u.floorDue.wallDue_wall.2, hwp, hrelock, hblinded, hwb⟩
  · obtain ⟨hp, hb⟩ := u.wallDue.floorDue_ch
    obtain ⟨hwp, hrelock, hblinded, hwb⟩ := u.wallDue_ch
    exact ⟨rfl, hp, hb, rfl, u.wallDue_wall.2, hwp, hrelock, hblinded, hwb⟩

/-- A change into PARK (R23). -/
theorem State.channelsPark_values (s : State) :
    s.channelsPark.floor.ch.period = some 20000 ∧ s.channelsPark.wall.result = .unseen ∧
    s.channelsPark.wall.ch.bursting = false ∧ s.channelsPark.wall.ch.due = false ∧
    s.channelsPark.wall.ch.period = none ∧ s.channelsPark.floor.accepted = s.floor.accepted := by
  have hpark : (s.floor.park s.wall.ch.bursting).ch.period = some 20000 ∧
      (s.floor.park s.wall.ch.bursting).accepted = s.floor.accepted := by
    unfold FloorChannel.park
    dsimp only
    split
    · exact ⟨rfl, rfl⟩
    · split <;> exact ⟨rfl, rfl⟩
  exact ⟨hpark.1, rfl, rfl, rfl, rfl, hpark.2⟩

/-- A change out of PARK (R23). -/
theorem State.channelsUnpark_values (s : State) :
    s.channelsUnpark.floor.ch.period = some 2000 ∧ s.channelsUnpark.floor.accepted = s.floor.accepted ∧
    (s.channelsUnpark.floor.ch.bursting = true ∨ s.channelsUnpark.floor.ch.due = true) ∧
    (s.wall.healthOk = true →
      s.channelsUnpark.wall.ch.step = s.setup.lf ∧ s.channelsUnpark.wall.ch.relock = 0 ∧
      s.channelsUnpark.wall.ch.blinded = 0 ∧ s.channelsUnpark.wall.result = .unseen ∧
      s.channelsUnpark.wall.ch.period = some 4000 ∧
      (s.channelsUnpark.wall.ch.bursting = true ∨ s.channelsUnpark.wall.ch.due = true)) := by
  unfold State.channelsUnpark
  dsimp only
  by_cases hok : s.wall.healthOk = true
  · rw [State.setFloor_wall, if_pos hok]
    obtain ⟨ha, hp, hb, hr, hstep, hwp, hrelock, hblinded, hwb⟩ := State.bothDue_channels
      (State.setWall (s.setFloor { s.floor with ch := { s.floor.ch with period := some (floorPeriod .clean) } })
        { s.wall with ch := Channel.activate s.setup wallPeriod, result := .unseen })
    exact ⟨hp, ha, hb, fun _ => ⟨hstep, hrelock, hblinded, hr, hwp, hwb⟩⟩
  · rw [State.setFloor_wall, if_neg hok]
    obtain ⟨hp, hb⟩ := (s.setFloor { s.floor with ch := { s.floor.ch with period := some (floorPeriod .clean) } }).floorDue_ch
    exact ⟨hp, rfl, hb, fun h => absurd h hok⟩

section
variable (s : State) (m : Mode)

@[simp] theorem State.modeSet_floor : (s.modeSet m).floor = s.floor := by simp [State.modeSet]

@[simp] theorem State.modeSet_wall : (s.modeSet m).wall = s.wall := by simp [State.modeSet]

@[simp] theorem State.modeSet_running : (s.modeSet m).running = s.running := by simp [State.modeSet]

@[simp] theorem State.modeSet_setup : (s.modeSet m).setup = s.setup := by
  rw [State.modeSet, State.setup, (State.notify_sendsOnly _ _ _).2]
  rfl

@[simp] theorem State.modeSet_peers_mode : (s.modeSet m).peers.mode = m := by simp [State.modeSet]

theorem State.modeSet_refusedOrder :
    (s.modeSet m).link.counts.refusedOrder = s.link.counts.refusedOrder := by
  rw [State.modeSet, (State.notify_sendsOnly _ _ _).1]
  rfl

theorem State.modeSet_unchanged : UnchangedBut [.peers, .clear, .link, .startup] s (s.modeSet m) := by
  intro b hb
  cases b <;> simp [Block.same, State.modeSet] at hb ⊢

end

theorem State.handing_channelsMode_refusedOrder (s : State) (old new : Mode) :
    (s.handing fun t => t.channelsMode old new).link.counts.refusedOrder = s.link.counts.refusedOrder := by
  rw [State.handing, (State.notify_sendsOnly _ _ _).1]
  simp

theorem State.handing_channelsMode_unchanged (s : State) (old new : Mode) :
    UnchangedBut [.clear, .link, .startup, .floor, .wall, .choices] s (s.handing fun t => t.channelsMode old new) := by
  intro b hb
  cases b <;> simp [Block.same] at hb ⊢

/-- A mode that changes: what the order makes of the count and of the channels (R23, R158). -/
theorem State.modeChanged_values {u : State} {m old : Mode} {t : State} (hrun : u.running = true)
    (ht : t = (u.modeSet m).handing fun v => v.channelsMode old m) :
    t.peers.mode = m ∧ t.link.counts.refusedOrder = u.link.counts.refusedOrder ∧
    UnchangedBut [.peers, .odo, .clear, .link, .startup, .floor, .wall, .choices] u t ∧
    (m ≠ .park → old ≠ .park → t.floor = u.floor ∧ t.wall = u.wall) ∧
    (m = .park → old ≠ .park →
      t.floor.ch.period = some 20000 ∧ t.wall.result = .unseen ∧ t.wall.ch.bursting = false ∧
      t.wall.ch.due = false ∧ t.wall.ch.period = none ∧ t.floor.accepted = u.floor.accepted ∧ t.wemit = false) ∧
    (m ≠ .park → old = .park →
      t.floor.ch.period = some 2000 ∧ t.floor.accepted = u.floor.accepted ∧
      (t.floor.ch.bursting = true ∨ t.floor.ch.due = true) ∧
      (u.wall.healthOk = true →
        t.wall.ch.step = u.setup.lf ∧ t.wall.ch.relock = 0 ∧ t.wall.ch.blinded = 0 ∧ t.wall.result = .unseen ∧
        t.wall.ch.period = some 4000 ∧ (t.wall.ch.bursting = true ∨ t.wall.ch.due = true))) := by
  have hfloor : t.floor = ((u.modeSet m).channelsMode old m).floor := by rw [ht, State.handing_floor]
  have hwall : t.wall = ((u.modeSet m).channelsMode old m).wall := by rw [ht, State.handing_wall]
  have hwemit : t.wemit = t.wall.ch.lit := by
    have hrun' : t.running = true := by
      rw [ht, State.handing_running, State.running, State.channelsMode_startup, ← State.running, u.modeSet_running, hrun]
    rw [State.wemit, if_pos hrun']
  refine ⟨by rw [ht]; simp, by rw [ht, State.handing_channelsMode_refusedOrder, u.modeSet_refusedOrder], ?_,
    fun h1 h2 => ?_, fun h1 h2 => ?_, fun h1 h2 => ?_⟩
  · rw [ht]
    exact ((u.modeSet_unchanged m).mono (by decide)).trans
      ((State.handing_channelsMode_unchanged (u.modeSet m) _ _).mono (by decide))
  · rw [hfloor, hwall, State.channelsMode, if_neg h1, if_neg h2, u.modeSet_floor, u.modeSet_wall]
    exact ⟨rfl, rfl⟩
  · obtain ⟨hp, hr, hb, hd, hwp, ha⟩ := (u.modeSet m).channelsPark_values
    have hlit : (u.modeSet m).channelsPark.wall.ch.lit = false := by rw [Channel.lit, hb, Bool.false_and]
    rw [u.modeSet_floor] at ha
    rw [hwemit, hfloor, hwall, State.channelsMode, if_pos h1]
    exact ⟨hp, hr, hb, hd, hwp, ha, hlit⟩
  · obtain ⟨hp, ha, hb, hw⟩ := (u.modeSet m).channelsUnpark_values
    rw [u.modeSet_floor] at ha
    rw [u.modeSet_wall, u.modeSet_setup] at hw
    rw [hfloor, hwall, State.channelsMode, if_neg h1, if_pos h2]
    exact ⟨hp, ha, hb, hw⟩

/-- Settles O24: the order's count, and the channels by R23. -/
theorem modeOrderIsJudged : Obligations.ModeOrderIsJudged := by
  intro s h value ha
  have hexec := ha.exec_modeOrder value
  have hstartup := s.noticed_startup { head := h, payload := .mode value }
  have hrefused := s.noticed_refusedOrder { head := h, payload := .mode value }
  have hmode := s.noticed_peers_mode { head := h, payload := .mode value }
  have hsetup := s.noticed_setup { head := h, payload := .mode value }
  have hkept := s.noticed_unchanged { head := h, payload := .mode value }
  generalize s.noticed { head := h, payload := .mode value } = u at hexec hstartup hrefused hmode hsetup hkept
  have hnode : u.startup.node = s.startup.node := by rw [hstartup]
  refine ⟨fun hor => ⟨_, hexec, ?_⟩, fun m hr hn hvalue => ⟨_, hexec, ?_⟩⟩
  · rw [State.modeBlock_refused (by rwa [hnode])]
    exact ⟨hmode, u.count_refusedOrder.trans (congrArg satInc hrefused),
      (hkept.mono (by decide)).trans ((u.setLink_unchanged _).mono (by decide))⟩
  · have hm : modeOf value = some m := by obtain ⟨rfl, rfl⟩ | ⟨rfl, rfl⟩ | ⟨rfl, rfl⟩ := hvalue <;> rfl
    have hfloor : u.floor = s.floor := hkept .floor (by decide)
    have hwall : u.wall = s.wall := hkept .wall (by decide)
    have hrun : u.running = true := by simp [State.running, hnode, hn]
    rw [State.modeBlock_taken hr (by rw [hnode, hn]) hm, hmode]
    split
    next hsame =>
      exact ⟨hmode.trans hsame.symm, hrefused, hkept.mono (by decide), fun _ _ => ⟨hfloor, hwall⟩,
        fun h1 h2 => absurd (hsame.symm.trans h1) h2, fun h1 h2 => absurd (hsame.trans h2) h1⟩
    next hother =>
      have hvalues := State.modeChanged_values (m := m) (old := s.peers.mode) hrun rfl
      rw [hfloor, hwall, hsetup, hrefused] at hvalues
      obtain ⟨htm, hcount, hchanged, hchannels⟩ := hvalues
      exact ⟨htm, hcount, (hkept.mono (by decide)).trans hchanged, hchannels⟩

end Sys2Proof.Machine
end

section
/-! PROOFS. The bursts of the two channels: how they start, and what follows their ends (R1 to R4, R13). -/

namespace Sys2Proof.Machine

open Sys2Proof

/-! ### Bursts that fall due and start -/

/-- Whether a burst that falls due may start at once (R3). -/
def State.quiet (s : State) : Prop :=
  s.floor.ch.bursting = false ∧ s.floor.ch.due = false ∧ s.wall.ch.bursting = false ∧ s.wall.ch.due = false

theorem State.floorDue_of_quiet {s : State} (h : s.quiet) :
    s.floorDue = s.setFloor { s.floor with ch := s.floor.ch.start } := by
  obtain ⟨h1, h2, h3, h4⟩ := h
  simp [State.floorDue, h1, h2, h3, h4]

theorem State.floorDue_of_busy {s : State} (h : ¬ s.quiet) :
    s.floorDue = s.setFloor { s.floor with ch := s.floor.ch.wait } := by
  have hfree : (!s.floor.ch.bursting && !s.floor.ch.due && !s.wall.ch.bursting && !s.wall.ch.due) = false := by
    rw [Bool.eq_false_iff]
    simpa [State.quiet, and_assoc] using h
  simp [State.floorDue, hfree]

theorem State.wallDue_of_quiet {s : State} (h : s.quiet) :
    s.wallDue = s.setWall { s.wall with ch := s.wall.ch.start } := by
  obtain ⟨h1, h2, h3, h4⟩ := h
  simp [State.wallDue, h1, h2, h3, h4]

theorem State.wallDue_of_busy {s : State} (h : ¬ s.quiet) :
    s.wallDue = s.setWall { s.wall with ch := s.wall.ch.wait } := by
  have hfree : (!s.wall.ch.bursting && !s.wall.ch.due && !s.floor.ch.bursting && !s.floor.ch.due) = false := by
    rw [Bool.eq_false_iff]
    intro hf
    refine h ?_
    simp only [Bool.and_eq_true, Bool.not_eq_true'] at hf
    obtain ⟨⟨⟨h1, h2⟩, h3⟩, h4⟩ := hf
    exact ⟨h3, h4, h1, h2⟩
  simp [State.wallDue, hfree]

theorem State.not_quiet {s : State} (h : s.floor.ch.bursting = true ∨ s.floor.ch.due = true ∨
    s.wall.ch.bursting = true ∨ s.wall.ch.due = true) : ¬ s.quiet := by
  rintro ⟨h1, h2, h3, h4⟩
  simp_all

theorem State.femit_of_running {s : State} (h : s.running = true) : s.femit = s.floor.ch.lit := if_pos h

theorem State.wemit_of_running {s : State} (h : s.running = true) : s.wemit = s.wall.ch.lit := if_pos h

/-- The floor period by the mode (R2). -/
theorem floorPeriod_eq (m : Mode) : floorPeriod m = if m = .park then 20000 else 2000 := by cases m <;> rfl

theorem State.setFloor_unchanged (s : State) (f : FloorChannel) : UnchangedBut [.floor] s (s.setFloor f) := by
  intro b hb
  cases b <;> simp [Block.same] at hb ⊢

theorem State.setWall_unchanged (s : State) (w : WallChannel) : UnchangedBut [.wall] s (s.setWall w) := by
  intro b hb
  cases b <;> simp [Block.same] at hb ⊢

/-- FLOOR_PERIOD_EXPIRY with the timer running (R2, R3). -/
theorem State.floorPeriodExpiry_effect {s : State} (hrun : s.running = true) (hp : s.floor.ch.period.isSome = true)
    {t : State} (ht : t = s.floorPeriodExpiry) :
    UnchangedBut [.floor] s t ∧ t.floor = { s.floor with ch := t.floor.ch } ∧
    t.floor.ch.period = some (if s.peers.mode = .park then 20000 else 2000) ∧
    (s.quiet → t.floor.ch.bursting = true ∧ t.floor.ch.due = false ∧ t.floor.ch.ambient = some 40 ∧ t.femit = false) ∧
    (¬ s.quiet → t.floor.ch = { s.floor.ch with period := t.floor.ch.period, due := true } ∧ t.femit = s.femit) := by
  let u := s.setFloor { s.floor with ch := { s.floor.ch with period := some (floorPeriod s.peers.mode) } }
  have hu : t = u.floorDue := ht.trans (if_pos (by simp [hrun, hp]))
  have hquiet : u.quiet ↔ s.quiet := Iff.rfl
  rw [← floorPeriod_eq]
  by_cases hq : s.quiet
  · rw [hu, State.floorDue_of_quiet (hquiet.2 hq)]
    refine ⟨(s.setFloor_unchanged _).trans (u.setFloor_unchanged _), rfl, rfl, fun _ => ⟨rfl, rfl, rfl, ?_⟩, absurd hq⟩
    rw [State.femit_of_running (by exact hrun)]
    rfl
  · rw [hu, State.floorDue_of_busy (mt hquiet.1 hq)]
    refine ⟨(s.setFloor_unchanged _).trans (u.setFloor_unchanged _), rfl, rfl, fun h => absurd h hq, fun _ => ⟨rfl, ?_⟩⟩
    rw [State.femit_of_running (by exact hrun), State.femit_of_running hrun]
    rfl

/-- WALL_PERIOD_EXPIRY with the timer running (R2, R3). -/
theorem State.wallPeriodExpiry_effect {s : State} (hrun : s.running = true) (hp : s.wall.ch.period.isSome = true)
    {t : State} (ht : t = s.wallPeriodExpiry) :
    UnchangedBut [.wall] s t ∧ t.wall = { s.wall with ch := t.wall.ch } ∧ t.wall.ch.period = some 4000 ∧
    (s.quiet → t.wall.ch.bursting = true ∧ t.wall.ch.due = false ∧ t.wall.ch.ambient = some 40 ∧ t.wemit = false) ∧
    (¬ s.quiet → t.wall.ch = { s.wall.ch with period := t.wall.ch.period, due := true } ∧ t.wemit = s.wemit) := by
  let u := s.setWall { s.wall with ch := { s.wall.ch with period := some wallPeriod } }
  have hu : t = u.wallDue := ht.trans (if_pos (by simp [hrun, hp]))
  have hquiet : u.quiet ↔ s.quiet := Iff.rfl
  by_cases hq : s.quiet
  · rw [hu, State.wallDue_of_quiet (hquiet.2 hq)]
    refine ⟨(s.setWall_unchanged _).trans (u.setWall_unchanged _), rfl, rfl, fun _ => ⟨rfl, rfl, rfl, ?_⟩, absurd hq⟩
    rw [State.wemit_of_running (by exact hrun)]
    rfl
  · rw [hu, State.wallDue_of_busy (mt hquiet.1 hq)]
    refine ⟨(s.setWall_unchanged _).trans (u.setWall_unchanged _), rfl, rfl, fun h => absurd h hq, fun _ => ⟨rfl, ?_⟩⟩
    rw [State.wemit_of_running (by exact hrun), State.wemit_of_running hrun]
    rfl

/-- Settles O25: a burst that falls due starts when both channels are quiet, and a waiting one by the guard. -/
theorem burstsStartByTheGuard : Obligations.BurstsStartByTheGuard := by
  refine ⟨fun s hrun => ⟨fun hp => ?_, fun hp => ?_⟩, fun s hrun hf hw => ⟨fun hd hg => ?_, fun hd hg => ?_⟩⟩
  · obtain ⟨hkept, hrest, hperiod, hstarts, hwaits⟩ := State.floorPeriodExpiry_effect hrun hp rfl
    exact ⟨_, rfl, hkept, hrest, hperiod, fun h1 h2 h3 h4 => hstarts ⟨h1, h2, h3, h4⟩,
      fun h => hwaits (State.not_quiet h)⟩
  · obtain ⟨hkept, hrest, hperiod, hstarts, hwaits⟩ := State.wallPeriodExpiry_effect hrun hp rfl
    exact ⟨_, rfl, hkept, hrest, hperiod, fun h1 h2 h3 h4 => hstarts ⟨h1, h2, h3, h4⟩,
      fun h => hwaits (State.not_quiet h)⟩
  · have hstart : s.guardedStart .floor = s.setFloor { s.floor with ch := s.floor.ch.start } :=
      if_pos (by simp [hrun, hd, hg, hf, hw])
    refine ⟨_, congrArg Host.Outcome.next hstart, rfl, ?_, s.setFloor_unchanged _⟩
    rw [State.femit_of_running (by exact hrun)]
    rfl
  · have hstart : s.guardedStart .wall = s.setWall { s.wall with ch := s.wall.ch.start } :=
      if_pos (by simp [hrun, hd, hg, hf, hw])
    refine ⟨_, congrArg Host.Outcome.next hstart, rfl, ?_, s.setWall_unchanged _⟩
    rw [State.wemit_of_running (by exact hrun)]
    rfl

/-! ### What follows the end of a burst -/

/-- The values of a channel that the end of a burst leaves. -/
def Channel.SameLadder (c d : Channel) : Prop := d.step = c.step ∧ d.relock = c.relock ∧ d.blinded = c.blinded

/-- What the end of a floor burst makes of the two channels (R1, R3). -/
theorem State.afterFloorBurst_effect (u : State) {t : State} (ht : t = u.afterFloorBurst) :
    BurstEnded u.floor.ch t.floor.ch u.wall.ch t.wall.ch ∧ t.floor = { u.floor with ch := t.floor.ch } ∧
    t.wall = { u.wall with ch := t.wall.ch } ∧ u.floor.ch.SameLadder t.floor.ch ∧ t.floor.ch.lit = false := by
  unfold State.afterFloorBurst at ht
  dsimp only at ht
  rw [State.setFloor_wall, State.setFloor_floor] at ht
  split at ht
  next hw =>
    rw [ht]
    exact ⟨⟨(if_pos hw).symm, rfl, fun _ => ⟨rfl, rfl, rfl, rfl⟩, fun _ h => by simp [hw] at h⟩, rfl, rfl, ⟨rfl, rfl, rfl⟩,
      rfl⟩
  next hw =>
    split at ht
    next hf =>
      have hdue : u.floor.ch.due = true := hf
      rw [ht]
      refine ⟨⟨(if_neg hw).symm, rfl, fun h => ?_, fun _ _ => ⟨rfl, rfl, rfl, rfl⟩⟩, rfl, rfl, ⟨rfl, rfl, rfl⟩, rfl⟩
      simp [hdue, hw] at h
    next hf =>
      have hdue : u.floor.ch.due = false := Bool.eq_false_iff.2 hf
      rw [ht]
      exact ⟨⟨(if_neg hw).symm, rfl, fun _ => ⟨rfl, rfl, rfl, rfl⟩, fun h _ => by simp [hdue] at h⟩, rfl, rfl,
        ⟨rfl, rfl, rfl⟩, rfl⟩

/-- What the end of a wall burst makes of the two channels (R1, R3). -/
theorem State.afterWallBurst_effect (u : State) {t : State} (ht : t = u.afterWallBurst) :
    BurstEnded u.wall.ch t.wall.ch u.floor.ch t.floor.ch ∧ t.wall = { u.wall with ch := t.wall.ch } ∧
    t.floor = { u.floor with ch := t.floor.ch } ∧ u.wall.ch.SameLadder t.wall.ch ∧ t.wall.ch.lit = false := by
  unfold State.afterWallBurst at ht
  dsimp only at ht
  rw [State.setWall_floor, State.setWall_wall] at ht
  split at ht
  next hf =>
    rw [ht]
    exact ⟨⟨(if_pos hf).symm, rfl, fun _ => ⟨rfl, rfl, rfl, rfl⟩, fun _ h => by simp [hf] at h⟩, rfl, rfl, ⟨rfl, rfl, rfl⟩,
      rfl⟩
  next hf =>
    split at ht
    next hw =>
      have hdue : u.wall.ch.due = true := hw
      rw [ht]
      refine ⟨⟨(if_neg hf).symm, rfl, fun h => ?_, fun _ _ => ⟨rfl, rfl, rfl, rfl⟩⟩, rfl, rfl, ⟨rfl, rfl, rfl⟩, rfl⟩
      simp [hdue, hf] at h
    next hw =>
      have hdue : u.wall.ch.due = false := Bool.eq_false_iff.2 hw
      rw [ht]
      exact ⟨⟨(if_neg hf).symm, rfl, fun _ => ⟨rfl, rfl, rfl, rfl⟩, fun h _ => by simp [hdue] at h⟩, rfl, rfl,
        ⟨rfl, rfl, rfl⟩, rfl⟩

/-- The end of a burst reads a channel's period, guard and waiting burst only. -/
theorem BurstEnded.congr {own own₂ own' other other' : Channel} (h : BurstEnded own own' other other')
    (hp : own₂.period = own.period) (hd : own₂.due = own.due) (hg : own₂.guard = own.guard) :
    BurstEnded own₂ own' other other' := by
  unfold BurstEnded at h ⊢
  rwa [hp, hd, hg]

/-- What a state leaves to the recompute that follows (R127). -/
theorem State.notify_values (s b : State) (w : Bool) :
    (s.notify b w).floor = s.floor ∧ (s.notify b w).wall = s.wall ∧ (s.notify b w).running = s.running := by simp

/-- Blinded bursts are counted (R13). -/
theorem State.blinded_count (u s : State) (hu : u.link = (s.count .blindedBursts).link) (b : State) (w : Bool) :
    (u.notify b w).link.counts.blindedBursts = satInc s.link.counts.blindedBursts := by
  rw [(State.notify_sendsOnly _ _ _).1, hu]
  rfl

/-- The floor channel after a blinded burst (R4, R13). -/
theorem FloorChannel.blind_values (f : FloorChannel) :
    f.blind.ch = f.ch.blind ∧ f.blind.window = f.window ∧
    f.blind.accepted = (if f.ch.blinded + 1 = 50 then .unknown else f.accepted) ∧
    (f.ch.blinded + 1 ≠ 50 →
      f.blind.runClass = f.runClass ∧ f.blind.runCount = f.runCount ∧ f.blind.repeats = f.repeats) ∧
    (f.ch.blinded + 1 = 50 → f.blind.runClass = none ∧ f.blind.runCount = 0 ∧ f.blind.repeats = 0) := by
  by_cases h : f.ch.blinded + 1 = 50
  · have hb : f.blind = { f with
        ch := f.ch.blind, accepted := .unknown, runClass := none, runCount := 0, repeats := 0 } := if_pos h
    rw [hb, if_pos h]
    exact ⟨rfl, rfl, rfl, fun hn => absurd h hn, fun _ => ⟨rfl, rfl, rfl⟩⟩
  · have hb : f.blind = { f with ch := f.ch.blind } := if_neg h
    rw [hb, if_neg h]
    exact ⟨rfl, rfl, rfl, fun _ => ⟨rfl, rfl, rfl⟩, fun he => absurd he h⟩

theorem isBlindedBurst_iff (ambient : BitVec 10) : isBlindedBurst ambient = true ↔ 300 < ambient.toNat :=
  decide_eq_true_iff

/-- A blinded floor burst (R4, R13). -/
theorem State.floorBurstEnd_blinded {s : State} {ambient lit : BitVec 10} (hrun : s.running = true)
    (hburst : s.floor.ch.bursting = true) (hb : 300 < ambient.toNat) {u t : State}
    (hu : u = (s.setFloor s.floor.blind).count .blindedBursts) (ht : t = u.afterFloorBurst.notify s false) :
    s.floorBurstEnd ambient lit = t ∧ t.floor.ch.blinded = min 50 (s.floor.ch.blinded + 1) ∧
    t.floor.ch.step = s.floor.ch.step ∧ t.floor.ch.relock = s.floor.ch.relock ∧
    t.floor = { s.floor.blind with ch := t.floor.ch } ∧ t.femit = false ∧
    t.link.counts.blindedBursts = satInc s.link.counts.blindedBursts ∧
    BurstEnded s.floor.ch t.floor.ch s.wall.ch t.wall.ch ∧ t.wall = { s.wall with ch := t.wall.ch } ∧
    UnchangedBut [.floor, .wall, .link, .clear, .startup] s t := by
  have hexec : s.floorBurstEnd ambient lit = t := by
    rw [State.floorBurstEnd, if_pos (by simp [hrun, hburst]), State.floorResult, if_pos ((isBlindedBurst_iff _).2 hb),
      ht, hu]
  obtain ⟨hended, hfloor, hwall, ⟨hstep, hrelock, hblinded⟩, hlit⟩ := u.afterFloorBurst_effect rfl
  obtain ⟨htf, htw, htr⟩ := State.notify_values u.afterFloorBurst s false
  have huf : u.floor = s.floor.blind := by rw [hu]; rfl
  have huw : u.wall = s.wall := by rw [hu]; rfl
  have hch : s.floor.blind.ch = s.floor.ch.blind := s.floor.blind_values.1
  rw [← ht] at htf htw htr
  rw [← htf, huf, hch] at hstep hrelock hblinded
  rw [← htf, ← htw, huf, huw, hch] at hended
  rw [← htf, huf] at hfloor
  rw [← htw, huw] at hwall
  rw [← htf] at hlit
  refine ⟨hexec, hblinded, hstep, hrelock, hfloor, ?_, ?_, hended.congr rfl rfl rfl, hwall, fun b hb' => ?_⟩
  · rw [State.femit_of_running, hlit]
    rw [htr]
    simp [hu, State.running, ← hrun]
  · rw [ht, State.blinded_count _ (s.setFloor s.floor.blind) (by simp [hu]), State.setFloor_link]
  · cases b <;> simp [Block.same, ht, hu] at hb' ⊢

/-- A blinded wall burst (R4, R13). -/
theorem State.wallBurstEnd_blinded {s : State} {ambient lit : BitVec 10} (hrun : s.running = true)
    (hburst : s.wall.ch.bursting = true) (hb : 300 < ambient.toNat) {u t : State}
    (hu : u = (s.setWall s.wall.blind).count .blindedBursts) (ht : t = u.afterWallBurst.notify s false) :
    s.wallBurstEnd ambient lit = t ∧ t.wall.ch.blinded = min 50 (s.wall.ch.blinded + 1) ∧
    t.wall.ch.step = s.wall.ch.step ∧ t.wall.ch.relock = s.wall.ch.relock ∧
    t.wall = { s.wall.blind with ch := t.wall.ch } ∧ t.wemit = false ∧
    t.link.counts.blindedBursts = satInc s.link.counts.blindedBursts ∧
    BurstEnded s.wall.ch t.wall.ch s.floor.ch t.floor.ch ∧ t.floor = { s.floor with ch := t.floor.ch } ∧
    UnchangedBut [.floor, .wall, .link, .clear, .startup] s t := by
  have hexec : s.wallBurstEnd ambient lit = t := by
    rw [State.wallBurstEnd, if_pos (by simp [hrun, hburst]), State.wallResult, if_pos ((isBlindedBurst_iff _).2 hb),
      ht, hu]
  obtain ⟨hended, hwall, hfloor, ⟨hstep, hrelock, hblinded⟩, hlit⟩ := u.afterWallBurst_effect rfl
  obtain ⟨htf, htw, htr⟩ := State.notify_values u.afterWallBurst s false
  have huw : u.wall = s.wall.blind := by rw [hu]; rfl
  have huf : u.floor = s.floor := by rw [hu]; rfl
  rw [← ht] at htf htw htr
  rw [← htw, huw] at hstep hrelock hblinded
  rw [← htf, ← htw, huf, huw] at hended
  rw [← htw, huw] at hwall
  rw [← htf, huf] at hfloor
  rw [← htw] at hlit
  refine ⟨hexec, hblinded, hstep, hrelock, hwall, ?_, ?_, hended.congr rfl rfl rfl, hfloor, fun b hb' => ?_⟩
  · rw [State.wemit_of_running, hlit]
    rw [htr]
    simp [hu, State.running, ← hrun]
  · rw [ht, State.blinded_count _ (s.setWall s.wall.blind) (by simp [hu]), State.setWall_link]
  · cases b <;> simp [Block.same, ht, hu] at hb' ⊢

/-- Settles O26: the count by R4, then the end of the burst. -/
theorem blindedBurstsAreCounted : Obligations.BlindedBurstsAreCounted := by
  intro s ambient lit hrun hblind
  refine ⟨fun hburst => ?_, fun hburst => ?_⟩
  · obtain ⟨hexec, hblinded, hstep, hrelock, hfloor, hemit, hcount, hended, hwall, hkept⟩ :=
      State.floorBurstEnd_blinded (lit := lit) hrun hburst hblind rfl rfl
    obtain ⟨-, hwindow, haccepted, hrun49, hrun50⟩ := s.floor.blind_values
    refine ⟨_, congrArg Host.Outcome.next hexec, hblinded, hstep, hrelock, ?_, ?_, fun hn => ?_, fun hn => ?_, hemit,
      hcount, hended, hwall, hkept⟩
    · rw [hfloor, hwindow]
    · rw [hfloor, haccepted]
    · rw [hfloor]
      exact hrun49 hn
    · rw [hfloor]
      exact hrun50 hn
  · obtain ⟨hexec, hblinded, hstep, hrelock, hwall, hemit, hcount, hended, hfloor, hkept⟩ :=
      State.wallBurstEnd_blinded (lit := lit) hrun hburst hblind rfl rfl
    refine ⟨_, congrArg Host.Outcome.next hexec, hblinded, hstep, hrelock, ?_, ?_, hemit, hcount, hended, hfloor, hkept⟩
    · rw [hwall]
      rfl
    · rw [hwall]
      rfl

end Sys2Proof.Machine
end

section
/-! PROOFS. What a floor burst and a wall burst make of their channels: the ladder, the class and the result, and the
observations they enter (R5 to R12, R15 to R19). -/

namespace Sys2Proof.Machine

open Sys2Proof

/-! ### The ladder -/

/-- The move of R5. -/
theorem Channel.move_ladderMoved (c : Channel) (v : SetupValues) (a : Nat) : LadderMoved v a c (c.move v a) := by
  unfold LadderMoved Channel.move ladderMove bandOf
  refine ⟨rfl, fun h => ?_, fun h1 h2 => ?_, fun h1 h2 hw => ?_, fun h1 h2 hw => ?_, fun h => ?_⟩
  · simp [h]
  · simp [h1, Nat.not_lt.2 h2]
  · simp [h1, Nat.not_le.2 h2, show ¬ 900 < a by omega, Nat.not_le.2 hw]
  · simp [h1, Nat.not_le.2 h2, show ¬ 900 < a by omega, hw]
  · simp [show ¬ 900 < a by omega, show ¬ 200 ≤ a by omega, Nat.not_le.2 h]

theorem LadderMoved.congr {v : SetupValues} {a : Nat} {c d e : Channel} (h : LadderMoved v a c d)
    (he : d.SameLadder e) : LadderMoved v a c e := by
  obtain ⟨hs, hr, hb⟩ := he
  unfold LadderMoved at h ⊢
  rwa [hs, hr, hb]

theorem bandOf_high {a : Nat} (h : 900 < a) : bandOf a = .high := if_pos h

theorem bandOf_locked {a : Nat} (h : 200 ≤ a) (h' : a ≤ 900) : bandOf a = .locked := by
  simp [bandOf, h, Nat.not_lt.2 h']

theorem bandOf_weak {a : Nat} (h : 8 ≤ a) (h' : a < 200) : bandOf a = .weak := by
  simp [bandOf, h, show ¬ 900 < a by omega, Nat.not_le.2 h']

theorem bandOf_none {a : Nat} (h : a < 8) : bandOf a = .none := by
  simp [bandOf, show ¬ 900 < a by omega, show ¬ 200 ≤ a by omega, Nat.not_le.2 h]

/-! ### The class of a floor burst -/

/-- The window after a burst, no longer than 8 (R8, R10). -/
theorem FloorChannel.windowWith_eq {f : FloorChannel} (hf : f.window.length ≤ 8) (a : Nat) :
    f.windowWith a = if 200 ≤ a ∧ a ≤ 900 then f.window.drop (f.window.length - 7) ++ [a] else f.window := by
  have hband : bandOf a = .locked ↔ 200 ≤ a ∧ a ≤ 900 := by
    unfold bandOf
    split
    · simp; omega
    · split
      · simp; omega
      · split <;> simp <;> omega
  unfold FloorChannel.windowWith windowAppend
  simp only [hband]
  split
  · split
    next h7 => rw [show f.window.length - 7 = 0 by omega, List.drop_zero]
    next h7 => rw [show f.window.length - 7 = 1 by omega]
  · rfl

/-- The class of a burst by its band (R9, R11). -/
theorem FloorChannel.burstClass_eq (f : FloorChannel) (v : SetupValues) (a : Nat) : f.burstClass v a =
    if a < 8 then (if f.ch.step = v.lm then some .cliff else none)
    else if a < 200 then
      (if f.ch.step = v.lm then some (if isTextured (f.windowWith a) v.texture then .darkRug else .dark) else none)
    else if a ≤ 900 then
      (if 48 ≤ a * 256 / gain f.ch.step then some (if isTextured (f.windowWith a) v.texture then .lightRug else .hard)
       else some (if isTextured (f.windowWith a) v.texture then .darkRug else .dark))
    else if f.ch.step = 0 then some (if isTextured (f.windowWith a) v.texture then .lightRug else .hard)
    else none := by
  unfold FloorChannel.burstClass candidateOf reflectance
  by_cases h8 : a < 8
  · rw [if_pos h8, bandOf_none h8]
    dsimp only
    split <;> rfl
  · rw [if_neg h8]
    by_cases h200 : a < 200
    · rw [if_pos h200, bandOf_weak (by omega) h200]
      dsimp only
      split <;> rfl
    · rw [if_neg h200]
      by_cases h900 : a ≤ 900
      · rw [if_pos h900, bandOf_locked (by omega) h900]
        dsimp only
        split <;> rfl
      · rw [if_neg h900, bandOf_high (by omega)]
        dsimp only
        split <;> rfl

theorem classOf_ne_unknown (k : Candidate) (b : Bool) : classOf k b ≠ some .unknown := by
  cases k <;> cases b <;> simp [classOf]

theorem FloorChannel.burstClass_ne_unknown (f : FloorChannel) (v : SetupValues) (a : Nat) :
    f.burstClass v a ≠ some .unknown := classOf_ne_unknown _ _

/-! ### The run and the repeats -/

section
variable (f : FloorChannel) (c : FloorClass)

theorem FloorChannel.classify_ch (b : Bool) : (f.classify c b).ch = f.ch ∧ (f.classify c b).window = f.window := by
  unfold FloorChannel.classify
  split
  · exact ⟨rfl, rfl⟩
  · split <;> exact ⟨rfl, rfl⟩

/-- The channel after a burst, its ladder and its window apart (R8). -/
def FloorChannel.classified (k : Option FloorClass) (b : Bool) : FloorChannel :=
  match k with
  | some c => f.classify c b
  | none => f

/-- A burst under an active DROP (R17). -/
theorem FloorChannel.classify_drop : f.classify c true = { f with runClass := none, runCount := 0, repeats := 0 } :=
  if_pos rfl

variable {f c}

/-- A burst of the accepted class (R12, R15). -/
theorem FloorChannel.acceptsClass_same (h : c = f.accepted) : f.acceptsClass c = false := by
  simp [FloorChannel.acceptsClass, FloorChannel.runAfter, h]

theorem FloorChannel.runAfter_other (h : c ≠ f.accepted) :
    f.runAfter c = (some c, if f.runClass = some c then f.runCount + 1 else 1) := by
  unfold FloorChannel.runAfter
  rw [if_neg h]
  split <;> rfl

/-- A burst of another class accepts it at the threshold (R12). -/
theorem FloorChannel.acceptsClass_other (h : c ≠ f.accepted) : f.acceptsClass c =
    decide (runThreshold c f.accepted ≤ if f.runClass = some c then f.runCount + 1 else 1) := by
  simp [FloorChannel.acceptsClass, FloorChannel.runAfter_other h]

theorem FloorChannel.repeatDue_iff (h : f.acceptsClass c = false) :
    f.repeatDue c = true ↔ f.accepted ≠ .unknown ∧ 9 ≤ f.repeats := by
  simp [FloorChannel.repeatDue, h]

/-- A burst that accepts no class (R12, R15). -/
theorem FloorChannel.classify_of_not_accepts (h : f.acceptsClass c = false) :
    f.classify c false = { f with
      runClass := (f.runAfter c).1, runCount := (f.runAfter c).2
      repeats := if f.accepted = .unknown ∨ 9 ≤ f.repeats then 0 else f.repeats + 1 } := by
  have hrepeats : (if f.accepted = .unknown ∨ f.repeatDue c = true then 0 else f.repeats + 1) =
      if f.accepted = .unknown ∨ 9 ≤ f.repeats then 0 else f.repeats + 1 := by
    simp only [FloorChannel.repeatDue_iff h]
    by_cases hu : f.accepted = .unknown <;> simp [hu]
  unfold FloorChannel.classify
  rw [if_neg (by simp), if_neg (by simp [h]), hrepeats]

theorem FloorChannel.classify_of_accepts (h : f.acceptsClass c = true) :
    f.classify c false = { f with accepted := c, runClass := none, runCount := 0, repeats := 0 } := by
  unfold FloorChannel.classify
  rw [if_neg (by simp), if_pos h]

theorem FloorChannel.observes_of_accepts (h : f.acceptsClass c = true) : f.observes c false = some c := by
  simp [FloorChannel.observes, h]

theorem FloorChannel.observes_of_not_accepts (h : f.acceptsClass c = false) :
    f.observes c false = if f.accepted ≠ .unknown ∧ 9 ≤ f.repeats then some f.accepted else none := by
  unfold FloorChannel.observes
  rw [if_neg (by simp), if_neg (by simp [h])]
  simp only [FloorChannel.repeatDue_iff h]

end

/-- A non-blinded burst on the channel (R8): the class and the run, the ladder, and the window. -/
theorem FloorChannel.measure_eq (f : FloorChannel) (v : SetupValues) (a : Nat) (b : Bool) :
    f.measure v a b = { f.classified (f.burstClass v a) b with
      ch := f.ch.move v a, window := if (f.ch.move v a).step = f.ch.step then f.windowWith a else [] } := by
  have hclassify (c : FloorClass) : ({ f with window := f.windowWith a } : FloorChannel).classify c b =
      { f.classify c b with window := f.windowWith a } := by
    unfold FloorChannel.classify
    split
    · rfl
    · rw [show ({ f with window := f.windowWith a } : FloorChannel).acceptsClass c = f.acceptsClass c from rfl]
      split <;> rfl
  unfold FloorChannel.measure FloorChannel.classified
  cases hk : f.burstClass v a with
  | none => rfl
  | some c =>
    dsimp only
    rw [hclassify c]
    dsimp only
    rw [(f.classify_ch c b).1]

/-! ### The end of a burst that was not blinded -/

/-- The observation that a burst enters (R15, R18, R19), seen when the burst has ended. -/
theorem State.observeOpt_entered {s u : State} {i : Item} (hrun : s.running = true) (hu : u.running = s.running)
    (htable : u.table = s.table) (hcount : u.link.counts.tableDiscard = s.link.counts.tableDiscard) {t : State}
    (ht : t.table = (u.observeOpt (some i)).table) (hreport : t.report = (u.observeOpt (some i)).report)
    (hdiscard : t.link.counts.tableDiscard = (u.observeOpt (some i)).link.counts.tableDiscard) : ItemEntered i s t :=
  (u.observe_entered i (hu.trans hrun)).congr htable.symm hcount.symm ht hdiscard hreport

theorem State.observeOpt_running (u : State) (o : Option Item) : (u.observeOpt o).running = u.running := by
  cases o <;> simp [State.observeOpt]

/-- A non-blinded floor burst (R1, R3, R8, R15). -/
theorem State.floorBurstEnd_measured {s : State} {ambient lit : BitVec 10} {a : Nat} (hrun : s.running = true)
    (hburst : s.floor.ch.bursting = true) (hb : ambient.toNat ≤ 300) (ha : a = lit.toNat - ambient.toNat)
    {t : State} (ht : t = s.floorBurstEnd ambient lit) :
    t.floor = { s.floor.measure s.setup a s.drop.accepted with ch := t.floor.ch } ∧
    t.floor.ch.step = (s.floor.ch.move s.setup a).step ∧
    LadderMoved s.setup a s.floor.ch t.floor.ch ∧ t.femit = false ∧
    BurstEnded s.floor.ch t.floor.ch s.wall.ch t.wall.ch ∧ t.wall = { s.wall with ch := t.wall.ch } ∧
    (s.floor.measureItem s.setup a s.drop.accepted s.odo.tag = none → t.table = s.table) ∧
    (∀ i, s.floor.measureItem s.setup a s.drop.accepted s.odo.tag = some i → ItemEntered i s t) ∧
    UnchangedBut [.floor, .wall, .table, .report, .link, .clear, .startup] s t := by
  subst ha
  let a := lit.toNat - ambient.toNat
  let m := s.setFloor (s.floor.measure s.setup a s.drop.accepted)
  let o := s.floor.measureItem s.setup a s.drop.accepted s.odo.tag
  let u := m.observeOpt o
  have hexec : t = u.afterFloorBurst.notify s false := by
    rw [ht, State.floorBurstEnd, if_pos (by simp [hrun, hburst]), State.floorResult,
      if_neg (by rw [isBlindedBurst_iff]; omega)]
    rfl
  obtain ⟨hended, hfloor, hwall, hladder, hlit⟩ := u.afterFloorBurst_effect rfl
  obtain ⟨htf, htw, htr⟩ := State.notify_values u.afterFloorBurst s false
  have huf : u.floor = s.floor.measure s.setup a s.drop.accepted := by simp [u, m]
  have huw : u.wall = s.wall := by simp [u, m]
  have hch : (s.floor.measure s.setup a s.drop.accepted).ch = s.floor.ch.move s.setup a := by
    rw [FloorChannel.measure_eq]
  rw [← hexec] at htf htw htr
  rw [← htf, huf, hch] at hladder
  rw [← htf, ← htw, huf, huw, hch] at hended
  rw [← htf, huf] at hfloor
  rw [← htw, huw] at hwall
  rw [← htf] at hlit
  have htable : t.table = u.table := by rw [hexec]; simp
  have hreport : t.report = u.report := by rw [hexec]; simp
  have hdiscard : t.link.counts.tableDiscard = u.link.counts.tableDiscard := by
    rw [hexec, (State.notify_sendsOnly _ _ _).1]
    simp
  refine ⟨hfloor, hladder.1, (s.floor.ch.move_ladderMoved s.setup a).congr hladder, ?_, hended.congr rfl rfl rfl, hwall, fun hn => ?_,
    fun i hi => ?_, fun b hb' => ?_⟩
  · rw [State.femit_of_running, hlit]
    rw [htr, State.running, State.afterFloorBurst_startup, ← State.running, State.observeOpt_running]
    exact hrun
  · rw [htable]
    exact congrArg (fun o => (m.observeOpt o).table) hn
  · have hu : u = m.observeOpt (some i) := congrArg m.observeOpt hi
    rw [hu] at htable hreport hdiscard
    exact State.observeOpt_entered (u := m) hrun rfl rfl rfl htable hreport hdiscard
  · cases b <;> simp [Block.same, hexec, u, m] at hb' ⊢

/-- The channel's values after a non-blinded burst, its ladder apart. -/
theorem FloorChannel.measured_values {f g : FloorChannel} {v : SetupValues} {a : Nat} {b : Bool}
    (hg : g = { f.measure v a b with ch := g.ch }) (hstep : g.ch.step = (f.ch.move v a).step) :
    (g.ch.step ≠ f.ch.step → g.window = []) ∧ (g.ch.step = f.ch.step → g.window = f.windowWith a) ∧
    g.accepted = (f.classified (f.burstClass v a) b).accepted ∧
    g.runClass = (f.classified (f.burstClass v a) b).runClass ∧
    g.runCount = (f.classified (f.burstClass v a) b).runCount ∧
    g.repeats = (f.classified (f.burstClass v a) b).repeats := by
  rw [FloorChannel.measure_eq] at hg
  have hwindow : g.window = if (f.ch.move v a).step = f.ch.step then f.windowWith a else [] := by rw [hg]
  rw [hstep, hwindow]
  exact ⟨fun h => if_neg h, fun h => if_pos h, by rw [hg], by rw [hg], by rw [hg], by rw [hg]⟩

theorem FloorChannel.measureItem_of_class {f : FloorChannel} {v : SetupValues} {a : Nat} {c : FloorClass}
    (h : f.burstClass v a = some c) (b : Bool) (tag : Option Seq) :
    f.measureItem v a b tag = (f.observes c b).bind fun c => floorItem v c tag := by
  simp [FloorChannel.measureItem, h]

theorem FloorChannel.measureItem_of_none {f : FloorChannel} {v : SetupValues} {a : Nat} (h : f.burstClass v a = none)
    (b : Bool) (tag : Option Seq) : f.measureItem v a b tag = none := by
  simp [FloorChannel.measureItem, h]

/-- The observation of a class, by the table in R15. -/
def observationOf (v : SetupValues) (tag : Option Seq) (c : FloorClass) : Item :=
  match c with
  | .cliff => Item.own .cliff .floor v.fx v.fy tag
  | .darkRug => .own (.rug .dark) .floor v.fx v.fy tag
  | .lightRug => .own (.rug .light) .floor v.fx v.fy tag
  | .hard | .dark | .unknown => .floorClear v.fx v.fy tag

theorem floorItem_eq {c : FloorClass} (h : c ≠ .unknown) (v : SetupValues) (tag : Option Seq) :
    floorItem v c tag = some (observationOf v tag c) := by
  cases c
  case unknown => exact absurd rfl h
  all_goals rfl

/-- What a burst of a class makes of the run, the accepted class and the repeats, and what it enters (R12, R15, R17). -/
theorem FloorChannel.classified_values {f : FloorChannel} {v : SetupValues} {a : Nat} {c : FloorClass}
    (h : f.burstClass v a = some c) (tag : Option Seq) :
    let g := f.classified (f.burstClass v a) false
    let item := f.measureItem v a false tag
    let n := if f.runClass = some c then f.runCount + 1 else 1
    let threshold := if c = .cliff then 2 else if f.accepted = .cliff then 8 else 6
    (c = f.accepted →
      g.accepted = c ∧ g.runClass = none ∧ g.runCount = 0 ∧
      g.repeats = (if 9 ≤ f.repeats then 0 else f.repeats + 1) ∧
      (9 ≤ f.repeats → item = some (observationOf v tag c)) ∧ (f.repeats < 9 → item = none)) ∧
    (c ≠ f.accepted → n < threshold →
      g.accepted = f.accepted ∧ g.runClass = some c ∧ g.runCount = n ∧
      g.repeats = (if f.accepted = .unknown ∨ 9 ≤ f.repeats then 0 else f.repeats + 1) ∧
      (f.accepted ≠ .unknown → 9 ≤ f.repeats → item = some (observationOf v tag f.accepted)) ∧
      (f.accepted = .unknown ∨ f.repeats < 9 → item = none)) ∧
    (c ≠ f.accepted → threshold ≤ n →
      g.accepted = c ∧ g.runClass = none ∧ g.runCount = 0 ∧ g.repeats = 0 ∧ item = some (observationOf v tag c)) := by
  intro g item n threshold
  have hg : g = f.classify c false := by simp only [g, h]; rfl
  have hitem : item = (f.observes c false).bind fun c => floorItem v c tag := FloorChannel.measureItem_of_class h _ _
  have hknown : c ≠ .unknown := fun hc => f.burstClass_ne_unknown v a (hc ▸ h)
  have hrepeat (hn : f.acceptsClass c = false) :
      (f.accepted ≠ .unknown → 9 ≤ f.repeats → item = some (observationOf v tag f.accepted)) ∧
      (f.accepted = .unknown ∨ f.repeats < 9 → item = none) := by
    rw [hitem, FloorChannel.observes_of_not_accepts hn]
    refine ⟨fun hu h9 => ?_, fun hor => ?_⟩
    · rw [if_pos ⟨hu, h9⟩]
      exact floorItem_eq hu v tag
    · rw [if_neg fun ⟨hu, h9⟩ => hor.elim hu (Nat.not_lt.2 h9)]
      rfl
  refine ⟨fun hc => ?_, fun hc hn => ?_, fun hc hn => ?_⟩
  · have hno := FloorChannel.acceptsClass_same hc
    obtain ⟨hentered, hnone⟩ := hrepeat hno
    rw [hg, FloorChannel.classify_of_not_accepts hno]
    have hu : f.accepted ≠ .unknown := hc ▸ hknown
    refine ⟨hc.symm, ?_, ?_, ?_, fun h9 => hc ▸ hentered hu h9, fun h9 => hnone (.inr h9)⟩
    · simp [FloorChannel.runAfter, hc]
    · simp [FloorChannel.runAfter, hc]
    · simp [hu]
  · have hno : f.acceptsClass c = false := by
      rw [FloorChannel.acceptsClass_other hc]
      exact decide_eq_false (Nat.not_le.2 hn)
    obtain ⟨hentered, hnone⟩ := hrepeat hno
    rw [hg, FloorChannel.classify_of_not_accepts hno, FloorChannel.runAfter_other hc]
    exact ⟨rfl, rfl, rfl, rfl, hentered, hnone⟩
  · have hyes : f.acceptsClass c = true := by
      rw [FloorChannel.acceptsClass_other hc]
      exact decide_eq_true hn
    rw [hg, FloorChannel.classify_of_accepts hyes, hitem, FloorChannel.observes_of_accepts hyes]
    exact ⟨rfl, rfl, rfl, rfl, floorItem_eq hknown v tag⟩

/-- The class of a burst by its band and its step (R9, R11). -/
def classByBand (v : SetupValues) (step : Nat) (window : List Nat) (a : Nat) : Option FloorClass :=
  let textured : Bool := window.length = 8 ∧ 8 * v.texture ≤ textureSum window
  let atTop : Bool := step = v.lm
  let unlit : FloorClass := if textured then .darkRug else .dark
  let lit0 : FloorClass := if textured then .lightRug else .hard
  if a < 8 then (if atTop then some .cliff else none)
  else if a < 200 then (if atTop then some unlit else none)
  else if a ≤ 900 then (if 48 ≤ a * 256 / gain step then some lit0 else some unlit)
  else if step = 0 then some lit0
  else none

theorem FloorChannel.burstClass_eq_classByBand {f : FloorChannel} (hf : f.window.length ≤ 8) (v : SetupValues) (a : Nat) :
    f.burstClass v a = classByBand v f.ch.step
      (if 200 ≤ a ∧ a ≤ 900 then f.window.drop (f.window.length - 7) ++ [a] else f.window) a := by
  rw [FloorChannel.burstClass_eq, FloorChannel.windowWith_eq hf]
  simp [classByBand, isTextured]

/-- Settles O27: the class of the burst by its band, then the run and the repeats, then the ladder. -/
theorem floorBurstIsClassified : Obligations.FloorBurstIsClassified := by
  intro s ambient lit a hrun hburst hb ha hlen
  obtain ⟨t, ht⟩ : ∃ t, t = s.floorBurstEnd ambient lit := ⟨_, rfl⟩
  obtain ⟨hfloor, hstep, hladder, hemit, hended, hwall, hnone, hsome, hkept⟩ :=
    State.floorBurstEnd_measured hrun hburst hb ha ht
  obtain ⟨hmoved, hheld, haccepted, hclass, hcount, hrepeats⟩ := FloorChannel.measured_values hfloor hstep
  have hband := FloorChannel.burstClass_eq_classByBand hlen s.setup a
  rw [FloorChannel.windowWith_eq hlen] at hheld
  refine ⟨t, congrArg Host.Outcome.next ht.symm, hladder, hemit, hended, hwall, hmoved, hheld, fun c hd hc => ?_,
    fun c hd hc => ?_, fun hc => ?_, hkept⟩
  · have hk := hband.trans hc
    have hitem := hnone (by rw [FloorChannel.measureItem_of_class hk, hd]; rfl)
    rw [haccepted, hclass, hcount, hrepeats, hk, hd]
    exact ⟨rfl, rfl, rfl, rfl, hitem⟩
  · have hk := hband.trans hc
    rw [hd] at hnone hsome haccepted hclass hcount hrepeats
    rw [haccepted, hclass, hcount, hrepeats]
    obtain ⟨hsame, hruns, haccepts⟩ := FloorChannel.classified_values hk s.odo.tag
    refine ⟨fun h => ?_, fun h hn => ?_, fun h hn => ?_⟩
    · obtain ⟨h1, h2, h3, h4, h5, h6⟩ := hsame h
      exact ⟨h1, h2, h3, h4, fun h9 => hsome _ (h5 h9), fun h9 => hnone (h6 h9)⟩
    · obtain ⟨h1, h2, h3, h4, h5, h6⟩ := hruns h hn
      exact ⟨h1, h2, h3, h4, fun hu h9 => hsome _ (h5 hu h9), fun h9 => hnone (h6 h9)⟩
    · obtain ⟨h1, h2, h3, h4, h5⟩ := haccepts h hn
      exact ⟨h1, h2, h3, h4, hsome _ h5⟩
  · have hk := hband.trans hc
    have hitem := hnone (FloorChannel.measureItem_of_none hk _ _)
    rw [haccepted, hclass, hcount, hrepeats, hk]
    exact ⟨hitem, rfl, rfl, rfl, rfl⟩

/-! ### The wall -/

/-- A non-blinded wall burst (R1, R3, R19). -/
theorem State.wallBurstEnd_measured {s : State} {ambient lit : BitVec 10} {a : Nat} (hrun : s.running = true)
    (hburst : s.wall.ch.bursting = true) (hb : ambient.toNat ≤ 300) (ha : a = lit.toNat - ambient.toNat)
    {t : State} (ht : t = s.wallBurstEnd ambient lit) {k : WallSample}
    (hk : wallSampleOf s.setup.kw a s.wall.ch.step s.setup.lm = k) :
    t.wall.result = resultAfter s.wall.result k ∧
    LadderMoved s.setup a s.wall.ch t.wall.ch ∧ t.wemit = false ∧
    BurstEnded s.wall.ch t.wall.ch s.floor.ch t.floor.ch ∧ t.floor = { s.floor with ch := t.floor.ch } ∧
    (wallItem s.setup s.odo.tag k = none → t.table = s.table) ∧
    (∀ i, wallItem s.setup s.odo.tag k = some i → ItemEntered i s t) ∧
    UnchangedBut [.floor, .wall, .table, .report, .link, .clear, .startup] s t := by
  subst ha hk
  let a := lit.toNat - ambient.toNat
  let m := s.setWall (s.wall.measure s.setup a)
  let o := wallItem s.setup s.odo.tag (wallSampleOf s.setup.kw a s.wall.ch.step s.setup.lm)
  let u := m.observeOpt o
  have hexec : t = u.afterWallBurst.notify s false := by
    rw [ht, State.wallBurstEnd, if_pos (by simp [hrun, hburst]), State.wallResult,
      if_neg (by rw [isBlindedBurst_iff]; omega)]
    rfl
  obtain ⟨hended, hwall, hfloor, hladder, hlit⟩ := u.afterWallBurst_effect rfl
  obtain ⟨htf, htw, htr⟩ := State.notify_values u.afterWallBurst s false
  have huw : u.wall = s.wall.measure s.setup a := by simp [u, m]
  have huf : u.floor = s.floor := by simp [u, m]
  rw [← hexec] at htf htw htr
  rw [← htw, huw] at hladder
  rw [← htf, ← htw, huf, huw] at hended
  rw [← htw, huw] at hwall
  rw [← htf, huf] at hfloor
  rw [← htw] at hlit
  have htable : t.table = u.table := by rw [hexec]; simp
  have hreport : t.report = u.report := by rw [hexec]; simp
  have hdiscard : t.link.counts.tableDiscard = u.link.counts.tableDiscard := by
    rw [hexec, (State.notify_sendsOnly _ _ _).1]
    simp
  refine ⟨by rw [hwall]; rfl, (s.wall.ch.move_ladderMoved s.setup a).congr hladder, ?_, hended.congr rfl rfl rfl, hfloor,
    fun hn => ?_, fun i hi => ?_, fun b hb' => ?_⟩
  · rw [State.wemit_of_running, hlit]
    rw [htr, State.running, State.afterWallBurst_startup, ← State.running, State.observeOpt_running]
    exact hrun
  · rw [htable]
    exact congrArg (fun o => (m.observeOpt o).table) hn
  · have hu : u = m.observeOpt (some i) := congrArg m.observeOpt hi
    rw [hu] at htable hreport hdiscard
    exact State.observeOpt_entered (u := m) hrun rfl rfl rfl htable hreport hdiscard
  · cases b <;> simp [Block.same, hexec, u, m] at hb' ⊢

section
variable {kw a step lm : Nat}

theorem wallSampleOf_near (h : 200 ≤ a) (h' : a ≤ 900) (hd : wallDistance kw a step ≤ 600) :
    wallSampleOf kw a step lm = .detecting (wallDistance kw a step) := by
  rw [wallSampleOf, bandOf_locked h h']
  exact if_pos hd

theorem wallSampleOf_far (h : 200 ≤ a) (h' : a ≤ 900) (hd : 600 < wallDistance kw a step) :
    wallSampleOf kw a step lm = .clear := by
  rw [wallSampleOf, bandOf_locked h h']
  exact if_neg (Nat.not_le.2 hd)

theorem wallSampleOf_bright (h : 900 < a) (hs : step = 0) : wallSampleOf kw a step lm = .detecting 20 := by
  rw [wallSampleOf, bandOf_high h]
  exact if_pos hs

theorem wallSampleOf_nothing (h : a < 8) (hs : step = lm) : wallSampleOf kw a step lm = .clear := by
  rw [wallSampleOf, bandOf_none h]
  exact if_pos hs

theorem wallSampleOf_unsettled (h : 900 < a ∧ step ≠ 0 ∨ 8 ≤ a ∧ a < 200 ∨ a < 8 ∧ step ≠ lm) :
    wallSampleOf kw a step lm = .unsettled := by
  obtain ⟨h, hs⟩ | ⟨h, h'⟩ | ⟨h, hs⟩ := h
  · rw [wallSampleOf, bandOf_high h]
    exact if_neg hs
  · rw [wallSampleOf, bandOf_weak h h']
  · rw [wallSampleOf, bandOf_none h]
    exact if_neg hs

end

/-- Settles O28: the sample by the band and the step, then the ladder. -/
theorem wallBurstIsJudged : Obligations.WallBurstIsJudged := by
  intro s ambient lit a hrun hburst hb ha
  obtain ⟨t, ht⟩ : ∃ t, t = s.wallBurstEnd ambient lit := ⟨_, rfl⟩
  obtain ⟨-, hladder, hemit, hended, hfloor, -, -, hkept⟩ := State.wallBurstEnd_measured hrun hburst hb ha ht rfl
  refine ⟨t, congrArg Host.Outcome.next ht.symm, hladder, hemit, hended, hfloor, fun h h' hd => ?_, fun h h' hd => ?_,
    fun h hs => ?_, fun h hs => ?_, fun h => ?_, hkept⟩
  · obtain ⟨hresult, -, -, -, -, -, hentered, -⟩ :=
      State.wallBurstEnd_measured hrun hburst hb ha ht (wallSampleOf_near h h' hd)
    exact ⟨hresult, hentered _ rfl⟩
  · obtain ⟨hresult, -, -, -, -, -, hentered, -⟩ :=
      State.wallBurstEnd_measured hrun hburst hb ha ht (wallSampleOf_far h h' hd)
    exact ⟨hresult, hentered _ rfl⟩
  · obtain ⟨hresult, -, -, -, -, -, hentered, -⟩ :=
      State.wallBurstEnd_measured hrun hburst hb ha ht (wallSampleOf_bright h hs)
    exact ⟨hresult, hentered _ rfl⟩
  · obtain ⟨hresult, -, -, -, -, -, hentered, -⟩ :=
      State.wallBurstEnd_measured hrun hburst hb ha ht (wallSampleOf_nothing h hs)
    exact ⟨hresult, hentered _ rfl⟩
  · obtain ⟨hresult, -, -, -, -, hnone, -, -⟩ :=
      State.wallBurstEnd_measured hrun hburst hb ha ht (wallSampleOf_unsettled h)
    exact ⟨hresult, hnone rfl⟩

end Sys2Proof.Machine
end

section
/-! PROOFS. The Clearance Unit: the clear distances, the flags, the own stop condition, the driver and the verdicts (R115 to
R132), and what the switches, the hold and the line make of them (R21, R22, R124, R126). -/

namespace Sys2Proof.Machine

open Sys2Proof

/-! ### The clear distances and the flags -/

/-- The least of some terms and 2047 (R118). -/
theorem leastGap_spec (gaps : List Nat) :
    leastGap gaps ≤ 2047 ∧ (∀ g ∈ gaps, leastGap gaps ≤ g) ∧ (leastGap gaps = 2047 ∨ leastGap gaps ∈ gaps) := by
  have hfold (top : Nat) : gaps.foldl min top ≤ top ∧ (∀ g ∈ gaps, gaps.foldl min top ≤ g) ∧
      (gaps.foldl min top = top ∨ gaps.foldl min top ∈ gaps) := by
    induction gaps generalizing top with
    | nil => simp
    | cons a gaps ih =>
      obtain ⟨hle, hall, hmem⟩ := ih (min top a)
      rw [List.foldl_cons]
      refine ⟨hle.trans (min_le_left _ _), fun g hg => ?_, ?_⟩
      · obtain rfl | hg := List.mem_cons.1 hg
        · exact hle.trans (min_le_right _ _)
        · exact hall g hg
      · obtain h | h := hmem
        · obtain hm | hm := min_choice top a
          · exact .inl (h.trans hm)
          · exact .inr (List.mem_cons.2 (.inl (h.trans hm)))
        · exact .inr (List.mem_cons.2 (.inr h))
  exact hfold clearCeiling

theorem Hazard.isDock_iff (k : Hazard) : k.isDock = true ↔ ∃ z, k = .dock z := by cases k <;> simp [Hazard.isDock]

theorem Hazard.isRug_iff (k : Hazard) : k.isRug = true ↔ ∃ z, k = .rug z := by cases k <;> simp [Hazard.isRug]

theorem inCorridor_iff (v : SetupValues) (r : Record) :
    inCorridor v r = true ↔ (r.y.natAbs : Int) ≤ v.hw + 20 := decide_eq_true_iff

theorem dockNear_iff (rs : List Record) (x y : Int) : dockNear rs x y = true ↔
    ∃ d ∈ rs, (∃ z, d.kind = .dock z) ∧ 8 ≤ d.conf ∧ cheb d.x d.y x y ≤ 150 := by
  simp only [dockNear, List.any_eq_true, Bool.and_eq_true, Hazard.isDock_iff, Record.confirmed_iff,
    decide_eq_true_eq, and_assoc]
  rfl

/-- The records that count (R116, R117). -/
theorem eligible_iff (m : Mode) (rs : List Record) (r : Record) : eligible m rs r = true ↔ CountsIn m rs r := by
  unfold eligible CountsIn
  split
  next h => simp [h]
  next h =>
    have hdock := dockNear_iff rs r.x r.y
    simp only [h, Bool.and_eq_true, Record.confirmed_iff, Bool.not_eq_true', ← Bool.not_eq_true, hdock]
    simp
  next h => simp [h]
  next h => simp [h]

theorem leastGap_leastGap (gap : Record → Option Nat) (v : SetupValues) (m : Mode) (rs : List Record) :
    LeastGap gap v m rs (leastGap ((rs.filter fun r => eligible m rs r && inCorridor v r).filterMap gap)) := by
  obtain ⟨hle, hall, hmem⟩ := leastGap_spec ((rs.filter fun r => eligible m rs r && inCorridor v r).filterMap gap)
  refine ⟨hle, fun r hr hc hy g hg => hall g ?_, hmem.imp_right fun h => ?_⟩
  · have hkept : r ∈ rs.filter fun r => eligible m rs r && inCorridor v r := by
      simp [List.mem_filter, hr, (eligible_iff m rs r).2 hc, (inCorridor_iff v r).2 hy]
    exact List.mem_filterMap.2 ⟨r, hkept, hg⟩
  · obtain ⟨r, hr, hg⟩ := List.mem_filterMap.1 h
    obtain ⟨hr, hk⟩ := List.mem_filter.1 hr
    rw [Bool.and_eq_true] at hk
    exact ⟨r, hr, (eligible_iff m rs r).1 hk.1, (inCorridor_iff v r).1 hk.2, hg⟩

/-- CLIFF_NEAR (R120). -/
theorem cliffNear_iff (v : SetupValues) (rs : List Record) : cliffNear v rs = true ↔ CliffIsNear v rs := by
  have hgap (r : Record) : ((gapAhead v r).any fun g => (g : Int) ≤ cliffNearLimit) = true ∨
      ((gapBehind v r).any fun g => (g : Int) ≤ cliffNearLimit) = true ↔
      (0 < r.x ∧ r.x - v.xf ≤ 100) ∨ (r.x < 0 ∧ -r.x - v.xr ≤ 100) := by
    unfold gapAhead gapBehind cliffNearLimit
    split <;> split <;> simp <;> omega
  simp only [cliffNear, CliffIsNear, List.any_eq_true, Bool.and_eq_true, Bool.or_eq_true, hgap, Hazard.isCliff_iff,
    inCorridor_iff, and_assoc]

/-- RUG_AHEAD (R120). -/
theorem rugAhead_iff (v : SetupValues) (rs : List Record) : rugAhead v rs = true ↔ RugIsAhead v rs := by
  simp only [rugAhead, RugIsAhead, List.any_eq_true, Bool.and_eq_true, Hazard.isRug_iff, inCorridor_iff, and_assoc,
    decide_eq_true_eq]
  rfl

/-! ### The own stop condition -/

/-- A HALO dock at the bumper excuses it in DOCK (R122). -/
theorem State.bumpExcused_iff (s : State) : s.bumpExcused = true ↔
    s.peers.mode = .dock ∧ ∃ d ∈ s.table.records, d.confirmed = true ∧
      (∃ z, d.kind = .dock z ∧ z.halo = true) ∧ cheb d.x d.y s.setup.mx s.setup.my ≤ 150 := by
  have hdock (d : Record) : (match d.kind with
        | .dock z => z.halo && d.confirmed && decide (cheb d.x d.y s.setup.mx s.setup.my ≤ dockRadius)
        | _ => false) = true ↔
      d.confirmed = true ∧ (∃ z, d.kind = .dock z ∧ z.halo = true) ∧ cheb d.x d.y s.setup.mx s.setup.my ≤ 150 := by
    split
    next z hk =>
      simp only [Bool.and_eq_true, decide_eq_true_eq, hk, Hazard.dock.injEq, exists_eq_left']
      exact ⟨fun ⟨⟨hz, hd⟩, hc⟩ => ⟨hd, hz, hc⟩, fun ⟨hd, hz, hc⟩ => ⟨⟨hz, hd⟩, hc⟩⟩
    next hk =>
      simp only [Bool.false_eq_true, false_iff]
      rintro ⟨-, ⟨z, hz, -⟩, -⟩
      exact hk z hz
  simp only [State.bumpExcused, Bool.and_eq_true, List.any_eq_true, decide_eq_true_eq]
  exact and_congr_right' (exists_congr fun d => and_congr_right' (hdock d))

/-- The terms that read the clear distances (R121). -/
theorem State.distanceTerm_iff (s : State) (ahead behind : Nat) : s.distanceTerm ahead behind = true ↔
    (s.odo.state ≠ .lost ∧ 0 < s.odo.lastDs ∧ (ahead : Int) < s.setup.sBase + 12 * s.odo.lastDs.natAbs) ∨
    (s.odo.state ≠ .lost ∧ s.odo.lastDs < 0 ∧ (behind : Int) < s.setup.sBase + 12 * s.odo.lastDs.natAbs) ∨
    (s.odo.state = .lost ∧ ((ahead : Int) < s.setup.sBase + 360 ∨ (behind : Int) < s.setup.sBase + 360)) := by
  unfold State.distanceTerm State.stopDistance speedFactor lostMargin
  split
  next h => simp [h]
  next h =>
    have hlost : s.odo.state ≠ .lost := h
    simp [hlost]

/-- The own stop condition term by term (R121, R122). -/
theorem State.stopCondition_iff {s t : State} (hrun : s.running = true) :
    s.stopCondition t.clear.ahead t.clear.behind = true ↔ StopTerms s t := by
  simp only [State.stopCondition, StopTerms, hrun, Bool.or_eq_true, Bool.and_eq_true, Bool.not_true,
    Bool.false_eq_true, false_or, decide_eq_true_eq, Bool.not_eq_true', ← Bool.not_eq_true, s.bumpExcused_iff,
    s.distanceTerm_iff, or_assoc]

/-! ### The driver -/

/-- The condition and the driver after they follow a judgement (R124). -/
theorem Clearance.drive_values (c : Clearance) (met : Bool) (hheld : c.ownStop = true → c.driver = true) :
    (c.drive met).ownStop = met ∧ (met = true → (c.drive met).driver = true) ∧
    (met = true → c.ownStop = false → (c.drive met).hold = some 30000) ∧
    (met = false ∨ c.ownStop = true → (c.drive met).hold = c.hold) ∧
    (met = false → (c.drive met).driver = (c.driver && c.hold.isSome)) := by
  unfold Clearance.drive
  cases met
  · simp
  · cases h : c.ownStop
    · simp [stopHoldTime, ms]
    · simp [h, hheld h]

/-- What a recompute in RUN makes of the condition and the driver (R121, R124). -/
theorem State.recompute_driven {s : State} (hrun : s.running = true) (hheld : s.clear.ownStop = true → s.clear.driver = true) :
    (s.recompute.clear.ownStop = true ↔ StopTerms s s.recompute) ∧
    (s.recompute.clear.ownStop = true → s.recompute.clear.driver = true) ∧
    (s.recompute.clear.ownStop = true → s.clear.ownStop = false → s.recompute.clear.hold = some 30000) ∧
    (s.recompute.clear.ownStop = false ∨ s.clear.ownStop = true → s.recompute.clear.hold = s.clear.hold) ∧
    (s.recompute.clear.ownStop = false → s.recompute.clear.driver = (s.clear.driver && s.clear.hold.isSome)) := by
  rw [← State.stopCondition_iff hrun, State.recompute_clear_ahead s hrun, State.recompute_clear_behind s hrun,
    State.recompute_clear s hrun]
  generalize s.stopCondition _ _ = met
  obtain ⟨hown, hvalues⟩ := Clearance.drive_values { s.clear with
      ahead := clearAhead s.setup s.peers.mode s.table.records
      behind := clearBehind s.setup s.peers.mode s.table.records
      cliffNear := cliffNear s.setup s.table.records
      rugAhead := rugAhead s.setup s.table.records } met hheld
  simp only [hown]
  exact ⟨trivial, hvalues⟩

end Sys2Proof.Machine
end

section
/-! PROOFS. When a verdict is due and handed on (R129, R130, R132), and the commands of the Clearance Unit and the switches. -/

namespace Sys2Proof.Machine

open Sys2Proof

/-! ### When a verdict is due -/

/-- A row of R130 other than the last holds against the last verdict. -/
def VerdictNews (u : State) (l : VerdictData) : Prop :=
  u.clear.driver ≠ l.flags.stopOwn ∨ movedBy16 u.verdictNow.ahead l.ahead = true ∨
  movedBy16 u.verdictNow.behind l.behind = true ∨ u.flags ≠ l.flags ∨ u.floor.accepted ≠ l.floorClass

theorem State.verdictToSend_of_due {u : State} {l : VerdictData} (hlast : u.clear.last = some l)
    (h : VerdictNews u l ∨ u.clear.timerExpired = true) : u.verdictToSend = some (u.clear.driver != l.flags.stopOwn) := by
  simp only [State.verdictToSend, hlast]
  split
  next hstop => simpa using hstop
  next hstop =>
    have hdue : verdictDue u.verdictNow l u.clear.timerExpired = true := by
      simp only [verdictDue, Bool.or_eq_true, decide_eq_true_eq, or_assoc]
      simp only [VerdictNews, hstop, false_or, or_assoc] at h
      exact h
    rw [if_pos hdue]
    simpa using hstop

theorem State.verdictToSend_of_not_due {u : State} {l : VerdictData} (hlast : u.clear.last = some l)
    (hnews : ¬ VerdictNews u l) (htimer : u.clear.timerExpired = false) : u.verdictToSend = none := by
  simp only [VerdictNews, not_or, not_not] at hnews
  obtain ⟨hstop, hahead, hbehind, hflags, hclass⟩ := hnews
  have hdue : verdictDue u.verdictNow l u.clear.timerExpired = false := by
    have hflags' : u.verdictNow.flags = l.flags := hflags
    have hclass' : u.verdictNow.floorClass = l.floorClass := hclass
    simp [verdictDue, hahead, hbehind, hflags', hclass', htimer]
  simp [State.verdictToSend, hlast, hstop, hdue]

/-- A distance within the scale is moved by its own value (R130). -/
theorem movedBy16_ofNat {n : Nat} (h : n ≤ 2047) (b : BitVec 11) :
    movedBy16 (BitVec.ofNat 11 n) b = true ↔ 16 ≤ max (n - b.toNat) (b.toNat - n) := by
  have hn : (BitVec.ofNat 11 n).toNat = n := by
    rw [BitVec.toNat_ofNat]
    exact Nat.mod_eq_of_lt (by omega)
  rw [movedBy16, hn]
  exact decide_eq_true_iff

/-- What a verdict that is due does (R129, R132). -/
theorem State.judgeVerdict_sent {u : State} {urgent : Bool} (h : u.verdictToSend = some urgent) :
    u.judgeVerdict.clear = { u.clear with last := some u.verdictNow, verdictTimer := some 100000 } ∧
    (u.link.queue.length < 6 → (∀ e ∈ u.link.queue, e.payload.isVerdict = false) →
      Queued (.verdict u.verdictNow) urgent u.judgeVerdict) := by
  obtain ⟨hclear, hsent⟩ := u.judgeVerdict_some urgent h
  refine ⟨hclear, fun hroom hnone => ?_⟩
  have hlike : queuedLike (u.setClear { u.clear with
      last := some u.verdictNow, verdictTimer := some verdictTime }).link.queue (.verdict u.verdictNow) = none :=
    (queuedLike_eq_none_iff _ _).2 fun e he => by simp [Payload.coalesces, Payload.isOdometry, hnone e he]
  rw [hsent, State.enqueue_of_room _ _ _ hlike hroom]
  exact ⟨newEntry _ urgent u.link.nextOrder, mem_placeNew_self _ _, rfl, rfl, rfl, rfl, rfl⟩

/-- A judged verdict changes the Clearance Unit, the queue and the boot frame pending at most. -/
theorem State.judgeVerdict_unchanged (s : State) : UnchangedBut [.clear, .link, .startup] s s.judgeVerdict := by
  intro b hb
  cases b <;> simp [Block.same] at hb ⊢

/-- What a judged verdict leaves as it is of the Clearance Unit. -/
theorem State.judgeVerdict_clear_keeps (u : State) :
    u.judgeVerdict.clear.hold = u.clear.hold ∧ u.judgeVerdict.clear.ownStop = u.clear.ownStop ∧
    u.judgeVerdict.clear.ahead = u.clear.ahead ∧ u.judgeVerdict.clear.behind = u.clear.behind ∧
    u.judgeVerdict.clear.line = u.clear.line ∧ u.judgeVerdict.clear.driver = u.clear.driver := by
  rw [u.judgeVerdict_clear]
  exact ⟨rfl, rfl, rfl, rfl, rfl, rfl⟩

theorem State.recompute_unchanged (s : State) : UnchangedBut [.clear, .link, .startup] s s.recompute := by
  intro b hb
  cases b <;> simp [Block.same] at hb ⊢

/-! ### VERDICT_TIMER_EXPIRY -/

theorem Clearance.timerExpired_iff {c : Clearance} (h : c.verdictTimer.isSome) :
    c.timerExpired = true ↔ c.verdictTimer = some 0 := by
  obtain ⟨n, hn⟩ := Option.isSome_iff_exists.1 h
  simp [Clearance.timerExpired, hn]

@[simp] theorem Clearance.drive_last (c : Clearance) (met : Bool) : (c.drive met).last = c.last := by
  unfold Clearance.drive; (repeat' split) <;> rfl

@[simp] theorem Clearance.drive_verdictTimer (c : Clearance) (met : Bool) :
    (c.drive met).verdictTimer = c.verdictTimer := by
  unfold Clearance.drive; (repeat' split) <;> rfl

@[simp] theorem Clearance.drive_ownStop (c : Clearance) (met : Bool) : (c.drive met).ownStop = met := by
  unfold Clearance.drive
  cases met
  · rfl
  · rw [if_pos rfl]
    split
    next h => exact h
    next => rfl

@[simp] theorem Clearance.drive_line (c : Clearance) (met : Bool) : (c.drive met).line = c.line := by
  unfold Clearance.drive; (repeat' split) <;> rfl

@[simp] theorem Clearance.drive_cliffNear (c : Clearance) (met : Bool) : (c.drive met).cliffNear = c.cliffNear := by
  unfold Clearance.drive; (repeat' split) <;> rfl

@[simp] theorem Clearance.drive_rugAhead (c : Clearance) (met : Bool) : (c.drive met).rugAhead = c.rugAhead := by
  unfold Clearance.drive; (repeat' split) <;> rfl

theorem State.recompute_clear_line {s : State} (hrun : s.running = true) : s.recompute.clear.line = s.clear.line :=
  (congrArg Clearance.line (s.recompute_clear hrun)).trans (Clearance.drive_line _ _)

/-- The flags the recompute takes from the table (R120). -/
theorem State.recompute_tableFlags {s : State} (hrun : s.running = true) :
    (s.recompute.flags.cliffNear = true ↔ CliffIsNear s.setup s.table.records) ∧
    (s.recompute.flags.rugAhead = true ↔ RugIsAhead s.setup s.table.records) := by
  have hcliff : s.recompute.flags.cliffNear = cliffNear s.setup s.table.records :=
    (congrArg Clearance.cliffNear (s.recompute_clear hrun)).trans (Clearance.drive_cliffNear _ _)
  have hrug : s.recompute.flags.rugAhead = rugAhead s.setup s.table.records :=
    (congrArg Clearance.rugAhead (s.recompute_clear hrun)).trans (Clearance.drive_rugAhead _ _)
  rw [hcliff, hrug, cliffNear_iff, rugAhead_iff]
  exact ⟨Iff.rfl, Iff.rfl⟩

/-- What a recompute judges the verdict on. -/
theorem State.reclear_values {s : State} (hrun : s.running = true) :
    s.recompute = s.reclear.judgeVerdict ∧ s.reclear.clear.last = s.clear.last ∧
    s.reclear.clear.verdictTimer = s.clear.verdictTimer ∧ s.reclear.link = s.link ∧
    s.recompute.verdictNow = s.reclear.verdictNow ∧ s.recompute.clear.driver = s.reclear.clear.driver ∧
    ∀ l, VerdictNews s.recompute l ↔ VerdictNews s.reclear l := by
  have hrec : s.recompute = s.reclear.judgeVerdict := if_pos hrun
  have hnow : s.recompute.verdictNow = s.reclear.verdictNow := by rw [hrec]; simp
  have hdriver : s.recompute.clear.driver = s.reclear.clear.driver := by rw [hrec, State.judgeVerdict_clear]
  have hflags : s.recompute.flags = s.reclear.flags := congrArg VerdictData.flags hnow
  refine ⟨hrec, by simp [State.reclear], by simp [State.reclear], by simp [State.reclear], hnow, hdriver, fun l => ?_⟩
  simp [VerdictNews, hnow, hdriver, hflags, State.reclear]

/-- A recompute in RUN that finds a verdict due hands it on (R130, R132). -/
theorem State.recompute_sent {s : State} {l : VerdictData} (hrun : s.running = true) (hlast : s.clear.last = some l)
    (hdue : VerdictNews s.recompute l ∨ s.clear.timerExpired = true) :
    s.recompute.clear.last = some s.recompute.verdictNow ∧ s.recompute.clear.verdictTimer = some 100000 ∧
    (s.link.queue.length < 6 → (∀ e ∈ s.link.queue, e.payload.isVerdict = false) →
      Queued (.verdict s.recompute.verdictNow) (s.recompute.clear.driver != l.flags.stopOwn) s.recompute) := by
  obtain ⟨hrec, hlast', htimer, hlink, hnow, hdriver, hnews⟩ := State.reclear_values hrun
  have hdue' : VerdictNews s.reclear l ∨ s.reclear.clear.timerExpired = true := by
    rwa [← hnews, Clearance.timerExpired, htimer]
  obtain ⟨hclear, hqueued⟩ := State.judgeVerdict_sent (State.verdictToSend_of_due (hlast'.trans hlast) hdue')
  rw [hlink] at hqueued
  rw [hnow, hdriver, hrec]
  exact ⟨by rw [hclear], by rw [hclear], hqueued⟩

/-- A recompute in RUN that finds none due keeps the last one and its timer (R130). -/
theorem State.recompute_silent {s : State} {l : VerdictData} (hrun : s.running = true) (hlast : s.clear.last = some l)
    (hno : ¬ VerdictNews s.recompute l) (htimer : s.clear.timerExpired = false) :
    s.recompute.clear.last = s.clear.last ∧ s.recompute.clear.verdictTimer = s.clear.verdictTimer ∧
    s.recompute.link = s.link := by
  obtain ⟨hrec, hlast', htimer', hlink, -, -, hnews⟩ := State.reclear_values hrun
  have hrunning : s.reclear.clear.timerExpired = false := by rwa [Clearance.timerExpired, htimer']
  rw [hnews] at hno
  rw [hrec, State.judgeVerdict_none _ (State.verdictToSend_of_not_due (hlast'.trans hlast) hno hrunning)]
  exact ⟨hlast', htimer', hlink⟩

/-- Settles O57: the expiry is one recompute, whose distances, flags, condition, driver and verdict are those of the
rules. -/
theorem verdictTimerRecomputes : Obligations.VerdictTimerRecomputes := by
  intro s l hrun htimer hlast hheld
  have hend : s.verdictTimerExpiry = s.recompute := by simp [State.verdictTimerExpiry, hrun, htimer]
  refine ⟨_, congrArg Host.Outcome.next hend, ?_⟩
  obtain ⟨hcliff, hrug⟩ := State.recompute_tableFlags hrun
  obtain ⟨hterms, hmet, hstart, hkept, hreleased⟩ := State.recompute_driven hrun hheld.2
  have hsent := State.recompute_sent hrun hlast
  have hsilent := State.recompute_silent hrun hlast
  rw [Clearance.timerExpired_iff htimer] at hsent
  rw [← Bool.not_eq_true, Clearance.timerExpired_iff htimer] at hsilent
  have hahead : LeastGap (gapAhead s.setup) s.setup s.peers.mode s.table.records s.recompute.clear.ahead := by
    rw [s.recompute_clear_ahead hrun]
    exact leastGap_leastGap _ _ _ _
  have hbehind : LeastGap (gapBehind s.setup) s.setup s.peers.mode s.table.records s.recompute.clear.behind := by
    rw [s.recompute_clear_behind hrun]
    exact leastGap_leastGap _ _ _ _
  have hother := s.recompute_unchanged
  have hfloor : s.recompute.floor = s.floor := hother .floor (by simp)
  have hwall : s.recompute.wall = s.wall := hother .wall (by simp)
  have hnow : s.recompute.verdictNow = {
      ahead := BitVec.ofNat 11 s.recompute.clear.ahead, behind := BitVec.ofNat 11 s.recompute.clear.behind
      flags := s.recompute.flags, floorClass := s.floor.accepted, wall := s.wall.result } := by
    rw [← hfloor, ← hwall, State.verdictNow]
  have hnews : VerdictNews s.recompute l ↔ s.recompute.clear.driver ≠ l.flags.stopOwn ∨
      16 ≤ max (s.recompute.clear.ahead - l.ahead.toNat) (l.ahead.toNat - s.recompute.clear.ahead) ∨
      16 ≤ max (s.recompute.clear.behind - l.behind.toNat) (l.behind.toNat - s.recompute.clear.behind) ∨
      s.recompute.flags ≠ l.flags ∨ s.floor.accepted ≠ l.floorClass := by
    rw [VerdictNews, hnow, movedBy16_ofNat hahead.1, movedBy16_ofNat hbehind.1, hfloor]
  rw [hnow] at hsent
  rw [hnews] at hsent hsilent
  exact ⟨hahead, hbehind, hcliff, hrug, hterms, hmet, hstart, hkept, hreleased, rfl, fun h => hsent (.inr h),
    fun h => ⟨fun hn => hsent (.inl hn), fun hn => hsilent hn h⟩, hother⟩

/-! ### STOP_HOLD_EXPIRY and STOP_LINE_CHANGE -/

/-- A verdict that is due with STOP_OWN changed waits as urgent at a queue with room (R130, R171). -/
theorem State.judgeVerdict_urgent {u : State} (h : u.verdictToSend = some true) (hroom : u.link.queue.length < 6) :
    Queued (.verdict u.verdictNow) true u.judgeVerdict := by
  rw [(u.judgeVerdict_some true h).2]
  exact State.enqueue_urgent_queued _ _ (fun _ => rfl) (.inr (.inl hroom))

/-- The driver released at the end of its hold, which the verdict shows (R124, R130). -/
theorem State.released_verdict {u : State} {l : VerdictData} (hlast : u.clear.last = some l)
    (hdriver : u.clear.driver = false) (hown : l.flags.stopOwn = true) :
    (u.judgeVerdict.clear.last.map fun v => v.flags.stopOwn) = some false ∧
    u.judgeVerdict.clear.verdictTimer = some 100000 ∧
    (u.link.queue.length < 6 → ∃ e ∈ u.judgeVerdict.link.queue, e.urgent = true ∧
      ∃ v, e.payload = .verdict v ∧ v.flags.stopOwn = false) := by
  have hdue : u.verdictToSend = some true := by
    rw [State.verdictToSend_of_due hlast (.inl (.inl (by simp [hdriver, hown]))), hdriver, hown]
    rfl
  refine ⟨?_, by rw [(State.judgeVerdict_sent hdue).1], fun hroom => ?_⟩
  · rw [(State.judgeVerdict_sent hdue).1]
    exact congrArg some hdriver
  · obtain ⟨e, he, hp, hurgent, -⟩ := State.judgeVerdict_urgent hdue hroom
    exact ⟨e, he, hurgent, _, hp, hdriver⟩

theorem State.setClear_unchanged (s : State) (c : Clearance) : UnchangedBut [.clear] s (s.setClear c) := by
  intro b hb
  cases b <;> simp [Block.same] at hb ⊢

theorem State.setPins_unchanged (s : State) (p : Pins) : UnchangedBut [.pins] s (s.setPins p) := by
  intro b hb
  cases b <;> simp [Block.same] at hb ⊢

/-- The condition after a recompute in RUN is judged by its terms (R121, R127). -/
theorem State.recompute_ownStop {s : State} (hrun : s.running = true) :
    s.recompute.clear.ownStop = true ↔ StopTerms s s.recompute := by
  rw [← State.stopCondition_iff hrun, State.recompute_clear_ahead s hrun, State.recompute_clear_behind s hrun,
    State.recompute_clear s hrun]
  exact Iff.of_eq (congrArg (· = true) (Clearance.drive_ownStop _ _))

/-- The end of the hold (R124, R130). -/
theorem State.stopHoldExpiry_completes {s : State} (hrun : s.running = true) (hhold : s.clear.hold.isSome) :
    Completes .stopHoldExpiry s fun t =>
      t.clear.hold = none ∧ t.clear.ownStop = s.clear.ownStop ∧ t.clear.ahead = s.clear.ahead ∧
      t.clear.behind = s.clear.behind ∧ t.clear.line = s.clear.line ∧
      (s.clear.ownStop = false → t.clear.driver = false) ∧
      (s.clear.ownStop = true → t.clear.driver = s.clear.driver ∧ t.link = s.link ∧ t.clear.last = s.clear.last) ∧
      (∀ l, s.clear.ownStop = false → s.clear.driver = true → s.clear.last = some l → l.flags.stopOwn = true →
        (t.clear.last.map fun v => v.flags.stopOwn) = some false ∧ t.clear.verdictTimer = some 100000 ∧
        (s.link.queue.length < 6 → ∃ e ∈ t.link.queue, e.urgent = true ∧
          ∃ v, e.payload = .verdict v ∧ v.flags.stopOwn = false)) ∧
      UnchangedBut [.clear, .link, .startup] s t := by
  cases hown : s.clear.ownStop
  case false =>
    cases hdriver : s.clear.driver
    case true =>
      have hend : s.stopHoldExpiry = (s.setClear { s.clear with hold := none, driver := false }).judgeVerdict := by
        simp [State.stopHoldExpiry, hrun, hhold, hown, hdriver]
      refine ⟨_, congrArg Host.Outcome.next hend, ?_⟩
      obtain ⟨hhold', hown', hahead, hbehind, hline, hdriver'⟩ :=
        State.judgeVerdict_clear_keeps (s.setClear { s.clear with hold := none, driver := false })
      have hunchanged := ((s.setClear_unchanged { s.clear with hold := none, driver := false }).mono (by decide)).trans
        (State.judgeVerdict_unchanged _)
      refine ⟨hhold', hown'.trans hown, hahead, hbehind, hline, fun _ => hdriver', fun h => (nomatch h), fun l _ _ hlast hl => ?_,
        hunchanged⟩
      exact State.released_verdict hlast rfl hl
    case false =>
      have hend : s.stopHoldExpiry = s.setClear { s.clear with hold := none } := by
        simp [State.stopHoldExpiry, hrun, hhold, hdriver]
      refine ⟨_, congrArg Host.Outcome.next hend, rfl, hown, rfl, rfl, rfl, fun _ => hdriver,
        fun h => (nomatch h), fun _ _ h => (nomatch h), ?_⟩
      exact (s.setClear_unchanged _).mono (by decide)
  case true =>
    have hend : s.stopHoldExpiry = s.setClear { s.clear with hold := none } := by
      simp [State.stopHoldExpiry, hrun, hhold, hown]
    refine ⟨_, congrArg Host.Outcome.next hend, rfl, hown, rfl, rfl, rfl, fun h => (nomatch h),
      fun _ => ⟨rfl, rfl, rfl⟩, fun _ h => (nomatch h), ?_⟩
    exact (s.setClear_unchanged _).mono (by decide)

/-- Settles O58: the driver is released at the end of the hold with the condition not met, and a change of the line is
one recompute that judges the condition by its terms. -/
theorem stopLineAndHoldAreFollowed : Obligations.StopLineAndHoldAreFollowed := by
  refine ⟨fun s hrun hhold => State.stopHoldExpiry_completes hrun hhold, fun s level => ?_⟩
  let p : Pins := { s.pins with stopLine := pullFor level s.clear.driver }
  by_cases hchange : s.running = true ∧ level ≠ s.clear.line.accepted
  · obtain ⟨hrun, hlevel⟩ := hchange
    let u := (s.setPins p).setClear { s.clear with line := { s.clear.line with accepted := level, last := some level } }
    have hend : s.stopLineChange level = u.recompute := by
      simp [State.stopLineChange, hrun, hlevel, State.notify_always, u, p]
    have hu : u.running = true := hrun
    have hunchanged : UnchangedBut [.pins, .clear, .link, .startup] s u.recompute :=
      (((s.setPins_unchanged p).mono (by decide)).trans
        ((State.setClear_unchanged (s.setPins p) _).mono (by decide))).trans (u.recompute_unchanged.mono (by decide))
    have hline : u.recompute.clear.line.accepted = level :=
      congrArg Filter.accepted (State.recompute_clear_line hu)
    have hpins : u.recompute.pins = p := by simp [u]
    refine ⟨_, congrArg Host.Outcome.next hend, by rw [hpins], ?_, fun _ _ => ⟨hline, hline,
      State.recompute_ownStop hu, fun l hlast hl => ?_, hunchanged⟩⟩
    · rintro (h | h)
      · simp [h] at hrun
      · exact absurd h hlevel
    · have hnews : VerdictNews u.recompute l :=
        .inr (.inr (.inr (.inl fun h => hl (by rw [← h]; exact hline))))
      obtain ⟨hsent, htimer, -⟩ := State.recompute_sent hu hlast (.inl hnews)
      exact ⟨by rw [hsent]; exact congrArg some hline, htimer⟩
  · have hend : s.stopLineChange level = s.setPins p := by
      simp only [State.stopLineChange]
      exact if_neg (by simp only [Bool.and_eq_true, decide_eq_true_eq]; exact hchange)
    refine ⟨_, congrArg Host.Outcome.next hend, rfl, fun _ => s.setPins_unchanged p,
      fun hrun hlevel => absurd ⟨hrun, hlevel⟩ hchange⟩

/-! ### BUMP_CHANGE and DROP_CHANGE -/

/-- A recompute leaves what the terms read as it is, the clear distances apart (R121). -/
theorem stopTerms_recompute (s t : State) : StopTerms s.recompute t ↔ StopTerms s t := by simp [StopTerms]

/-- A switch change in RUN ends in one recompute of the state `u` it makes, which judges the condition by its terms
(R121, R127). -/
theorem State.recompute_judged {u : State} (hrun : u.running = true) (hheld : u.clear.ownStop = true → u.clear.driver = true) :
    (u.recompute.clear.ownStop = true ↔ StopTerms u.recompute u.recompute) ∧
    (u.recompute.clear.ownStop = true → u.recompute.clear.driver = true) := by
  obtain ⟨hterms, hdriver, -⟩ := State.recompute_driven hrun hheld
  exact ⟨hterms.trans (stopTerms_recompute u _).symm, hdriver⟩

/-- BUMP_CHANGE that is accepted (R21, R22, R122). -/
theorem State.bumpChange_accepted {s : State} {active : Bool} (hrun : s.running = true) (hheld : s.StopHeld)
    (hfit : s.setup.bumpFitted = true) (hnew : active ≠ s.bump.accepted) :
    Completes (.bumpChange active) s fun t =>
      t.bump.accepted = active ∧ t.pins = { s.pins with bump := active } ∧
      (active = true → ItemEntered (.own .obstacle .bump s.setup.mx s.setup.my s.odo.tag) s t) ∧
      (active = false → t.table = s.table) ∧ t.flags.bump = active ∧
      (t.clear.ownStop = true ↔ StopTerms t t) ∧ (t.clear.ownStop = true → t.clear.driver = true) ∧
      UnchangedBut [.pins, .bump, .table, .report, .link, .clear, .startup] s t := by
  let i : Item := .own .obstacle .bump s.setup.mx s.setup.my s.odo.tag
  let p := s.setPins { s.pins with bump := active }
  let v := p.setBump { s.bump with accepted := active, last := some active }
  have hv : UnchangedBut [.pins, .bump] s v := by
    intro b hb
    cases b <;> simp [Block.same] at hb ⊢ <;> rfl
  have hend : s.bumpChange active = (if active = true then v.observe i else v).recompute := by
    have hnew' : active ≠ p.bump.accepted := hnew
    have hrun' : p.running = true := hrun
    have hfit' : p.setup.bumpFitted = true := hfit
    simp only [State.bumpChange]
    rw [if_pos (by simp only [Bool.and_eq_true, decide_eq_true_eq]; exact ⟨⟨hrun', hfit'⟩, hnew'⟩), State.notify_always]
    rfl
  cases active
  case false =>
    refine ⟨_, congrArg Host.Outcome.next (hend.trans (congrArg State.recompute (if_neg nofun))), ?_⟩
    obtain ⟨hterms, hdriver⟩ := State.recompute_judged (u := v) hrun hheld.2
    refine ⟨by simp [v], by simp [v, p], fun h => (nomatch h), fun _ => by simp [v, p], by simp [State.flags, v],
      hterms, hdriver, (hv.mono (by decide)).trans (v.recompute_unchanged.mono (by decide))⟩
  case true =>
    refine ⟨_, congrArg Host.Outcome.next (hend.trans (congrArg State.recompute (if_pos rfl))), ?_⟩
    obtain ⟨hterms, hdriver⟩ := State.recompute_judged (u := v.observe i) ((v.observe_running i).trans hrun)
      (by rw [v.observe_clear i]; exact hheld.2)
    refine ⟨by simp [v], by simp [v, p], fun _ => ?_, fun h => (nomatch h), by simp [State.flags, v], hterms, hdriver,
      ((hv.mono (by decide)).trans ((v.observe_unchanged rfl).mono (by decide))).trans
        ((v.observe i).recompute_unchanged.mono (by decide))⟩
    exact (v.observe_entered i hrun).congr rfl rfl (by simp) (by simp) (by simp)

/-- DROP_CHANGE that is accepted (R17, R21, R22). -/
theorem State.dropChange_accepted {s : State} {active : Bool} (hrun : s.running = true) (hheld : s.StopHeld)
    (hfit : s.setup.dropFitted = true) (hnew : active ≠ s.drop.accepted) :
    Completes (.dropChange active) s fun t =>
      t.drop.accepted = active ∧ t.pins = { s.pins with drop := active } ∧
      t.floor = { s.floor with runClass := none, runCount := 0, repeats := 0 } ∧
      (active = true → t.clear.driver = true ∧ t.clear.ownStop = true) ∧ t.flags.drop = active ∧
      (t.clear.ownStop = true ↔ StopTerms t t) ∧
      UnchangedBut [.pins, .drop, .floor, .link, .clear, .startup] s t := by
  let p := s.setPins { s.pins with drop := active }
  let v := (p.setDrop { s.drop with accepted := active, last := some active }).setFloor
    { s.floor with runClass := none, runCount := 0, repeats := 0 }
  have hv : UnchangedBut [.pins, .drop, .floor] s v := by
    intro b hb
    cases b <;> simp [Block.same] at hb ⊢ <;> rfl
  have hend : s.dropChange active = v.recompute := by
    have hnew' : active ≠ p.drop.accepted := hnew
    have hrun' : p.running = true := hrun
    have hfit' : p.setup.dropFitted = true := hfit
    simp only [State.dropChange]
    rw [if_pos (by simp only [Bool.and_eq_true, decide_eq_true_eq]; exact ⟨⟨hrun', hfit'⟩, hnew'⟩), State.notify_always]
    rfl
  obtain ⟨hterms, hdriver⟩ := State.recompute_judged (u := v) hrun hheld.2
  have hdrop : v.recompute.drop.accepted = active := by simp [v]
  refine ⟨_, congrArg Host.Outcome.next hend, hdrop, by simp [v, p], by simp [v], fun hactive => ?_, hdrop, hterms,
    (hv.mono (by decide)).trans (v.recompute_unchanged.mono (by decide))⟩
  have hown := hterms.2 (.inr (.inl (hdrop.trans hactive)))
  exact ⟨hdriver hown, hown⟩

/-- Settles O29: an accepted change is one recompute, and any other changes the pin alone. -/
theorem switchChangesAreAccepted : Obligations.SwitchChangesAreAccepted := by
  refine fun s active => ⟨State.bumpChange_accepted, State.dropChange_accepted, fun h => ?_, fun h => ?_⟩
  · have hend : s.bumpChange active = s.setPins { s.pins with bump := active } := by
      refine if_neg ?_
      simp only [Bool.and_eq_true, decide_eq_true_eq]
      rintro ⟨⟨hrun, hfit⟩, hnew⟩
      obtain h | h | h := h
      · exact absurd hrun (by simp [h])
      · exact absurd hfit (by simp [h])
      · exact hnew h
    exact ⟨_, congrArg Host.Outcome.next hend, rfl, s.setPins_unchanged _⟩
  · have hend : s.dropChange active = s.setPins { s.pins with drop := active } := by
      refine if_neg ?_
      simp only [Bool.and_eq_true, decide_eq_true_eq]
      rintro ⟨⟨hrun, hfit⟩, hnew⟩
      obtain h | h | h := h
      · exact absurd hrun (by simp [h])
      · exact absurd hfit (by simp [h])
      · exact hnew h
    exact ⟨_, congrArg Host.Outcome.next hend, rfl, s.setPins_unchanged _⟩

end Sys2Proof.Machine
end

section
/-! PROOFS. The Beacon Decoder: the transitions of an accepted edge, the codes and the sighting window (chapter 7). -/

namespace Sys2Proof.Machine

open Sys2Proof

/-! ### Codes -/

/-- The bits of a code, the first received first (R140, R144). -/
def Code.bits : Code → List Bool
  | .left => [false, true, false, true, false, false, false, true]
  | .right => [false, true, false, true, false, false, true, false]
  | .halo => [false, true, false, true, false, true, false, false]

theorem byteValue_append (bits : List Bool) (b : Bool) : byteValue (bits ++ [b]) = 2 * byteValue bits + b.toNat := by
  simp [byteValue]

/-- Bit strings of one length are told apart by their values. -/
theorem byteValue_injective {a b : List Bool} (hlen : a.length = b.length) (h : byteValue a = byteValue b) : a = b := by
  induction a using List.reverseRecOn generalizing b with
  | nil => exact (List.length_eq_zero_iff.1 hlen.symm).symm
  | append_singleton a x ih =>
    obtain rfl | ⟨b, y, rfl⟩ := b.eq_nil_or_concat'
    · simp at hlen
    · rw [byteValue_append, byteValue_append] at h
      have hx := Bool.toNat_lt x
      have hy := Bool.toNat_lt y
      have hxy : x = y := by
        have : x.toNat = y.toNat := by omega
        cases x <;> cases y <;> simp_all
      rw [ih (by simpa using hlen) (by omega), hxy]

/-- A byte is a code exactly when its bits are the code's (R144). -/
theorem codeOf_byteValue {byte : List Bool} (hlen : byte.length = 8) (c : Code) :
    codeOf (byteValue byte) = some c ↔ byte = c.bits := by
  have hvalue : codeOf (byteValue byte) = some c ↔ byteValue byte = byteValue c.bits := by
    have hleft : byteValue Code.left.bits = 0x51 := by decide
    have hright : byteValue Code.right.bits = 0x52 := by decide
    have hhalo : byteValue Code.halo.bits = 0x54 := by decide
    unfold codeOf
    cases c
    · rw [hleft]
      (repeat' split) <;> simp_all
    · rw [hright]
      (repeat' split) <;> simp_all
    · rw [hhalo]
      (repeat' split) <;> simp_all
  rw [hvalue]
  exact ⟨byteValue_injective (hlen.trans (by cases c <;> rfl)), congrArg byteValue⟩

theorem Code.bits_injective {c d : Code} : c.bits = d.bits ↔ c = d := by cases c <;> cases d <;> decide

/-- The sighting window and its code set after a code (R145). -/
theorem Beacon.accept_values (b : Beacon) (c : Code) :
    (b.accept c).decode = b.decode ∧ (b.accept c).window = (if b.window = none then some 120000 else b.window) ∧
    ((b.accept c).set.left = true ↔ c = .left ∨ (b.window ≠ none ∧ b.set.left = true)) ∧
    ((b.accept c).set.right = true ↔ c = .right ∨ (b.window ≠ none ∧ b.set.right = true)) ∧
    ((b.accept c).set.halo = true ↔ c = .halo ∨ (b.window ≠ none ∧ b.set.halo = true)) := by
  unfold Beacon.accept
  cases hw : b.window <;> cases c <;> simp [Zone.add, Zone.empty, sightingTime, ms]

/-! ### The transitions of an edge -/

/-- The decoder passes to a state without an abort or a code. -/
def BeaconGoes (s t : State) (d : Decode) (code : List Bool) : Prop :=
  t.beacon.decode = d ∧ t.beacon.code = code ∧ t.link = s.link ∧ t.beacon.window = s.beacon.window ∧
  t.beacon.set = s.beacon.set

/-- The decoder aborts with a count; an edge into MARK is handed to IDLE (R143). -/
def BeaconAborts (mark : Bool) (s t : State) : Prop :=
  t.beacon.decode = (if mark then .startMark else .idle) ∧ t.beacon.code = [] ∧
  t.link = { s.link with counts := { s.link.counts with beaconAbort := satInc s.link.counts.beaconAbort } } ∧
  t.beacon.window = s.beacon.window ∧ t.beacon.set = s.beacon.set

theorem State.acceptBeacon_go {s : State} {mark : Bool} {waited : Nat} {d : Decode} {code : List Bool}
    (h : decodeEdge s.beacon.decode s.beacon.code mark (s.beacon.widthAt waited) = .go d code) :
    BeaconGoes s (s.acceptBeacon mark waited) d code := by
  simp only [State.acceptBeacon, h]
  exact ⟨rfl, rfl, rfl, rfl, rfl⟩

theorem State.acceptBeacon_abort {s : State} {mark : Bool} {waited : Nat}
    (h : decodeEdge s.beacon.decode s.beacon.code mark (s.beacon.widthAt waited) = .abort) :
    BeaconAborts mark s (s.acceptBeacon mark waited) := by
  simp only [State.acceptBeacon, h]
  exact ⟨rfl, rfl, rfl, rfl, rfl⟩

/-- A complete byte ends in IDLE, and is a code or counts as an abort (R144, R145). -/
theorem State.acceptBeacon_byte {s : State} {mark : Bool} {waited : Nat} {byte : List Bool}
    (h : decodeEdge s.beacon.decode s.beacon.code mark (s.beacon.widthAt waited) = .byte byte) :
    (s.acceptBeacon mark waited).beacon.decode = .idle ∧
    (∀ c, codeOf (byteValue byte) = some c → (s.acceptBeacon mark waited).link = s.link ∧
      ∃ b : Beacon, (s.acceptBeacon mark waited).beacon = b.accept c ∧ b.window = s.beacon.window ∧
        b.set = s.beacon.set) ∧
    (codeOf (byteValue byte) = none →
      (s.acceptBeacon mark waited).link.counts.beaconAbort = satInc s.link.counts.beaconAbort ∧
      (s.acceptBeacon mark waited).beacon.window = s.beacon.window ∧
      (s.acceptBeacon mark waited).beacon.set = s.beacon.set) := by
  simp only [State.acceptBeacon, h, State.beaconByte]
  cases hc : codeOf (byteValue byte) with
  | none => exact ⟨rfl, nofun, fun _ => ⟨rfl, rfl, rfl⟩⟩
  | some c =>
    dsimp only
    refine ⟨?_, fun c' h' => ?_, nofun⟩
    · exact (Beacon.accept_values _ c).1
    · obtain rfl := Option.some.inj h'
      exact ⟨rfl, _, rfl, rfl, rfl⟩

/-- An accepted edge takes the level and starts the width count anew (R137, R138). -/
theorem State.acceptBeacon_level (s : State) (mark : Bool) (waited : Nat) :
    (s.acceptBeacon mark waited).beacon.mark = mark ∧ (s.acceptBeacon mark waited).beacon.width = 0 := by
  have haccept (b : Beacon) (c : Code) : (b.accept c).mark = b.mark ∧ (b.accept c).width = b.width := by
    unfold Beacon.accept
    split <;> exact ⟨rfl, rfl⟩
  unfold State.acceptBeacon
  dsimp only
  split
  next => exact ⟨rfl, rfl⟩
  next => exact ⟨rfl, rfl⟩
  next =>
    unfold State.beaconByte
    dsimp only
    split
    next c _ => exact haccept _ c
    next => exact ⟨rfl, rfl⟩

theorem State.acceptBeacon_unchanged (s : State) (mark : Bool) (waited : Nat) :
    UnchangedBut [.beacon, .link] s (s.acceptBeacon mark waited) := by
  intro b hb
  cases b <;> simp [Block.same] at hb ⊢

/-! ### Widths -/

theorem inStartWindow_iff (w : Nat) : inStartWindow w = true ↔ 48 ≤ w ∧ w ≤ 72 := by simp [inStartWindow]

theorem inSpaceWindow_iff (w : Nat) : inSpaceWindow w = true ↔ 6 ≤ w ∧ w ≤ 18 := by simp [inSpaceWindow]

theorem dataBit_eq_some_iff (w : Nat) (bit : Bool) :
    dataBit w = some bit ↔ bit = false ∧ 12 ≤ w ∧ w ≤ 28 ∨ bit = true ∧ 32 ≤ w ∧ w ≤ 48 := by
  unfold dataBit
  cases bit <;> split <;> simp <;> omega

theorem dataBit_eq_none_iff (w : Nat) : dataBit w = none ↔ ¬ (12 ≤ w ∧ w ≤ 28) ∧ ¬ (32 ≤ w ∧ w ≤ 48) := by
  unfold dataBit
  split
  next h => simp [h]
  next h => simp [h]

/-- A transition that a window decides (R139, R141). -/
theorem State.acceptBeacon_window {s : State} {mark : Bool} {waited : Nat} {d : Decode} {code : List Bool} {p : Prop}
    [Decidable p] (h : decodeEdge s.beacon.decode s.beacon.code mark (s.beacon.widthAt waited) =
      if p then .go d code else .abort) :
    if p then BeaconGoes s (s.acceptBeacon mark waited) d code else BeaconAborts mark s (s.acceptBeacon mark waited) := by
  split
  next hp => exact State.acceptBeacon_go (h.trans (if_pos hp))
  next hp => exact State.acceptBeacon_abort (h.trans (if_neg hp))

/-! ### The commands -/

/-- The transitions of an accepted edge, by the decode state (R139 to R145). -/
theorem State.acceptBeacon_transitions {s t : State} {mark : Bool} {waited : Nat} (ht : t = s.acceptBeacon mark waited) :
    let w := min 255 (s.beacon.width + waited)
    (s.beacon.decode = .idle → if mark then BeaconGoes s t .startMark [] else BeaconGoes s t .idle s.beacon.code) ∧
    (s.beacon.decode = .startMark → mark = false →
      if 48 ≤ w ∧ w ≤ 72 then BeaconGoes s t .startSpace s.beacon.code else BeaconAborts mark s t) ∧
    (s.beacon.decode = .startSpace → mark = true →
      if 6 ≤ w ∧ w ≤ 18 then BeaconGoes s t (.bitMark 0) s.beacon.code else BeaconAborts mark s t) ∧
    (∀ n, s.beacon.decode = .bitSpace n → mark = true →
      if 6 ≤ w ∧ w ≤ 18 then BeaconGoes s t (.bitMark (n + 1)) s.beacon.code else BeaconAborts mark s t) ∧
    (∀ n, s.beacon.decode = .bitMark n → mark = false →
      (¬ (12 ≤ w ∧ w ≤ 28) → ¬ (32 ≤ w ∧ w ≤ 48) → BeaconAborts mark s t) ∧
      (n < 7 → 12 ≤ w → w ≤ 28 → BeaconGoes s t (.bitSpace n) (s.beacon.code ++ [false])) ∧
      (n < 7 → 32 ≤ w → w ≤ 48 → BeaconGoes s t (.bitSpace n) (s.beacon.code ++ [true]))) := by
  subst ht
  intro w
  refine ⟨fun h => ?_, fun h hm => ?_, fun h hm => ?_, fun n h hm => ?_, fun n h hm => ⟨fun h0 h1 => ?_, ?_, ?_⟩⟩
  · cases mark
    · exact State.acceptBeacon_go (by rw [h]; rfl)
    · exact State.acceptBeacon_go (by rw [h]; rfl)
  · refine State.acceptBeacon_window ?_
    simp only [h, hm, decodeEdge, inStartWindow_iff]
    rfl
  · refine State.acceptBeacon_window ?_
    simp only [h, hm, decodeEdge, inSpaceWindow_iff]
    rfl
  · refine State.acceptBeacon_window ?_
    simp only [h, hm, decodeEdge, inSpaceWindow_iff]
    rfl
  · refine State.acceptBeacon_abort ?_
    have hbit : dataBit (s.beacon.widthAt waited) = none := (dataBit_eq_none_iff _).2 ⟨h0, h1⟩
    simp [h, hm, decodeEdge, hbit]
  · intro hn hlo hhi
    have hbit : dataBit (s.beacon.widthAt waited) = some false := (dataBit_eq_some_iff _ _).2 (.inl ⟨rfl, hlo, hhi⟩)
    exact State.acceptBeacon_go (by simp [h, hm, decodeEdge, hbit, hn])
  · intro hn hlo hhi
    have hbit : dataBit (s.beacon.widthAt waited) = some true := (dataBit_eq_some_iff _ _).2 (.inr ⟨rfl, hlo, hhi⟩)
    exact State.acceptBeacon_go (by simp [h, hm, decodeEdge, hbit, hn])

/-- The edge that completes a byte (R140, R144, R145). -/
theorem State.acceptBeacon_eighth {s t : State} {waited : Nat} {bit : Bool} (ht : t = s.acceptBeacon false waited)
    (hd : s.beacon.decode = .bitMark 7) (hbit : dataBit (s.beacon.widthAt waited) = some bit) :
    let byte := s.beacon.code ++ [bit]
    t.beacon.decode = .idle ∧
    (s.beacon.code.length = 7 → byte = Code.left.bits ∨ byte = Code.right.bits ∨ byte = Code.halo.bits →
      t.link = s.link ∧ t.beacon.window = (if s.beacon.window = none then some 120000 else s.beacon.window) ∧
      (t.beacon.set.left = true ↔ byte = Code.left.bits ∨ (s.beacon.window ≠ none ∧ s.beacon.set.left = true)) ∧
      (t.beacon.set.right = true ↔ byte = Code.right.bits ∨ (s.beacon.window ≠ none ∧ s.beacon.set.right = true)) ∧
      (t.beacon.set.halo = true ↔ byte = Code.halo.bits ∨ (s.beacon.window ≠ none ∧ s.beacon.set.halo = true))) ∧
    (s.beacon.code.length = 7 → ¬ (byte = Code.left.bits ∨ byte = Code.right.bits ∨ byte = Code.halo.bits) →
      t.link.counts.beaconAbort = satInc s.link.counts.beaconAbort ∧ t.beacon.window = s.beacon.window ∧
      t.beacon.set = s.beacon.set) := by
  subst ht
  intro byte
  obtain ⟨hidle, hcode, hnone⟩ := State.acceptBeacon_byte (s := s) (mark := false) (waited := waited) (byte := byte)
    (by simp [hd, decodeEdge, hbit, byte])
  refine ⟨hidle, fun hlen hc => ?_, fun hlen hno => hnone ?_⟩
  · obtain ⟨c, hc⟩ : ∃ c : Code, byte = c.bits := by
      obtain h | h | h := hc
      · exact ⟨_, h⟩
      · exact ⟨_, h⟩
      · exact ⟨_, h⟩
    obtain ⟨hlink, b, hb, hwindow, hset⟩ := hcode c ((codeOf_byteValue (by simp [byte, hlen]) c).2 hc)
    rw [hlink, hb, hc, Code.bits_injective, Code.bits_injective, Code.bits_injective, ← hwindow, ← hset]
    exact ⟨rfl, (b.accept_values c).2⟩
  · cases h : codeOf (byteValue byte) with
    | none => rfl
    | some c =>
      have hbits := (codeOf_byteValue (by simp [byte, hlen]) c).1 h
      refine absurd ?_ hno
      cases c
      · exact .inl hbits
      · exact .inr (.inl hbits)
      · exact .inr (.inr hbits)

/-- An observation that a full FIFO discards leaves the Start-up Unit alone (R53). -/
theorem State.observe_unchanged_of_not_kept (s : State) {i : Item} (hkept : i.isKept = false)
    (hlookup : i.isLookup = false) (houtcome : i.isOutcome = false) : UnchangedBut [.table, .link] s (s.observe i) := by
  have hstartup : (s.observe i).startup = s.startup := by
    rw [State.observe, State.kick_startup]
    by_cases hroom : s.table.fifo.length < fifoSize
    · rw [State.pushItem_of_room i hroom]
      rfl
    · rw [State.pushItem_of_not_kept hroom hkept hlookup]
      rfl
  intro b hb
  have hother := s.observe_unchanged houtcome b
  cases b <;> simp_all [Block.same]

/-- Settles O59: the transitions of the decoder, the timeout of a space phase and the end of the sighting window. -/
theorem beaconCodesAreDecoded : Obligations.BeaconCodesAreDecoded := by
  refine ⟨fun s mark waited => ?_, fun s hrun => ⟨fun hspace => ?_, fun hwindow => ?_⟩⟩
  · by_cases hnew : s.running = true ∧ mark ≠ s.beacon.mark
    · let u := s.setPins { s.pins with beaconMark := mark }
      have hend : s.beaconEdge mark waited = u.acceptBeacon mark waited := by
        refine if_pos ?_
        simp only [Bool.and_eq_true, decide_eq_true_eq]
        exact hnew
      refine ⟨_, congrArg Host.Outcome.next hend, (u.acceptBeacon_unchanged mark waited) .pins (by simp), ?_, ?_⟩
      · rintro (h | h)
        · simp [h] at hnew
        · exact absurd h hnew.2
      · intro _ _
        obtain ⟨hmark, hwidth⟩ := u.acceptBeacon_level mark waited
        obtain ⟨hidle, hstart, hspace, hbits, hdata⟩ := State.acceptBeacon_transitions (s := u) (mark := mark)
          (waited := waited) rfl
        refine ⟨((s.setPins_unchanged _).mono (by decide)).trans ((u.acceptBeacon_unchanged mark waited).mono (by decide)),
          hmark, hwidth, hidle, hstart, hspace, hbits, fun n hn hm => ?_⟩
        obtain ⟨habort, hzero, hone⟩ := hdata n hn hm
        refine ⟨habort, hzero, hone, fun bit h7 hbit => ?_⟩
        subst h7 hm
        exact State.acceptBeacon_eighth (s := u) rfl hn ((dataBit_eq_some_iff _ _).2 hbit)
    · have hend : s.beaconEdge mark waited = s.setPins { s.pins with beaconMark := mark } := by
        refine if_neg ?_
        simp only [Bool.and_eq_true, decide_eq_true_eq]
        exact hnew
      exact ⟨_, congrArg Host.Outcome.next hend, rfl, fun _ => s.setPins_unchanged _, fun h h' => absurd ⟨h, h'⟩ hnew⟩
  · have hphase : s.beacon.inSpacePhase = true := by
      obtain h | ⟨n, h⟩ := hspace
      · simp [Beacon.inSpacePhase, h]
      · simp [Beacon.inSpacePhase, h]
    have hend : s.beaconSpaceTimeout =
        (s.setBeacon { (s.beacon.aborted false) with width := max s.beacon.width spaceTimeout }).count .beaconAbort :=
      if_pos (by rw [hrun, hphase]; rfl)
    refine ⟨_, congrArg Host.Outcome.next hend, rfl, rfl, rfl, rfl, rfl, rfl, fun b hb => ?_⟩
    cases b <;> simp [Block.same] at hb ⊢
  · let u := s.setBeacon { s.beacon with window := none, set := Zone.empty }
    let i := dockItem s.setup s.beacon.set s.odo.tag
    have hend : s.sightingWindowExpiry = u.observe i := if_pos (by rw [hrun, hwindow]; rfl)
    have hu : UnchangedBut [.beacon] s u := by
      intro b hb
      cases b <;> simp [Block.same] at hb ⊢ <;> rfl
    refine ⟨_, congrArg Host.Outcome.next hend, by simp [u, Zone.empty], ?_, by simp [u], ?_⟩
    · have hi := (u.observe_entered i hrun).congr (s' := s) (t' := u.observe i) rfl rfl rfl rfl rfl
      simpa [i, dockItem, dockPoint, alongAxis, haloDistance, beamDistance] using hi
    · exact (hu.mono (by decide)).trans ((u.observe_unchanged_of_not_kept rfl rfl rfl).mono (by decide))

end Sys2Proof.Machine
end

section
/-! PROOFS. The step on an empty queue: a due command handed on, or one microsecond (log 1). -/

namespace Sys2Proof.Machine

open Sys2Proof

/-! ### The filters' commands -/

theorem Filter.tickAccepts_iff (f : Filter) (level : Bool) : f.tickAccepts level = true ↔
    f.sample.any (· ≤ 1) = true ∧ level ≠ f.accepted ∧ f.last = some level := by
  simp [Filter.tickAccepts, Filter.accepts]

theorem Beacon.tickAccepts_iff (b : Beacon) (level : Bool) : b.tickAccepts level = true ↔
    b.sample.any (· ≤ 1) = true ∧ level ≠ b.mark ∧ b.last = some level := by
  simp [Beacon.tickAccepts, and_assoc]

/-- The commands a microsecond's samples bring (R21, R126, R137). -/
theorem State.mem_sampleCommands (s : State) (c : Instr) : c ∈ s.sampleCommands ↔
    (s.bump.tickAccepts s.pins.bump = true ∧ c = .bumpChange s.pins.bump) ∨
    (s.drop.tickAccepts s.pins.drop = true ∧ c = .dropChange s.pins.drop) ∨
    (s.clear.line.tickAccepts s.stopPin = true ∧ c = .stopLineChange s.stopPin) ∨
    (s.beacon.tickAccepts s.pins.beaconMark = true ∧ c = .beaconEdge s.pins.beaconMark 0) := by
  have hif (b : Bool) (d : Instr) : c ∈ (if b then [d] else []) ↔ b = true ∧ c = d := by
    cases b <;> simp
  simp only [State.sampleCommands, List.mem_append, hif, or_assoc]

/-! ### The encoders' samples -/

/-- What the kind of an edge adds to a count (R27). -/
theorem edgeStep_eq (old new : Pair) (reverse : Bool) : edgeStep old new reverse =
    match edgeKind old new with
    | .tick step => BitVec.ofInt 16 ((if reverse then -1 else 1) * step)
    | .same => 0#16
    | .both => 0#16 := by
  obtain ⟨a, b⟩ := old
  obtain ⟨c, d⟩ := new
  revert a b c d
  cases reverse <;> decide

theorem edgeKind_eq_same_iff (old new : Pair) : edgeKind old new = .same ↔ old = new := by
  unfold edgeKind
  (repeat' split) <;> simp_all

/-- The reverse option of a wheel. -/
def SetupValues.reverses (v : SetupValues) : Wheel → Bool
  | .left => v.reverseLeft
  | .right => v.reverseRight

theorem wheelSign_eq (v : SetupValues) (w : Wheel) : wheelSign v w = if v.reverses w then -1 else 1 := by
  cases w <;> rfl

/-- A wheel's count. -/
def Encoder.ticks (e : Encoder) : Wheel → Half
  | .left => e.left
  | .right => e.right

/-- What is set at one wheel leaves the other alone. -/
theorem Encoder.setQuad_other (e : Encoder) {w w' : Wheel} (hw : w' ≠ w) (p : Pair) :
    (e.setQuad w p).quad w' = e.quad w' ∧ (e.setQuad w p).ticks w' = e.ticks w' := by
  cases w <;> cases w'
  · exact absurd rfl hw
  · exact ⟨rfl, rfl⟩
  · exact ⟨rfl, rfl⟩
  · exact absurd rfl hw

theorem Encoder.addStep_other (e : Encoder) {w w' : Wheel} (hw : w' ≠ w) (n : Int) :
    (e.addStep w n).quad w' = e.quad w' ∧ (e.addStep w n).ticks w' = e.ticks w' := by
  cases w <;> cases w'
  · exact absurd rfl hw
  · exact ⟨rfl, rfl⟩
  · exact ⟨rfl, rfl⟩
  · exact absurd rfl hw

/-- An edge sets its wheel's levels and moves its count, and leaves the other wheel alone (R27, R28). -/
theorem Encoder.edge_values {e : Encoder} {w : Wheel} {old : Pair} (h : e.quad w = some old) (v : SetupValues)
    (new : Pair) : (e.edge v w new).quad w = some new ∧
      (e.edge v w new).ticks w = e.ticks w + edgeStep old new (v.reverses w) ∧
      ∀ w', w' ≠ w → (e.edge v w new).quad w' = e.quad w' ∧ (e.edge v w new).ticks w' = e.ticks w' := by
  rw [edgeStep_eq, ← wheelSign_eq]
  cases hk : edgeKind old new with
  | same =>
    obtain rfl := (edgeKind_eq_same_iff old new).1 hk
    rw [Encoder.edge_same h]
    exact ⟨h, by simp, fun _ _ => ⟨rfl, rfl⟩⟩
  | tick step =>
    rw [Encoder.edge_tick h hk]
    refine ⟨by cases w <;> rfl, by cases w <;> rfl, fun w' hw => ?_⟩
    rw [(Encoder.addStep_other _ hw (wheelSign v w * step)).1, (Encoder.addStep_other _ hw (wheelSign v w * step)).2]
    exact Encoder.setQuad_other e hw new
  | both =>
    rw [Encoder.edge_both h hk]
    refine ⟨by cases w <;> rfl, by cases w <;> simp [Encoder.ticks, Encoder.setQuad], fun w' hw => ?_⟩
    exact Encoder.setQuad_other e hw new

/-- A sample of one wheel's channels leaves the other wheel alone. -/
theorem Encoder.take_other (e : Encoder) (v : SetupValues) {w w' : Wheel} (hw : w' ≠ w) (last : Option Pair) (p : Pair) :
    (e.take v w last p).quad w' = e.quad w' ∧ (e.take v w last p).ticks w' = e.ticks w' := by
  unfold Encoder.take
  split
  next accepted l hq => exact (Encoder.edge_values hq v _).2.2 w' hw
  next => exact ⟨rfl, rfl⟩

/-- A sample of a wheel with accepted and last levels (R26). -/
theorem Encoder.take_self {e : Encoder} (v : SetupValues) {w : Wheel} {old last : Pair} (hq : e.quad w = some old)
    (p : Pair) :
    (e.take v w (some last) p).quad w = some (acceptPair old last p) ∧
    (e.take v w (some last) p).ticks w = e.ticks w + edgeStep old (acceptPair old last p) (v.reverses w) := by
  obtain ⟨hquad, hticks, -⟩ := Encoder.edge_values hq v (acceptPair old last p)
  simp only [Encoder.take, hq]
  exact ⟨hquad, hticks⟩

/-- A microsecond at which the samples are due (R26). -/
theorem Encoder.tick_sampled {e : Encoder} (v : SetupValues) (p : Pins) (h : e.sample.any (· ≤ 1) = true) :
    e.tick v p = { ({ e with odoTimer := Timer.tick e.odoTimer } : Encoder).take v .left e.lastLeft p.encLeft |>.take v
      .right e.lastRight p.encRight with
      sample := some encoderSample, lastLeft := some p.encLeft, lastRight := some p.encRight } := by
  obtain ⟨n, hn⟩ : ∃ n, e.sample = some n := Option.isSome_iff_exists.1 (Option.isSome_of_any h)
  have hle : ¬ 1 < n := by simpa [hn] using h
  simp only [Encoder.tick, hn, if_neg hle]

/-- The left wheel at a sample (R26, R27). -/
theorem Encoder.tick_left {e : Encoder} {v : SetupValues} {p : Pins} {old last : Pair}
    (h : e.sample.any (· ≤ 1) = true) (hold : e.quadLeft = some old) (hlast : e.lastLeft = some last) :
    (e.tick v p).lastLeft = some p.encLeft ∧ (e.tick v p).quadLeft = some (acceptPair old last p.encLeft) ∧
    (e.tick v p).left = e.left + edgeStep old (acceptPair old last p.encLeft) v.reverseLeft := by
  let m : Encoder := { e with odoTimer := Timer.tick e.odoTimer }
  have hself := Encoder.take_self (e := m) v (w := .left) (last := last) hold p.encLeft
  rw [← hlast] at hself
  have hother := (m.take v .left e.lastLeft p.encLeft).take_other v (w := .right) (w' := .left) nofun
    e.lastRight p.encRight
  rw [Encoder.tick_sampled v p h]
  exact ⟨rfl, hother.1.trans hself.1, hother.2.trans hself.2⟩

/-- The right wheel at a sample (R26, R27). -/
theorem Encoder.tick_right {e : Encoder} {v : SetupValues} {p : Pins} {old last : Pair}
    (h : e.sample.any (· ≤ 1) = true) (hold : e.quadRight = some old) (hlast : e.lastRight = some last) :
    (e.tick v p).lastRight = some p.encRight ∧ (e.tick v p).quadRight = some (acceptPair old last p.encRight) ∧
    (e.tick v p).right = e.right + edgeStep old (acceptPair old last p.encRight) v.reverseRight := by
  let m : Encoder := { e with odoTimer := Timer.tick e.odoTimer }
  have hother := m.take_other v (w := .left) (w' := .right) nofun e.lastLeft p.encLeft
  have hself := Encoder.take_self v (w := .right) (last := last) (hother.1.trans hold) p.encRight
  rw [← hlast, hother.2] at hself
  rw [Encoder.tick_sampled v p h]
  exact ⟨rfl, hself.1, hself.2⟩

/-! ### The clock -/

theorem Channel.tick_ambient {c : Channel} {n : Nat} (h : c.ambient = some n) :
    c.tick.ambient = if 1 < n then some (n - 1) else none := by
  simp [Channel.tick, h]

theorem Link.tick_line (l : Link) (follows : Bool) :
    (follows = false → (l.tick follows).line = l.line ∧ (l.tick follows).access = l.access) ∧
    (follows = true → (l.tick follows).access = l.access + 1 ∧ (l.line = .low → (l.tick follows).line = .idle 0) ∧
      ∀ n, l.line = .idle n → (l.tick follows).line = .idle (n + 1)) := by
  refine ⟨fun h => by simp [Link.tick, h], fun h => ⟨by simp [Link.tick, h], fun hl => ?_, fun n hl => ?_⟩⟩
  · simp [Link.tick, h, hl, LineState.tick]
  · simp [Link.tick, h, hl, LineState.tick]

/-- The commands in the queue after a microsecond on an empty queue. -/
theorem State.mem_tick_pending {s : State} (hp : s.pending = []) (c : Instr) :
    c ∈ s.tick.pending ↔ c ∈ s.sampleCommands := by
  simp [State.tick, hp]

/-- Settles O2: a due command is handed on, and otherwise each unit's clock moves. -/
theorem idleStepIsTheClock : Obligations.IdleStepIsTheClock := by
  intro s hp
  have hstep : step s = .next s.clock := by simp [step, hp]
  refine ⟨fun c rest hdue => ⟨s.clock, hstep, ?_⟩, fun hdue => ⟨s.tick, ?_, rfl, rfl, rfl, rfl,
    (s.link.tick_line s.onLink).1, (s.link.tick_line s.onLink).2, fun n hn => Channel.tick_ambient hn,
    fun n hn => Channel.tick_ambient hn, ?_⟩⟩
  · simp only [State.clock, hdue]
    refine ⟨rfl, fun b hb => ?_⟩
    cases b <;> simp [Block.same] at hb ⊢ <;> split <;> rfl
  · rw [hstep, State.clock, hdue]
  · simp only [State.mem_tick_pending hp, State.mem_sampleCommands]
    refine ⟨fun active => ?_, fun active => ?_, fun level => ?_, fun mark n => ?_, fun old last h hold hlast =>
      Encoder.tick_left h hold hlast, fun old last h hold hlast => Encoder.tick_right h hold hlast, fun p => ?_⟩
    · simp [Filter.tickAccepts_iff]
      grind
    · simp [Filter.tickAccepts_iff]
      grind
    · simp [Filter.tickAccepts_iff]
      grind
    · simp [Beacon.tickAccepts_iff]
      grind
    · simp [State.tick, PeerMonitor.tick, PeerEntry.tick]

end Sys2Proof.Machine
end

section
/-! PROOFS. Frames as bytes: each reader takes the bytes of its kind's payloads and no others (R191 to R193), and the receive
checks read back what a transmitter sends (R162, R173). -/

namespace Sys2Proof.Machine

open Sys2Proof

/-! ### Fields of a byte -/

/-- A word made of two parts, read part by part. -/
theorem append_eq_iff {m n : Nat} (hi : BitVec m) (lo : BitVec n) (b : BitVec (m + n)) :
    @Eq (no_index (BitVec (m + n))) (@HAppend.hAppend (BitVec m) (BitVec n) (no_index (BitVec (m + n))) _ hi lo) b ↔
      hi = b.extractLsb' n m ∧ lo = b.extractLsb' 0 n := by
  constructor
  · rintro rfl
    exact ⟨BitVec.extractLsb'_append_eq_left.symm, BitVec.extractLsb'_append_eq_right.symm⟩
  · rintro ⟨rfl, rfl⟩
    rw [BitVec.extractLsb'_append_extractLsb'_eq_extractLsb' (by omega), BitVec.extractLsb'_eq_self]

/-- A field of a field. -/
theorem extractLsb'_of_field {w k i l n : Nat} (b : BitVec w) (h : i + l ≤ k) :
    (b.extractLsb' n k).extractLsb' i l = b.extractLsb' (n + i) l := by
  ext j hj
  simp only [BitVec.getElem_extractLsb', BitVec.getLsbD_extractLsb']
  rw [decide_eq_true (by omega), Bool.true_and, Nat.add_assoc]

/-- A one-bit field is the bit. -/
theorem ofBool_eq_extractLsb'_iff {w : Nat} (b : BitVec w) (i : Nat) (x : Bool) :
    BitVec.ofBool x = b.extractLsb' i 1 ↔ x = b.getLsbD i := by
  rw [BitVec.getLsbD_eq_extractLsb']
  generalize b.extractLsb' i 1 = y
  revert y
  cases x <;> decide

theorem byteHalf_eq_iff (hi lo : Byte) (h : Half) : byteHalf hi lo = h ↔ hi = hiByte h ∧ lo = loByte h :=
  append_eq_iff hi lo h

theorem byteHalf_hiByte (h : Half) : byteHalf (hiByte h) (loByte h) = h := (byteHalf_eq_iff _ _ h).2 ⟨rfl, rfl⟩

theorem halfBytes_byteHalf (hi lo : Byte) : halfBytes (byteHalf hi lo) = [hi, lo] := by
  obtain ⟨hhi, hlo⟩ := (byteHalf_eq_iff hi lo _).1 rfl
  rw [halfBytes, ← hhi, ← hlo]

/-- A two-byte field in front of other bytes. -/
theorem halfBytes_append_eq_iff (h : Half) (rest bs : List Byte) (hi lo : Byte) :
    halfBytes h ++ rest = hi :: lo :: bs ↔ h = byteHalf hi lo ∧ rest = bs := by
  rw [eq_comm (b := byteHalf hi lo), byteHalf_eq_iff, halfBytes]
  simp [and_assoc, eq_comm]

theorem halfBytes_injective {a b : Half} (h : halfBytes a = halfBytes b) : a = b := by
  simp only [halfBytes, List.cons.injEq, and_true] at h
  exact ((byteHalf_eq_iff _ _ a).2 ⟨rfl, rfl⟩).symm.trans ((byteHalf_eq_iff _ _ b).2 h)

/-! ### Codes of the named values -/

theorem roleOf_eq_iff (b : BitVec 2) (r : HeadRole) : roleOf b = r ↔ roleCode r = b := by
  revert b
  cases r <;> decide

theorem actionOf_eq_some_iff (b : BitVec 2) (a : Action) : actionOf b = some a ↔ actionCode a = b := by
  revert b
  cases a <;> decide

theorem wallOf_eq_some_iff (b : BitVec 2) (r : WallResult) : wallOf b = some r ↔ wallCode r = b := by
  revert b
  cases r <;> decide

theorem emitterOf_eq_some_iff (b : BitVec 2) (e : EmitterStatus) : emitterOf b = some e ↔ emitterCode e = b := by
  revert b
  cases e <;> decide

theorem floorOf_eq_some_iff (b : BitVec 3) (c : FloorClass) : floorOf b = some c ↔ floorCode c = b := by
  revert b
  cases c <;> decide

theorem answerOf_eq_some_iff (b : Byte) (a : Answer) : answerOf b = some a ↔ answerCode a = b := by
  unfold answerOf answerCode
  cases a <;> grind

theorem causeOf_eq_some_iff (b : Byte) (c : FaultCause) : causeOf b = some c ↔ causeCode c = b := by
  unfold causeOf causeCode
  cases c <;> grind

theorem progressOf_eq_some_iff (b : Byte) (c : ProgressCode) :
    progressOf b = some c ↔ BitVec.ofNat 8 (progressNat c) = b := by
  unfold progressOf progressNat
  cases c <;> grind

/-- Kind and detail of a hazard report (R193). -/
theorem hazardOf_eq_some_iff (kind : BitVec 2) (attr : BitVec 4) (k : Hazard) :
    hazardOf kind attr = some k ↔ (hazardCode k).1 = kind ∧ (hazardCode k).2 = attr ∧ k.wf = true := by
  have hzone (attr : BitVec 4) (z : Zone) : ¬ (attr = 0 ∨ 7 < attr.toNat) ∧ zoneOf attr = z ↔
      attr = zoneCode z ∧ z.nonEmpty = true := by
    obtain ⟨l, r, h⟩ := z
    revert attr
    cases l <;> cases r <;> cases h <;> decide
  have hkind : kind = 0#2 ∨ kind = 1#2 ∨ kind = 2#2 ∨ kind = 3#2 := by
    revert kind
    decide
  rw [eq_comm (a := (hazardCode k).2)]
  obtain rfl | rfl | rfl | rfl := hkind
  · cases k with
    | rug c => cases c <;> simp [hazardOf, hazardCode, Hazard.wf]
    | _ => simp [hazardOf, hazardCode, Hazard.wf]
  · cases k with
    | rug c =>
      cases c
      · simp [hazardOf, hazardCode, Hazard.wf]
      · simp only [hazardOf, hazardCode, Hazard.wf]
        revert attr
        decide
    | _ =>
      simp only [hazardOf, hazardCode, Hazard.wf]
      grind
  · cases k with
    | rug c => cases c <;> simp [hazardOf, hazardCode, Hazard.wf]
    | _ => simp [hazardOf, hazardCode, Hazard.wf]
  · cases k with
    | rug c => cases c <;> simp [hazardOf, hazardCode, Hazard.wf]
    | dock z => simpa [hazardOf, hazardCode, Hazard.wf] using hzone attr z
    | _ => simp [hazardOf, hazardCode, Hazard.wf]

theorem flagsWord_eq_iff (w : Half) (f : Flags) : flagsWord f = w ↔ f = flagsOf w := by
  obtain ⟨⟩ := f
  simp (disch := decide) only [flagsWord, append_eq_iff, extractLsb'_of_field, ofBool_eq_extractLsb'_iff, flagsOf,
    Flags.mk.injEq, Nat.reduceAdd, and_assoc]

theorem posOfByte_eq_some_iff (b : Byte) (p : Pos) : posOfByte b = some p ↔ posByte p = b := by
  unfold posOfByte posByte
  rw [Option.dite_none_right_eq_some]
  constructor
  · rintro ⟨h, h'⟩
    obtain rfl := Option.some.inj h'
    exact (BitVec.ofNat_toNat 8 b).trans (BitVec.setWidth_eq b)
  · rintro rfl
    have hp := p.isLt
    have hmod : p.val % 2 ^ 8 = p.val := Nat.mod_eq_of_lt (by omega)
    simp only [BitVec.toNat_ofNat, hmod]
    exact ⟨hp, trivial⟩

theorem slotOf_eq_some_iff (b : BitVec 5) (i : Slot) : slotOf b = some i ↔ BitVec.ofNat 5 i.val = b := by
  unfold slotOf
  rw [Option.dite_none_right_eq_some]
  constructor
  · rintro ⟨h, h'⟩
    obtain rfl := Option.some.inj h'
    exact (BitVec.ofNat_toNat 5 b).trans (BitVec.setWidth_eq b)
  · rintro rfl
    have hi := i.isLt
    have hmod : i.val % 2 ^ 5 = i.val := Nat.mod_eq_of_lt (by omega)
    simp only [BitVec.toNat_ofNat, hmod]
    exact ⟨hi, trivial⟩

theorem tagOf_eq_some_iff (m : Bool) (b : Byte) (t : Option Seq) :
    tagOf m b = some t ↔ t.isNone = m ∧ tagByte t = b := by
  unfold tagOf tagByte
  cases m <;> cases t <;> simp <;> exact eq_comm

/-- A clear distance within the scale leaves the five high bits 0 (11.2). -/
theorem le_clearCeiling_iff (h : Half) : h.toNat ≤ clearCeiling ↔ 0#5 = h.extractLsb' 11 5 := by
  have hlt := h.isLt
  rw [← BitVec.toNat_inj, BitVec.extractLsb'_toNat, Nat.shiftRight_eq_div_pow, clearCeiling]
  simp only [BitVec.toNat_ofNat]
  omega

theorem clear_bit_iff (b : Byte) (i : Nat) : 0#1 = b.extractLsb' i 1 ↔ b.getLsbD i = false :=
  (ofBool_eq_extractLsb'_iff b i false).trans eq_comm

/-! ### The readers of the kinds -/

theorem readOdometry_eq_some_iff (bs : List Byte) (p : Payload) : readOdometry bs = some p ↔
    ∃ d, p = .odometry d ∧ payloadBytes (.odometry d) = bs := by
  constructor
  · intro h
    unfold readOdometry at h
    split at h
    next l1 l0 r1 r0 iv er =>
      refine ⟨_, (Option.some.inj h).symm, ?_⟩
      simp only [payloadBytes, halfBytes_byteHalf, List.cons_append, List.nil_append]
    next => cases h
  · rintro ⟨d, rfl, rfl⟩
    simp [readOdometry, payloadBytes, halfBytes, byteHalf_hiByte]

theorem readHazard_eq_some_iff (bs : List Byte) (p : Payload) : readHazard bs = some p ↔
    ∃ d, p = .hazard d ∧ d.kind.wf = true ∧ payloadBytes (.hazard d) = bs := by
  have hlist (b0 b1 x1 x0 y1 y0 c t : Byte) : readHazard [b0, b1, x1, x0, y1, y0, c, t] = some p ↔
      ∃ d, p = .hazard d ∧ d.kind.wf = true ∧ payloadBytes (.hazard d) = [b0, b1, x1, x0, y1, y0, c, t] := by
    simp (disch := decide) only [readHazard, Option.bind_eq_bind, Option.bind_eq_some_iff, actionOf_eq_some_iff,
      hazardOf_eq_some_iff, slotOf_eq_some_iff, tagOf_eq_some_iff, Option.ite_none_right_eq_some, Option.some.injEq,
      payloadBytes, hazardBytes, List.cons_append, List.nil_append, List.append_assoc, List.cons.injEq,
      halfBytes_append_eq_iff, append_eq_iff, extractLsb'_of_field, noTagBit, ofBool_eq_extractLsb'_iff,
      Nat.reduceAdd, and_true]
    constructor
    · rintro ⟨a, ha, k, ⟨hk, hattr, hwf⟩, i, hi, m, ⟨hm, ht⟩, ⟨h5, h4⟩, rfl⟩
      exact ⟨_, rfl, hwf, ⟨⟨ha, hk⟩, hattr⟩, ⟨⟨hm, h5.symm⟩, hi⟩, rfl, rfl, ⟨h4.symm, rfl⟩, ht⟩
    · rintro ⟨d, rfl, hwf, ⟨⟨ha, hk⟩, hattr⟩, ⟨⟨hm, h5⟩, hi⟩, hx, hy, ⟨h4, hc⟩, ht⟩
      refine ⟨_, ha, _, ⟨hk, hattr, hwf⟩, _, hi, _, ⟨hm, ht⟩, ⟨h5.symm, h4.symm⟩, ?_⟩
      rw [← hx, ← hy, ← hc]
  constructor
  · intro h
    unfold readHazard at h
    split at h
    next => exact (hlist _ _ _ _ _ _ _ _).1 h
    next => cases h
  · rintro ⟨d, hp, hwf, rfl⟩
    exact (hlist _ _ _ _ _ _ _ _).2 ⟨d, hp, hwf, rfl⟩

theorem readVerdict_eq_some_iff (bs : List Byte) (p : Payload) : readVerdict bs = some p ↔
    ∃ d, p = .verdict d ∧ payloadBytes (.verdict d) = bs := by
  have hlist (a1 a0 h1 h0 f1 f0 c : Byte) : readVerdict [a1, a0, h1, h0, f1, f0, c] = some p ↔
      ∃ d, p = .verdict d ∧ payloadBytes (.verdict d) = [a1, a0, h1, h0, f1, f0, c] := by
    simp (disch := decide) only [readVerdict, Option.bind_eq_bind, Option.bind_eq_some_iff, floorOf_eq_some_iff,
      wallOf_eq_some_iff, Option.ite_none_right_eq_some, Option.some.injEq, payloadBytes, verdictBytes,
      List.append_assoc, flagsWord_eq_iff,
      halfBytes_append_eq_iff, append_eq_iff, extractLsb'_of_field, Nat.reduceAdd, List.cons.injEq, and_true,
      le_clearCeiling_iff, clear_bit_iff]
    constructor
    · rintro ⟨k, hk, r, hr, ⟨ha, hb, h3, h6⟩, rfl⟩
      exact ⟨_, rfl, ⟨ha, rfl⟩, ⟨hb, rfl⟩, rfl, ⟨⟨h6.symm, hr⟩, h3⟩, hk⟩
    · rintro ⟨d, rfl, ⟨ha, ha'⟩, ⟨hb, hb'⟩, hf, ⟨⟨h6, hr⟩, h3⟩, hk⟩
      refine ⟨_, hk, _, hr, ⟨ha, hb, h3, h6.symm⟩, ?_⟩
      rw [← ha', ← hb', ← hf]
  constructor
  · intro h
    unfold readVerdict at h
    split at h
    next => exact (hlist _ _ _ _ _ _ _).1 h
    next => cases h
  · rintro ⟨d, hp, rfl⟩
    exact (hlist _ _ _ _ _ _ _).2 ⟨d, hp, rfl⟩

theorem readCheckRequest_eq_some_iff (bs : List Byte) (p : Payload) : readCheckRequest bs = some p ↔
    ∃ d, p = .checkRequest d ∧ payloadBytes (.checkRequest d) = bs := by
  have hlist (b0 x1 x0 y1 y0 t : Byte) : readCheckRequest [b0, x1, x0, y1, y0, t] = some p ↔
      ∃ d, p = .checkRequest d ∧ payloadBytes (.checkRequest d) = [b0, x1, x0, y1, y0, t] := by
    simp (disch := decide) only [readCheckRequest, Option.bind_eq_bind, Option.bind_eq_some_iff, tagOf_eq_some_iff,
      Option.ite_none_right_eq_some, Option.some.injEq, payloadBytes, List.cons_append, List.nil_append,
      List.cons.injEq, List.append_assoc, halfBytes_append_eq_iff,
      append_eq_iff, extractLsb'_of_field, noTagBit, ofBool_eq_extractLsb'_iff, Nat.reduceAdd, and_true]
    constructor
    · rintro ⟨m, ⟨hm, ht⟩, h4, rfl⟩
      exact ⟨_, rfl, ⟨⟨hm, h4.symm⟩, rfl⟩, rfl, rfl, ht⟩
    · rintro ⟨d, rfl, ⟨⟨hm, h4⟩, hi⟩, hx, hy, ht⟩
      refine ⟨_, ⟨hm, ht⟩, h4.symm, ?_⟩
      rw [← hi, ← hx, ← hy]
  constructor
  · intro h
    unfold readCheckRequest at h
    split at h
    next => exact (hlist _ _ _ _ _ _).1 h
    next => cases h
  · rintro ⟨d, hp, rfl⟩
    exact (hlist _ _ _ _ _ _).2 ⟨d, hp, rfl⟩

theorem readCheckAnswer_eq_some_iff (bs : List Byte) (p : Payload) : readCheckAnswer bs = some p ↔
    ∃ d, p = .checkAnswer d ∧ payloadBytes (.checkAnswer d) = bs := by
  have hlist (d i a c : Byte) : readCheckAnswer [d, i, a, c] = some p ↔
      ∃ e, p = .checkAnswer e ∧ payloadBytes (.checkAnswer e) = [d, i, a, c] := by
    simp (disch := decide) only [readCheckAnswer, Option.bind_eq_bind, Option.bind_eq_some_iff, posOfByte_eq_some_iff,
      answerOf_eq_some_iff, Option.ite_none_right_eq_some, Option.some.injEq, payloadBytes, List.cons.injEq,
      append_eq_iff, and_true]
    constructor
    · rintro ⟨q, hq, w, hw, ⟨hi, hc⟩, rfl⟩
      exact ⟨_, rfl, hq, ⟨hi.symm, rfl⟩, hw, hc.symm, rfl⟩
    · rintro ⟨e, rfl, hq, ⟨hi, hi'⟩, hw, hc, hc'⟩
      refine ⟨_, hq, _, hw, ⟨hi.symm, hc.symm⟩, ?_⟩
      rw [← hi', ← hc']
  constructor
  · intro h
    unfold readCheckAnswer at h
    split at h
    next => exact (hlist _ _ _ _).1 h
    next => cases h
  · rintro ⟨d, hp, rfl⟩
    exact (hlist _ _ _ _).2 ⟨d, hp, rfl⟩

theorem readBoot_eq_some_iff (bs : List Byte) (p : Payload) : readBoot bs = some p ↔
    ∃ d, p = .boot d ∧ payloadBytes (.boot d) = bs := by
  have hlist (c ca u e : Byte) : readBoot [c, ca, u, e] = some p ↔
      ∃ d, p = .boot d ∧ payloadBytes (.boot d) = [c, ca, u, e] := by
    simp (disch := decide) only [readBoot, Option.bind_eq_bind, Option.bind_eq_some_iff, progressOf_eq_some_iff,
      causeOf_eq_some_iff, emitterOf_eq_some_iff, Option.dite_none_right_eq_some, Option.ite_none_right_eq_some,
      Option.some.injEq, payloadBytes, List.cons.injEq, append_eq_iff, extractLsb'_of_field, Nat.reduceAdd, and_true]
    constructor
    · rintro ⟨k, hk, v, hv, f, hf, w, hw, hu, h4, rfl⟩
      exact ⟨_, rfl, hk, hv, by simp, ⟨h4.symm, hw⟩, hf⟩
    · rintro ⟨d, rfl, hk, hv, hu, ⟨h4, hw⟩, hf⟩
      have hlt := d.usable.isLt
      have hval : u.toNat = d.usable.val := by
        rw [← hu, BitVec.toNat_ofNat]
        exact Nat.mod_eq_of_lt (by omega)
      refine ⟨_, hk, _, hv, _, hf, _, hw, hval ▸ hlt, h4.symm, ?_⟩
      have husable : (⟨u.toNat, hval ▸ hlt⟩ : Fin 25) = d.usable := Fin.ext hval
      rw [husable]
  constructor
  · intro h
    unfold readBoot at h
    split at h
    next => exact (hlist _ _ _ _).1 h
    next => cases h
  · rintro ⟨d, hp, rfl⟩
    exact (hlist _ _ _ _).2 ⟨d, hp, rfl⟩

/-- Two nibbles of a byte. -/
theorem nibbles_eq_iff (hi lo : BitVec 4) (b : Byte) :
    hi ++ lo = b ↔ hi = b.extractLsb' 4 4 ∧ lo = b.extractLsb' 0 4 := append_eq_iff hi lo b

theorem readPart_eq_some_iff (bs : List Byte) (p : PartData) : readPart bs = some p ↔ partBytes p = bs := by
  constructor
  · intro h
    unfold readPart at h
    split at h
    next n a1 a0 b1 b0 c1 c0 d1 d0 =>
      split at h
      next hn =>
        cases h
        simp [partBytes, halfBytes_byteHalf, hn]
      next =>
        obtain ⟨hn, h⟩ := Option.ite_none_right_eq_some.1 h
        cases h
        simp [partBytes, halfBytes_byteHalf, hn]
    next n a1 a0 b1 b0 c1 c0 =>
      obtain ⟨hn, h⟩ := Option.ite_none_right_eq_some.1 h
      cases h
      simp [partBytes, halfBytes_byteHalf, hn]
    next n a1 a0 b1 b0 ex l w t o =>
      obtain ⟨hn, h⟩ := Option.ite_none_right_eq_some.1 h
      cases h
      have hl : l.extractLsb' 4 4 ++ l.extractLsb' 0 4 = l := (nibbles_eq_iff _ _ l).2 ⟨rfl, rfl⟩
      simp only [partBytes, halfBytes_byteHalf, hn, hl]
      rfl
    next => cases h
  · rintro rfl
    cases p with
    | part3 d =>
      obtain ⟨h4, h0⟩ := (nibbles_eq_iff d.lf d.lm _).1 rfl
      simp only [readPart, partBytes, halfBytes, byteHalf_hiByte, List.cons_append, List.nil_append, ← h4, ← h0]
      rfl
    | _ => simp [readPart, partBytes, halfBytes, byteHalf_hiByte]

theorem readSetup_eq_some_iff (bs : List Byte) (p : Payload) : readSetup bs = some p ↔
    ∃ d, p = .setup d ∧ payloadBytes (.setup d) = bs := by
  cases bs with
  | nil => simp [readSetup, payloadBytes]
  | cons b rest =>
    simp only [readSetup, Option.bind_eq_bind, Option.bind_eq_some_iff, posOfByte_eq_some_iff, readPart_eq_some_iff,
      Option.some.injEq, payloadBytes, List.cons.injEq]
    constructor
    · rintro ⟨q, hq, r, hr, rfl⟩
      exact ⟨_, rfl, hq, hr⟩
    · rintro ⟨d, rfl, hq, hr⟩
      exact ⟨_, hq, _, hr, rfl⟩

theorem readHealth_eq_some_iff (bs : List Byte) (p : Payload) : readHealth bs = some p ↔
    ∃ c, p = .health c ∧ payloadBytes (.health c) = bs := by
  constructor
  · intro h
    unfold readHealth at h
    split at h
    next => exact ⟨_, (Option.some.inj h).symm, rfl⟩
    next => cases h
  · rintro ⟨c, rfl, rfl⟩
    rfl

theorem readMode_eq_some_iff (bs : List Byte) (p : Payload) : readMode bs = some p ↔
    ∃ v, p = .mode v ∧ payloadBytes (.mode v) = bs := by
  constructor
  · intro h
    unfold readMode at h
    split at h
    next => exact ⟨_, (Option.some.inj h).symm, rfl⟩
    next => cases h
  · rintro ⟨v, rfl, rfl⟩
    rfl

theorem readRejoin_eq_some_iff (bs : List Byte) (p : Payload) : readRejoin bs = some p ↔
    ∃ d, p = .rejoin d ∧ payloadBytes (.rejoin d) = bs := by
  constructor
  · intro h
    unfold readRejoin at h
    split at h
    next b =>
      obtain ⟨d, hd, rfl⟩ := Option.map_eq_some_iff.1 h
      exact ⟨d, rfl, congrArg (· :: []) ((posOfByte_eq_some_iff b d).1 hd)⟩
    next => cases h
  · rintro ⟨d, rfl, rfl⟩
    simp [readRejoin, payloadBytes, (posOfByte_eq_some_iff (posByte d) d).2 rfl]

/-- The reader of a kind takes the bytes of its well-formed payloads and no others (R192, R193). -/
theorem readPayload_eq_some_iff (kind : BitVec 4) (bs : List Byte) (p : Payload) :
    readPayload kind bs = some p ↔ kindCode p = kind ∧ p.wf = true ∧ payloadBytes p = bs := by
  constructor
  · intro h
    unfold readPayload at h
    split at h
    next hk =>
      obtain ⟨d, rfl, hb⟩ := (readOdometry_eq_some_iff bs p).1 h
      exact ⟨hk.symm, rfl, hb⟩
    split at h
    next hk =>
      obtain ⟨d, rfl, hwf, hb⟩ := (readHazard_eq_some_iff bs p).1 h
      exact ⟨hk.symm, hwf, hb⟩
    split at h
    next hk =>
      obtain ⟨d, rfl, hb⟩ := (readVerdict_eq_some_iff bs p).1 h
      exact ⟨hk.symm, rfl, hb⟩
    split at h
    next hk =>
      obtain ⟨d, rfl, hb⟩ := (readCheckRequest_eq_some_iff bs p).1 h
      exact ⟨hk.symm, rfl, hb⟩
    split at h
    next hk =>
      obtain ⟨d, rfl, hb⟩ := (readCheckAnswer_eq_some_iff bs p).1 h
      exact ⟨hk.symm, rfl, hb⟩
    split at h
    next hk =>
      obtain ⟨d, rfl, hb⟩ := (readHealth_eq_some_iff bs p).1 h
      exact ⟨hk.symm, rfl, hb⟩
    split at h
    next hk =>
      obtain ⟨d, rfl, hb⟩ := (readBoot_eq_some_iff bs p).1 h
      exact ⟨hk.symm, rfl, hb⟩
    split at h
    next hk =>
      obtain ⟨d, rfl, hb⟩ := (readSetup_eq_some_iff bs p).1 h
      exact ⟨hk.symm, rfl, hb⟩
    split at h
    next hk =>
      obtain ⟨d, rfl, hb⟩ := (readMode_eq_some_iff bs p).1 h
      exact ⟨hk.symm, rfl, hb⟩
    obtain ⟨hk, h⟩ := Option.ite_none_right_eq_some.1 h
    obtain ⟨d, rfl, hb⟩ := (readRejoin_eq_some_iff bs p).1 h
    exact ⟨hk.symm, rfl, hb⟩
  · rintro ⟨rfl, hwf, hb⟩
    cases p with
    | odometry d => exact (readOdometry_eq_some_iff bs _).2 ⟨d, rfl, hb⟩
    | hazard d => exact (readHazard_eq_some_iff bs _).2 ⟨d, rfl, hwf, hb⟩
    | verdict d => exact (readVerdict_eq_some_iff bs _).2 ⟨d, rfl, hb⟩
    | checkRequest d => exact (readCheckRequest_eq_some_iff bs _).2 ⟨d, rfl, hb⟩
    | checkAnswer d => exact (readCheckAnswer_eq_some_iff bs _).2 ⟨d, rfl, hb⟩
    | health d => exact (readHealth_eq_some_iff bs _).2 ⟨d, rfl, hb⟩
    | boot d => exact (readBoot_eq_some_iff bs _).2 ⟨d, rfl, hb⟩
    | setup d => exact (readSetup_eq_some_iff bs _).2 ⟨d, rfl, hb⟩
    | mode v => exact (readMode_eq_some_iff bs _).2 ⟨v, rfl, hb⟩
    | rejoin d => exact (readRejoin_eq_some_iff bs _).2 ⟨d, rfl, hb⟩

/-! ### Head and body -/

/-- Body bytes read back as a frame exactly when they are a well-formed frame's head and payload (R191 to R193). -/
theorem readBody_eq_some_iff (bs : List Byte) (f : Frame) :
    readBody bs = some f ↔ bs = frameBody f ∧ f.payload.wf = true := by
  have hlist (h0 h1 h2 : Byte) (rest : List Byte) : readBody (h0 :: h1 :: h2 :: rest) = some f ↔
      frameBody f = h0 :: h1 :: h2 :: rest ∧ f.payload.wf = true := by
    simp (disch := decide) only [readBody, Option.bind_eq_bind, Option.bind_eq_some_iff, readPayload_eq_some_iff,
      Option.ite_none_right_eq_some, Option.some.injEq, frameBody, headBytes, List.cons_append, List.nil_append,
      List.cons.injEq, append_eq_iff, extractLsb'_of_field, ofBool_eq_extractLsb'_iff, Nat.reduceAdd]
    constructor
    · rintro ⟨p, ⟨hk, hwf, hb⟩, ⟨h6, hlen⟩, rfl⟩
      refine ⟨⟨⟨⟨hk, BitVec.ofNat_toNat 3 _ |>.trans (BitVec.setWidth_eq _)⟩, rfl⟩, rfl,
        ⟨⟨h6.symm, (roleOf_eq_iff _ _).1 rfl⟩, ?_⟩, hb⟩, hwf⟩
      rw [hb, ← hlen]
      exact (BitVec.ofNat_toNat 4 _).trans (BitVec.setWidth_eq _)
    · rintro ⟨⟨⟨⟨hk, hsrc⟩, hurgent⟩, hseq, ⟨⟨h6, hrole⟩, hlen⟩, hb⟩, hwf⟩
      have hshort := Sys2Proof.Laws.payloadBytes_length f.payload
      refine ⟨f.payload, ⟨hk, hwf, hb⟩, ⟨h6.symm, ?_⟩, ?_⟩
      · rw [← hlen, BitVec.toNat_ofNat, hb]
        rw [hb] at hshort
        exact Nat.mod_eq_of_lt (by omega)
      · have hpos : (h0.extractLsb' 1 3).toFin = f.head.src := by
          rw [← hsrc]
          exact Fin.ext (Nat.mod_eq_of_lt f.head.src.isLt)
        rw [hpos, ← hurgent, ← hseq, (roleOf_eq_iff _ _).2 hrole]
  rw [eq_comm (a := bs)]
  constructor
  · intro h
    unfold readBody at h
    split at h
    next => exact (hlist _ _ _ _).1 h
    next => cases h
  · rintro ⟨rfl, hwf⟩
    exact (hlist _ _ _ _).2 ⟨rfl, hwf⟩

/-! ### The receive checks -/

/-- The checks take body and CRC apart (R173). -/
theorem checkFrame_append (body : List Byte) (crc : Half) : checkFrame (body ++ halfBytes crc) =
    if crc ≠ crc16 body then .crcError
    else match readBody body with
      | none => .malformed
      | some f => .good f := by
  have hn : (body ++ halfBytes crc).length - 2 = body.length := by simp [halfBytes]
  have hcrc : halfBytes (crc16 body) ≠ halfBytes crc ↔ crc ≠ crc16 body :=
    not_congr ⟨fun h => (halfBytes_injective h).symm, fun h => by rw [h]⟩
  simp only [checkFrame, hn, List.take_left, List.drop_left, hcrc] <;> rfl

/-- Settles O14: the receive checks read back what a transmitter sends. -/
theorem frameBytesReadBack : Obligations.FrameBytesReadBack := by
  intro f hwf
  rw [frameBytes, checkFrame_append, if_neg (not_not.2 rfl), (readBody_eq_some_iff _ f).2 ⟨rfl, hwf⟩]

/-- Bytes that pass are those of a well-formed frame (R191 to R193). -/
theorem checkFrame_eq_good_iff (bytes : List Byte) (f : Frame) :
    checkFrame bytes = .good f ↔ bytes = frameBytes f ∧ f.payload.wf = true := by
  constructor
  · intro h
    unfold checkFrame at h
    dsimp only at h
    split at h
    next => cases h
    next hcrc =>
      split at h
      next => cases h
      next g hg =>
        obtain rfl := RxCheck.good.inj h
        obtain ⟨hbody, hwf⟩ := (readBody_eq_some_iff _ g).1 hg
        refine ⟨?_, hwf⟩
        rw [not_not] at hcrc
        rw [frameBytes, ← hbody, hcrc, List.take_append_drop]
  · rintro ⟨rfl, hwf⟩
    exact frameBytesReadBack f hwf

/-- A frame's head bytes hold zeros in the reserved bits, a kind number and the payload's length (R191). -/
theorem frameBody_head (f : Frame) {h0 h1 h2 : Byte} {rest : List Byte} (h : frameBody f = h0 :: h1 :: h2 :: rest) :
    h2.extractLsb' 6 2 = 0#2 ∧ h0.extractLsb' 4 4 ≠ 0#4 ∧ (h0.extractLsb' 4 4).toNat ≤ 10 ∧
    (h2.extractLsb' 0 4).toNat = rest.length := by
  simp (disch := decide) only [frameBody, headBytes, List.cons_append, List.nil_append, List.cons.injEq,
    append_eq_iff, extractLsb'_of_field, Nat.reduceAdd] at h
  obtain ⟨⟨⟨hkind, -⟩, -⟩, -, ⟨⟨h6, -⟩, hlen⟩, hb⟩ := h
  have hshort := Sys2Proof.Laws.payloadBytes_length f.payload
  have hcode : kindCode f.payload ≠ 0#4 ∧ (kindCode f.payload).toNat ≤ 10 := by
    cases f.payload <;> simp [kindCode]
  refine ⟨h6.symm, hkind ▸ hcode.1, hkind ▸ hcode.2, ?_⟩
  rw [hb] at hlen hshort
  rw [← hlen, BitVec.toNat_ofNat]
  exact Nat.mod_eq_of_lt (by omega)

/-- Settles O15: the CRC comes first, then the head fields, and what passes is a well-formed frame. -/
theorem receiveChecksInOrder : Obligations.ReceiveChecksInOrder := by
  refine ⟨fun h0 h1 h2 rest crc => ⟨fun hcrc => ?_, fun hcrc hhead => ?_⟩, fun bytes f h =>
    (checkFrame_eq_good_iff bytes f).1 h⟩
  · rw [checkFrame_append, if_pos hcrc]
  · rw [checkFrame_append, if_neg (not_not.2 hcrc)]
    cases hread : readBody (h0 :: h1 :: h2 :: rest) with
    | none => rfl
    | some f =>
      obtain ⟨hbody, -⟩ := (readBody_eq_some_iff _ f).1 hread
      obtain ⟨h6, hkind, hten, hlen⟩ := frameBody_head f hbody.symm
      obtain h | h | h | h := hhead
      · exact absurd h6 h
      · exact absurd h hkind
      · omega
      · exact absurd hlen h

end Sys2Proof.Machine
end

section
/-! PROOFS. Age ticks (R69, R70, R96) and the outcomes of reconciliation (R88 to R92). -/

namespace Sys2Proof.Machine

open Sys2Proof

/-! ### The table's fields -/

@[simp] theorem State.setRecords_table (s : State) (rs : List Record) :
    (s.setRecords rs).table = { s.table with records := rs } := rfl

@[simp] theorem State.takeWork_table_full (s : State) : s.takeWork.table.full = s.table.full := by
  unfold State.takeWork
  dsimp only
  (repeat' split) <;> rfl

@[simp] theorem State.takeWork_table_ageTimer (s : State) : s.takeWork.table.ageTimer = s.table.ageTimer := by
  unfold State.takeWork
  dsimp only
  (repeat' split) <;> rfl

@[simp] theorem State.takeWork_table_good (s : State) : s.takeWork.table.good = s.table.good := by
  unfold State.takeWork
  dsimp only
  (repeat' split) <;> rfl

@[simp] theorem State.kick_table_full (s : State) : s.kick.table.full = s.table.full := by
  unfold State.kick
  split <;> simp

@[simp] theorem State.kick_table_ageTimer (s : State) : s.kick.table.ageTimer = s.table.ageTimer := by
  unfold State.kick
  split <;> simp

@[simp] theorem State.kick_table_good (s : State) : s.kick.table.good = s.table.good := by
  unfold State.kick
  split <;> simp

theorem State.notify_onlyVerdictsAdded (s b : State) (always : Bool) : OnlyVerdictsAdded s (s.notify b always) := by
  intro x hx
  unfold State.notify at hx
  split at hx
  · exact s.recompute_onlyVerdictsAdded x hx
  · exact .inr hx

/-! ### Age ticks -/

/-- What an application of age ticks makes of one record (R70). -/
def Record.aged (h : ReportHandler) (n : Nat) (r : Record) : Option Record :=
  if ((r.older n).correctCheck h).isExpired then none else some ((r.older n).correctCheck h)

theorem ageRecords_eq_filterMap (h : ReportHandler) (n : Nat) (rs : List Record) :
    ageRecords h n rs = rs.filterMap (Record.aged h n) := by
  induction rs with
  | nil => rfl
  | cons r rs ih =>
    rw [ageRecords, List.map_cons, List.filter_cons, List.filterMap_cons, Record.aged, ← ih]
    by_cases hx : ((r.older n).correctCheck h).isExpired = true
    · rw [if_neg (by simp [hx]), if_pos hx]
      rfl
    · rw [if_pos (by simpa using hx), if_neg hx]
      rfl

/-- The check that age ticks leave (R70 step 2). -/
theorem Record.correctCheck_older (h : ReportHandler) (n : Nat) (r : Record) :
    (r.older n).correctCheck h = { r with
      age := min 255 (r.age + n)
      check := if (r.check = some .pending ∧ ¬ (h.phase ≠ .idle ∧ h.outstanding = some r.slot)) ∨
          (r.check = some .deferred ∧ h.deferred ≠ some r.slot) then some .none else r.check } := by
  have hchecking : h.isChecking = true ↔ h.phase ≠ .idle := by simp [ReportHandler.isChecking]
  simp only [Record.correctCheck, hchecking]
  by_cases hbad : (r.check = some .pending ∧ ¬ (h.phase ≠ .idle ∧ h.outstanding = some r.slot)) ∨
      (r.check = some .deferred ∧ h.deferred ≠ some r.slot)
  · rw [if_pos hbad]
    exact (if_pos hbad).trans rfl
  · rw [if_neg hbad]
    exact (if_neg hbad).trans rfl

/-- The retirement conditions (R70 step 3). -/
theorem Record.isExpired_iff (r : Record) : r.isExpired = true ↔
    r.check ≠ some .pending ∧ r.check ≠ some .deferred ∧
      ((r.conf < 8 ∧ 8 ≤ r.age) ∨ (8 ≤ r.conf ∧ r.kind.isDock = false ∧ 120 ≤ r.age) ∨
        (8 ≤ r.conf ∧ r.kind.isDock = true ∧ 250 ≤ r.age) ∨ 1500 < max r.x.natAbs r.y.natAbs) := by
  have hconf : r.confirmed = true ↔ 8 ≤ r.conf := r.confirmed_iff
  simp only [Record.isExpired, Record.checking, Bool.and_eq_true, Bool.or_eq_true, Bool.not_eq_true',
    decide_eq_true_eq, or_assoc, hconf, ← Bool.not_eq_true,
    Nat.not_le, not_or, and_assoc]
  rfl

theorem Record.slot_of_aged {h : ReportHandler} {n : Nat} {r q : Record} (hq : r.aged h n = some q) :
    q.slot = r.slot := by
  unfold Record.aged at hq
  have hslot := congrArg Record.slot (Record.correctCheck_older h n r)
  split at hq
  next => cases hq
  next =>
    rw [← Option.some.inj hq]
    exact hslot

/-! ### Reconciliation -/

/-- The entries up to the first of a to_tag. -/
theorem ringUpTo_eq_some_iff (τ : Seq) (ring path : List RingEntry) : ringUpTo τ ring = some path ↔
    (∃ after, ring = path ++ after) ∧ (∃ e ∈ path.getLast?, e.toTag = τ) ∧ ∀ e ∈ path.dropLast, e.toTag ≠ τ := by
  induction ring generalizing path with
  | nil =>
    simp only [ringUpTo, reduceCtorEq, false_iff]
    rintro ⟨⟨after, hafter⟩, ⟨e, he, -⟩, -⟩
    obtain ⟨rfl, -⟩ := List.append_eq_nil_iff.1 hafter.symm
    simp at he
  | cons a ring ih =>
    cases path with
    | nil =>
      rw [ringUpTo]
      split <;> simp
    | cons b path =>
      by_cases ha : a.toTag = τ
      · rw [ringUpTo, if_pos ha]
        constructor
        · rintro h
          cases h
          exact ⟨⟨ring, rfl⟩, ⟨a, by simp, ha⟩, by simp⟩
        · rintro ⟨⟨after, hafter⟩, -, hdrop⟩
          obtain ⟨rfl, -⟩ := List.cons.inj hafter
          cases path with
          | nil => rfl
          | cons c path => exact absurd ha (hdrop a (by simp))
      · rw [ringUpTo, if_neg ha, Option.map_eq_some_iff]
        constructor
        · rintro ⟨q, hq, hp⟩
          obtain ⟨rfl, rfl⟩ := List.cons.inj hp
          obtain ⟨⟨after, rfl⟩, ⟨e, he, hτ⟩, hdrop⟩ := (ih q).1 hq
          have hne : q ≠ [] := by rintro rfl; simp at he
          refine ⟨⟨after, rfl⟩, ⟨e, by rw [List.getLast?_cons_of_ne_nil hne]; exact he, hτ⟩, ?_⟩
          rw [List.dropLast_cons_of_ne_nil hne]
          simpa [ha] using hdrop
        · rintro ⟨⟨after, hafter⟩, ⟨e, he, hτ⟩, hdrop⟩
          obtain ⟨rfl, rfl⟩ := List.cons.inj hafter
          have hne : path ≠ [] := by
            rintro rfl
            have : a = e := by simpa using he
            exact ha (this ▸ hτ)
          rw [List.dropLast_cons_of_ne_nil hne] at hdrop
          rw [List.getLast?_cons_of_ne_nil hne] at he
          exact ⟨path, (ih path).2 ⟨⟨after, rfl⟩, ⟨e, he, hτ⟩, fun x hx => hdrop x (List.mem_cons_of_mem _ hx)⟩, rfl⟩

/-- The path of a chained point (R90). -/
theorem chainPath_eq_some_iff (t τ : Seq) (ring path : List RingEntry) :
    chainPath t τ ring = some path ↔ ChainPath ring t τ path := by
  unfold chainPath ChainPath
  rw [Option.filter_eq_some_iff, ringUpTo_eq_some_iff]
  constructor
  · rintro ⟨⟨⟨after, hafter⟩, hlast, hdrop⟩, hmotions⟩
    have hne : path ≠ [] := by rintro rfl; simp at hlast
    have hhead : ∃ e ∈ path.head?, e.fromTag = t := by
      obtain ⟨b, rest, rfl⟩ := List.exists_cons_of_ne_nil hne
      have hdw : ring.dropWhile (fun e => e.fromTag ≠ t) ≠ [] := by
        rw [← ringFrom, hafter]
        simp
      have hfirst := List.head_dropWhile_not (fun e : RingEntry => decide (e.fromTag ≠ t)) hdw
      have hb : (ring.dropWhile fun e => e.fromTag ≠ t).head hdw = b :=
        Option.some.inj ((List.head?_eq_some_head hdw).symm.trans (by rw [← ringFrom, hafter]; rfl))
      rw [hb] at hfirst
      exact ⟨b, rfl, by simpa using hfirst⟩
    refine ⟨⟨ring.takeWhile fun e => e.fromTag ≠ t, after, ?_, fun e he => by simpa using List.mem_takeWhile_imp he⟩,
      hhead, hlast, hdrop, by simpa using hmotions⟩
    rw [List.append_assoc, ← hafter]
    exact List.takeWhile_append_dropWhile.symm
  · rintro ⟨⟨before, after, rfl, hbefore⟩, ⟨b, hb, hbt⟩, hlast, hdrop, hmotions⟩
    obtain ⟨rest, rfl⟩ := List.head?_eq_some_iff.1 hb
    refine ⟨⟨⟨after, ?_⟩, hlast, hdrop⟩, by simpa using hmotions⟩
    rw [ringFrom, List.append_assoc, List.dropWhile_append_of_pos (by simpa using hbefore), List.cons_append,
      List.dropWhile_cons_of_neg (by simpa using hbt)]

/-- Settles O39: the cases of reconciliation in their order. -/
theorem reconciliationTakesItsOrder : Obligations.ReconciliationTakesItsOrder := by
  intro s
  have hasIs (c : Nat) : Recon.asIs.lower c = c := by simp [Recon.lower]
  refine ⟨rfl, fun t h => ?_, fun x y => rfl, hasIs, fun t τ hτ hlost hne => ⟨fun path hpath => ?_, fun hno => ?_⟩,
    fun c hc => ?_⟩
  · unfold State.reconcile
    cases hτ : s.table.tag with
    | none => rfl
    | some τ =>
      rw [hτ] at h
      refine if_pos ?_
      obtain h | h | h := h
      · cases h
      · exact .inl h
      · exact .inr (Option.some.inj h).symm
  · have hchain : s.reconcile (some t) = .chained path := by
      simp [State.reconcile, hτ, hlost, hne, (chainPath_eq_some_iff _ _ _ _).2 hpath]
    refine ⟨hchain, fun x y => ?_⟩
    rw [hchain]
    rfl
  · have hnone : chainPath t τ s.odo.ring = none :=
      Option.eq_none_iff_forall_ne_some.2 fun path h => hno path ((chainPath_eq_some_iff _ _ _ _).1 h)
    have hcase : s.reconcile (some t) =
        if 1 ≤ (t - τ).toNat ∧ (t - τ).toNat ≤ 8 then .ahead else .failed := by
      simp only [State.reconcile, hτ, hlost, hne, or_self, if_false, hnone]
      rfl
    refine ⟨fun x y => ?_, hcase⟩
    rw [hcase]
    split <;> rfl
  · unfold Recon.lower
    split
    next h => omega
    next h =>
      have : ¬ 1 < c := fun hlt => h ⟨rfl, hlt⟩
      omega

/-! ### The commands of the age timer -/

/-- AGE_TICKS_APPLIED in RUN (R70). -/
theorem State.ageTicksApplied_of_aging {s : State} {n : Nat} (hrun : s.running = true) (hwork : s.table.work = .aging n) :
    s.ageTicksApplied = ((((s.setRecords (sortRecords (ageRecords s.report n s.table.records))).setReport
      (s.report.older n)).notify s ((ageRecords s.report n s.table.records).length ≠ s.table.records.length))).takeWork := by
  simp only [State.ageTicksApplied, hwork, hrun, if_true]

/-- What a slot shows after an application of age ticks (R70). -/
theorem Record.aged_eq (h : ReportHandler) (n : Nat) (r : Record) : r.aged h n =
    let age := min 255 (r.age + n)
    let check :=
      if (r.check = some .pending ∧ ¬ (h.phase ≠ .idle ∧ h.outstanding = some r.slot)) ∨
          (r.check = some .deferred ∧ h.deferred ≠ some r.slot) then some .none
      else r.check
    if check ≠ some .pending ∧ check ≠ some .deferred ∧
        ((r.conf < 8 ∧ 8 ≤ age) ∨ (8 ≤ r.conf ∧ r.kind.isDock = false ∧ 120 ≤ age) ∨
          (8 ≤ r.conf ∧ r.kind.isDock = true ∧ 250 ≤ age) ∨ 1500 < max r.x.natAbs r.y.natAbs) then none
    else some { r with age := age, check := check } := by
  simp only [Record.aged, Record.isExpired_iff, Record.correctCheck_older]

/-- AGE_TIMER_EXPIRY in RUN (R69). -/
theorem State.ageTimerExpiry_completes {s : State} (hrun : s.running = true) (htimer : s.table.ageTimer.isSome) :
    Completes .ageTimerExpiry s fun t =>
      t.table.full = false ∧ t.table.ageTimer = some 100000 ∧ t.table.records = s.table.records ∧
      (s.table.work ≠ .idle → t.table.work = s.table.work ∧ t.table.pendingAge = min 255 (s.table.pendingAge + 1)) ∧
      (s.table.work = .idle → s.table.carryFlag = false → s.table.pendingAge = 0 →
        t.table.work = .aging 1 ∧ t.table.pendingAge = 0 ∧
        t.table.workTimer = some (2 + s.table.records.length)) ∧
      UnchangedBut [.table, .link, .clear, .startup] s t := by
  let u := s.setTable { s.table with
    ageTimer := some ageTick, full := false, pendingAge := min maxAge (s.table.pendingAge + 1) }
  have hend : s.ageTimerExpiry = u.kick.notify s false := by
    simp only [State.ageTimerExpiry, hrun, htimer]
    rfl
  refine ⟨_, congrArg Host.Outcome.next hend, ?_⟩
  refine ⟨by simp [u], by simp [u, ageTick, ms], by simp [u], fun hbusy => ?_, fun hidle hflag hage => ?_, fun b hb => ?_⟩
  · rw [State.kick_of_busy u hbusy, State.notify_table]
    exact ⟨rfl, rfl⟩
  · have htake : u.kick = u.setTable { u.table with
        pendingAge := 0, work := .aging 1, workTimer := some (2 + s.table.records.length) } := by
      rw [State.kick_of_idle u hrun hidle]
      simp [State.takeWork, u, hflag, hage, maxAge, serviceTime]
    rw [State.notify_table, htake]
    exact ⟨rfl, rfl, rfl⟩
  · cases b <;> simp [Block.same, u] at hb ⊢

/-- Settles O38: the ticks gathered, and what each slot shows once they take effect. -/
theorem ageTicksAreApplied : Obligations.AgeTicksAreApplied := by
  refine fun s hrun => ⟨State.ageTimerExpiry_completes hrun, fun n hwork hok => ?_⟩
  obtain ⟨-, ⟨hslots, -⟩, -⟩ := hok
  have hend := State.ageTicksApplied_of_aging hrun hwork
  have hkeep (r q : Record) (hq : r.aged s.report n = some q) : q.slot = r.slot := Record.slot_of_aged hq
  have hrecords : s.ageTicksApplied.table.records =
      sortRecords (s.table.records.filterMap (Record.aged s.report n)) := by
    rw [hend, ← ageRecords_eq_filterMap]
    simp
  refine ⟨_, rfl, fun i => ?_, fun i => ?_, ?_, ?_, ?_, ?_, fun x hx => ?_, fun b hb => ?_⟩
  · unfold State.at
    rw [hrecords, recordAt_sortRecords (nodup_slots_filterMap hkeep hslots), recordAt_filterMap hkeep hslots]
    cases hr : recordAt s.table.records i with
    | none => rfl
    | some r =>
      obtain ⟨-, rfl⟩ := (recordAt_eq_some_iff hslots i r).1 hr
      exact r.aged_eq s.report n
  · rw [hend]
    simp [ReportHandler.older, maxAge]
  · rw [hend]
    simp [ReportHandler.older]
  · rw [hend]
    simp
  · rw [TableManager.Ordered, hrecords]
    exact sortRecords_pairwise _
  · rw [hend]
    exact (State.takeWork_workTaken _).of_waiting_eq (by simp) (by simp) (by simp)
  · rw [hend, State.takeWork_link_queue] at hx
    have hadded := State.notify_onlyVerdictsAdded _ _ _ x hx
    exact hadded
  · cases b <;> simp [Block.same] at hb ⊢

end Sys2Proof.Machine
end

section
/-! PROOFS. The changes that every step is made of, as far as the table, the request FIFO, the Table Manager's work and the
Report Handler's check go (R50 to R53, R98 to R109): a property that each of them keeps, every step keeps. -/

namespace Sys2Proof.Machine

open Sys2Proof

/-! ### What a property of the table and the check reads -/

/-- The Report Handler's check, whatever time it has left. -/
def ReportHandler.course (r : ReportHandler) :
    Phase × Option Slot × Option (BitVec 4) × List Pos × List AnswerSoFar × Bool × Option Slot :=
  (r.phase, r.outstanding, r.checkId, r.awaited, r.answers, r.checkTimer.isSome, r.deferred)

/-- Two states hold the same records, slots, items and work, the same check, and are both in RUN or both not. -/
def SameTable (s t : State) : Prop :=
  t.table.records = s.table.records ∧ t.table.good = s.table.good ∧ t.table.fifo = s.table.fifo ∧
  t.table.work = s.table.work ∧ t.report.course = s.report.course ∧ t.running = s.running

/-- The table, the FIFO and the check are empty, as a hard reset, FAULT, a rejoin order and RUN entry leave them (R75,
R114). -/
def State.TableEmpty (s : State) : Prop :=
  s.table.records = [] ∧ s.table.fifo = [] ∧ s.table.work = .idle ∧ s.report.AtRest

/-- An item that an own observation or a received frame makes: no outcome, and a four-bit confidence (R52, R97). -/
def Item.Arrives (i : Item) : Prop := i.ConfOk ∧ i.isOutcome = false

/-- A property that the changes of the table, of the FIFO and of the check keep. -/
structure TableKept (P : State → Prop) : Prop where
  same : ∀ {s t}, P s → SameTable s t → P t
  empty : ∀ s : State, s.TableEmpty → P s
  /-- The slots are tested while the node is in self-test. -/
  good : ∀ s g, s.running = false → P s → P (s.setTable { s.table with good := g })
  push : ∀ s i, s.running = true → i.Arrives → P s → P (s.pushItem i)
  kick : ∀ s, P s → P s.kick
  answer : ∀ s A B, s.report.phase = .awaiting → A ≠ [] → P s →
    P (s.setReport { s.report with awaited := A, answers := B })
  resolve : ∀ s A B, s.report.phase = .awaiting → P s →
    P (s.setReport { s.report with awaited := A, answers := B }).resolveCheck
  carryEnd : ∀ s, P s → P s.carryEnd
  ageTicksApplied : ∀ s, P s → P s.ageTicksApplied
  serveOwnObservation : ∀ s, P s → P s.serveOwnObservation
  serveOwnCliff : ∀ s, P s → P s.serveOwnCliff
  serveFloorEvidence : ∀ s, P s → P s.serveFloorEvidence
  serveWallClear : ∀ s, P s → P s.serveWallClear
  servePeerAdd : ∀ s, P s → P s.servePeerAdd
  servePeerUpdate : ∀ s, P s → P s.servePeerUpdate
  servePeerWithdraw : ∀ s, P s → P s.servePeerWithdraw
  serveCheckOutcome : ∀ s, P s → P s.serveCheckOutcome
  serveLookup : ∀ s, P s → P s.serveLookup

theorem SameTable.of_blocks {s t : State} (htable : t.table = s.table) (hreport : t.report = s.report)
    (hrun : t.running = s.running) : SameTable s t := by
  simp [SameTable, htable, hreport, hrun]

/-- The blocks' own work leaves RUN as it is. -/
theorem runningKept (b : Bool) : Kept fun s => s.running = b where
  reads s t _ _ hnode _ h := by rw [State.running, hnode]; exact h
  count _ _ _ h := h
  enqueue _ _ _ h := by rw [State.enqueue_running]; exact h
  handling _ _ _ h := h
  recompute _ h := by rw [State.recompute_running]; exact h

theorem State.enterStep_running (s : State) (k : TestStep) : (s.enterStep k).running = false := by
  unfold State.enterStep State.formBoot
  rw [State.enqueue_running]
  simp [State.running]

theorem State.enterAwait_running (s : State) : s.enterAwait.running = false := by
  unfold State.enterAwait State.formPendingBoot State.formBoot
  rw [State.enqueue_running]
  simp [State.running]

theorem State.formPendingBoot_running (s : State) (c : ProgressCode) : (s.formPendingBoot c).running = s.running := by
  unfold State.formPendingBoot State.formBoot
  rw [State.enqueue_running]
  rfl

theorem State.healthTimerExpiry_running (s : State) : s.healthTimerExpiry.running = s.running := by
  unfold State.healthTimerExpiry
  split
  · unfold State.sendHealth
    dsimp only
    split
    · exact State.enqueue_running _ _ _
    · exact State.enqueue_running _ _ _
  · rfl

theorem State.stopHoldExpiry_running (s : State) : s.stopHoldExpiry.running = s.running := by
  unfold State.stopHoldExpiry
  split
  · split
    · exact State.judgeVerdict_running _
    · rfl
  · rfl

theorem State.stopLineChange_running (s : State) (a : Bool) : (s.stopLineChange a).running = s.running := by
  unfold State.stopLineChange
  dsimp only
  split
  · exact State.notify_running _ _ _
  · rfl

theorem State.ledFlash_running (s : State) : s.ledFlash.running = s.running := by
  have hled : s.startup.ledNext.node = s.startup.node := by
    unfold Startup.ledNext; (repeat' split) <;> rfl
  simp [State.ledFlash, State.running, hled]

theorem State.enterFault_tableEmpty (s : State) (c : FaultCause) : (s.enterFault c).TableEmpty := by
  simp [State.TableEmpty, State.enterFault_eq, State.faulted, TableManager.clear, TableManager.reset,
    ReportHandler.AtRest, ReportHandler.clear, ReportHandler.reset]

theorem State.rejoin_tableEmpty (s : State) : s.rejoin.TableEmpty := by
  simp [State.TableEmpty, State.rejoin_eq, State.rejoined, TableManager.clear, TableManager.reset,
    ReportHandler.AtRest, ReportHandler.clear, ReportHandler.reset]

theorem State.enterRun_tableEmpty (s : State) (v : SetupValues) : (s.enterRun v).TableEmpty := by
  simp [State.TableEmpty, State.enterRun_eq, State.runBlocks, TableManager.clear, TableManager.reset,
    ReportHandler.AtRest, ReportHandler.clear, ReportHandler.reset]

theorem State.hardReset_tableEmpty (s : State) : s.hardReset.TableEmpty := ⟨rfl, rfl, rfl, rfl, rfl, rfl, rfl, rfl, rfl, rfl⟩

section
variable {P : State → Prop} (hP : TableKept P)
include hP

/-- A command that leaves the table, the check and the node's running alone. -/
theorem TableKept.aside {s t : State} (h : P s) (htable : t.table = s.table) (hreport : t.report = s.report)
    (hrun : t.running = s.running) : P t := hP.same h (.of_blocks htable hreport hrun)

theorem TableKept.notify {s : State} (h : P s) (b : State) (w : Bool) : P (s.notify b w) :=
  hP.aside h (by simp) (by simp) (by simp)

theorem TableKept.handing {s : State} {f : State → State} (h : P (f s)) : P (s.handing f) := hP.notify h s false

theorem TableKept.recompute {s : State} (h : P s) : P s.recompute := hP.aside h (by simp) (by simp) (by simp)

/-! The observations. -/

theorem TableKept.observe {s : State} (h : P s) (hr : s.running = true) {i : Item} (hi : i.Arrives) :
    P (s.observe i) := hP.kick _ (hP.push s i hr hi h)

theorem TableKept.observeOpt {s : State} (h : P s) (hr : s.running = true) {i : Option Item}
    (hi : ∀ x ∈ i, x.Arrives) : P (s.observeOpt i) := by
  cases i with
  | none => exact h
  | some i => exact hP.observe h hr (hi i rfl)

omit hP in
theorem floorItem_arrives {v : SetupValues} {c : FloorClass} {tag : Option Seq} {i : Item}
    (h : floorItem v c tag = some i) : i.Arrives := by
  cases c <;> simp only [floorItem, Option.some.injEq, reduceCtorEq] at h <;> subst h <;> exact ⟨trivial, rfl⟩

omit hP in
theorem wallItem_arrives {v : SetupValues} {w : WallSample} {tag : Option Seq} {i : Item}
    (h : wallItem v tag w = some i) : i.Arrives := by
  cases w <;> simp only [wallItem, Option.some.injEq, reduceCtorEq] at h <;> subst h <;> exact ⟨trivial, rfl⟩

theorem TableKept.floorResult {s : State} (h : P s) (hr : s.running = true) (a l : BitVec 10) :
    P (s.floorResult a l) := by
  unfold State.floorResult
  split
  · exact hP.aside h (by simp) (by simp) (by simp)
  · refine hP.observeOpt (hP.aside h (by simp) (by simp) (by simp)) (by simpa using hr) fun x hx => ?_
    obtain ⟨c, -, hc⟩ := Option.bind_eq_some_iff.1 hx
    exact floorItem_arrives hc

theorem TableKept.floorBurstEnd {s : State} (h : P s) (a l : BitVec 10) : P (s.floorBurstEnd a l) := by
  unfold State.floorBurstEnd
  split
  next hr =>
    refine hP.notify (hP.aside (hP.floorResult h ?_ a l) (by simp) (by simp) ?_) _ _
    · simp_all
    · simp [State.running]
  · exact h

theorem TableKept.wallResult {s : State} (h : P s) (hr : s.running = true) (a l : BitVec 10) :
    P (s.wallResult a l) := by
  unfold State.wallResult
  split
  · exact hP.aside h (by simp) (by simp) (by simp)
  · exact hP.observeOpt (hP.aside h (by simp) (by simp) (by simp)) (by simpa using hr) fun _ hx => wallItem_arrives hx

theorem TableKept.wallBurstEnd {s : State} (h : P s) (a l : BitVec 10) : P (s.wallBurstEnd a l) := by
  unfold State.wallBurstEnd
  split
  next hr =>
    refine hP.notify (hP.aside (hP.wallResult h ?_ a l) (by simp) (by simp) ?_) _ _
    · simp_all
    · simp [State.running]
  · exact h

theorem TableKept.bumpChange {s : State} (h : P s) (a : Bool) : P (s.bumpChange a) := by
  have hpin : P (s.setPins { s.pins with bump := a }) := hP.aside h (by simp) (by simp) (by simp)
  unfold State.bumpChange
  dsimp only
  split
  next hr =>
    refine hP.notify ?_ _ _
    have hbump := fun v => hP.aside (t := (s.setPins { s.pins with bump := a }).setBump v) hpin (by simp) (by simp)
      (by simp)
    split
    · exact hP.observe (hbump _) (by simp_all) ⟨trivial, rfl⟩
    · exact hbump _
  · exact hpin

theorem TableKept.sightingWindowExpiry {s : State} (h : P s) : P s.sightingWindowExpiry := by
  unfold State.sightingWindowExpiry; split
  next hr => exact hP.observe (hP.aside h (by simp) (by simp) (by simp)) (by simp_all) ⟨trivial, rfl⟩
  · exact h

/-! The carry flag and the age ticks. -/

theorem TableKept.raiseCarry {s : State} (h : P s) : P s.raiseCarry :=
  hP.kick _ (hP.same h ⟨rfl, rfl, rfl, rfl, rfl, rfl⟩)

theorem TableKept.takeOdometry {s : State} (h : P s) (src : Pos) (seq : Seq) (l r : Half) (b : Bool) :
    P (s.takeOdometry src seq l r b) := by
  unfold State.takeOdometry
  split
  · refine hP.recompute (hP.raiseCarry ?_)
    split
    · exact hP.aside h (by simp) (by simp) rfl
    · exact hP.aside h (by simp) (by simp) (by simp)
  · exact hP.handing (hP.aside h (by simp) (by simp) (by simp))

theorem TableKept.odometryBlock {s : State} (h : P s) (hd : Head) (d : OdometryData) : P (s.odometryBlock hd d) := by
  unfold State.odometryBlock; split
  · exact hP.takeOdometry h _ _ _ _ _
  · exact h

theorem TableKept.ownCompletion {s : State} (h : P s) (e : TxEntry) : P (s.ownCompletion e) := by
  unfold State.ownCompletion
  split
  · unfold State.ownOdometry
    dsimp only
    split
    · exact hP.takeOdometry (hP.aside h (by simp) (by simp) (by simp)) _ _ _ _ _
    · exact hP.aside h (by simp) (by simp) (by simp)
  · exact h

theorem TableKept.ageTimerExpiry {s : State} (h : P s) : P s.ageTimerExpiry := by
  unfold State.ageTimerExpiry
  dsimp only
  split
  · have hgathered : P (s.setTable { s.table with
        ageTimer := some ageTick, full := false, pendingAge := min maxAge (s.table.pendingAge + 1) }) :=
      hP.same h ⟨rfl, rfl, rfl, rfl, rfl, rfl⟩
    exact hP.notify (hP.kick _ hgathered) s false
  · exact h

/-! The Report Handler's check. -/

theorem TableKept.answerBlock {s : State} (h : P s) (hd : Head) (d : CheckAnswerData) : P (s.answerBlock hd d) := by
  unfold State.answerBlock
  split
  · exact h
  · exact hP.aside h (by simp) (by simp) (by simp)
  next hrec =>
    have haw : s.report.phase = .awaiting := by
      revert hrec
      simp only [State.answerCase]
      split
      · simp
      · split
        next hc => intro _; simp_all
        · simp
    dsimp only
    split
    · exact hP.kick _ (hP.resolve s _ _ haw h)
    next hne => exact hP.answer s _ _ haw hne h

theorem TableKept.reportLostNotice {s : State} (h : P s) (p : Pos) : P (s.reportLostNotice p) := by
  unfold State.reportLostNotice
  split
  next hc =>
    have haw : s.report.phase = .awaiting := by simp_all
    dsimp only
    split
    · exact hP.resolve s _ s.report.answers haw h
    next hne => exact hP.answer s _ s.report.answers haw hne h
  · exact h

theorem TableKept.checkTimeout {s : State} (h : P s) : P s.checkTimeout := by
  unfold State.checkTimeout; split
  next hc =>
    have haw : s.report.phase = .awaiting := by simp_all
    exact hP.kick _ (hP.resolve s s.report.awaited s.report.answers haw h)
  · exact h

theorem TableKept.peerLost {s : State} (h : P s) (p : Pos) : P (s.peerLost p) := by
  unfold State.peerLost
  dsimp only
  split
  · have hk := runningKept s.running
    have hpeers (v : PeerMonitor) : (s.setPeers v).running = s.running := rfl
    refine hP.kick _ (hP.reportLostNotice (hP.aside h (by simp) (by simp) ?_) p)
    exact hk.handing (hk.odoLostNotice (hk.handing (hk.judgeMissing (hpeers _))) p)
  · exact h

/-! Self-test, FAULT, setup and the rejoin order. -/

theorem TableKept.quiet {s t : State} (h : P s) (hs : s.running = false) (ht : t.running = false)
    (htable : t.table = s.table) (hreport : t.report = s.report) : P t :=
  hP.aside h htable hreport (ht.trans hs.symm)

theorem TableKept.enterFault (s : State) (c : FaultCause) : P (s.enterFault c) := hP.empty _ (s.enterFault_tableEmpty c)

theorem TableKept.strapSample {s : State} (h : P s) (a b c d : Bool) : P (s.strapSample a b c d) := by
  refine hP.aside h (by simp) (by simp) ?_
  unfold State.strapSample
  split
  next hn =>
    have hrun : s.running = false := by obtain hn | hn := hn <;> simp [State.running, hn]
    rw [hrun]
    exact State.enterStep_running _ _
  · rfl

theorem TableKept.tableSlotTest {s : State} (h : P s) (g : BitVec 24) : P (s.tableSlotTest g) := by
  unfold State.tableSlotTest
  split
  next hin =>
    have hrun := State.running_of_inStep hin
    dsimp only
    split
    · exact hP.quiet (hP.good s g hrun h) (by simpa using hrun) (State.enterStep_running _ _) (by simp) (by simp)
    · exact hP.enterFault _ _
  · exact h

theorem TableKept.crcSelfTest {s : State} (h : P s) (r : Half) : P (s.crcSelfTest r) := by
  unfold State.crcSelfTest
  split
  next hin =>
    split
    · exact hP.quiet h (State.running_of_inStep hin) (State.enterStep_running _ _) (by simp) (by simp)
    · exact hP.enterFault _ _
  · exact h

theorem TableKept.loopbackTimeout {s : State} (h : P s) : P s.loopbackTimeout := by
  unfold State.loopbackTimeout; split
  · exact hP.enterFault _ _
  · exact h

theorem TableKept.reportLoopback {s : State} (h : P s) (e : TxEntry) (c : Bool) : P (s.reportLoopback e c) := by
  unfold State.reportLoopback State.loopbackResult
  split
  · split
    next hin =>
      split
      · exact hP.quiet h (State.running_of_inStep hin) (State.enterStep_running _ _) (by simp) (by simp)
      · exact hP.enterFault _ _
    · exact h
  · exact h

theorem TableKept.floorEmitterTest {s : State} (h : P s) (d : Drive) : P (s.floorEmitterTest d) := by
  unfold State.floorEmitterTest
  split
  next hin =>
    dsimp only
    split
    · exact hP.quiet h (State.running_of_inStep hin) (State.enterStep_running _ _) (by simp) (by simp)
    · exact hP.enterFault _ _
  · exact h

theorem TableKept.wallEmitterTest {s : State} (h : P s) (d : Drive) : P (s.wallEmitterTest d) := by
  unfold State.wallEmitterTest; split
  next hin =>
    exact hP.quiet h (State.running_of_inStep hin) (State.enterAwait_running _) (by simp) (by simp)
  · exact h

theorem TableKept.bootTimerExpiry {s : State} (h : P s) : P s.bootTimerExpiry := by
  have hrun : s.bootTimerExpiry.running = s.running := by
    unfold State.bootTimerExpiry
    split
    · dsimp only
      split
      · exact State.formPendingBoot_running _ _
      · rfl
    · split
      · dsimp only
        split
        · exact State.formPendingBoot_running _ _
        · rfl
      · rfl
  exact hP.aside h (by simp) (by simp) hrun

theorem TableKept.setupBlock {s : State} (h : P s) (hd : Head) (d : SetupData) : P (s.setupBlock hd d) := by
  unfold State.setupBlock
  split
  · exact h
  · split
    · exact hP.aside h (by simp) (by simp) (by simp)
    · unfold State.trySetup
      split
      · exact hP.empty _ (State.enterRun_tableEmpty _ _)
      · refine hP.aside h (by simp) (by simp) ?_
        simp [State.running, Startup.holdPart_node]

theorem TableKept.rejoinBlock {s : State} (h : P s) (hd : Head) (d : Pos) : P (s.rejoinBlock hd d) := by
  unfold State.rejoinBlock
  split
  · exact h
  · split
    · exact hP.aside h (by simp) (by simp) (by simp)
    · split
      · exact hP.empty _ s.rejoin_tableEmpty
      · exact hP.aside h (by simp) (by simp) (by simp)

/-! Reception and transmission. -/

theorem TableKept.kindBlock {s : State} (h : P s) (f : Frame) : P (s.kindBlock f) := by
  unfold State.kindBlock
  split
  · exact hP.odometryBlock h _ _
  · unfold State.hazardBlock
    split
    next d _ hr =>
      refine hP.observe h (by simp_all) ⟨?_, rfl⟩
      have := d.conf.isLt
      simp only [Item.ConfOk, reportItem, maxConf]
      omega
    · exact h
  · exact h
  · unfold State.requestBlock
    split
    next hr => exact hP.observe h (by simp_all) ⟨trivial, rfl⟩
    · exact h
  · exact hP.answerBlock h _ _
  · exact h
  · exact h
  · exact hP.setupBlock h _ _
  · exact hP.aside h (by simp) (by simp) ((runningKept s.running).modeBlock rfl _ _)
  · exact hP.rejoinBlock h _ _

theorem TableKept.handFrame {s : State} (h : P s) (f : Frame) : P (s.handFrame f) := by
  unfold State.handFrame
  split
  · exact hP.aside h (by simp) (by simp) (by simp [State.running])
  · have hk := runningKept s.running
    have hnotice := hk.handing (f := fun t => t.odoNotice f.head f.payload.isBoot)
      (hk.odoNotice (hk.peerAccept rfl f.head f.payload.isBoot) _ _)
    unfold State.acceptFrame
    exact hP.kindBlock (hP.aside h (by simp) (by simp) hnotice) f

theorem TableKept.handOn {s : State} (h : P s) (rx : List Frame) : P (s.handOn rx) := by
  induction rx generalizing s with
  | nil => exact hP.aside h rfl rfl rfl
  | cons f rest ih =>
    rw [State.handOn]
    split
    · exact ih (hP.aside h (by simp) (by simp) (by simp [State.running]))
    · exact hP.handFrame (hP.aside h (by simp) (by simp) (by simp [State.running])) f

theorem TableKept.bufferFrame {s : State} (h : P s) (f : Frame) : P (s.bufferFrame f) := by
  unfold State.bufferFrame
  split
  · exact hP.aside h rfl rfl rfl
  · split
    · exact hP.handOn h _
    · exact hP.aside h rfl rfl rfl

theorem TableKept.receiveFrame {s : State} (h : P s) (f : Frame) : P (s.receiveFrame f) := by
  have hfree : P s.lineFree := hP.aside h (by simp) (by simp) (by simp [State.running])
  unfold State.receiveFrame
  dsimp only
  split
  · exact hfree
  · split
    · exact hP.bufferFrame hfree f
    · exact hP.aside hfree rfl rfl rfl

theorem TableKept.rxFrameRejected {s : State} (h : P s) (bytes : List Byte) : P (s.rxFrameRejected bytes) := by
  have hfree : P s.lineFree := hP.aside h (by simp) (by simp) (by simp [State.running])
  unfold State.rxFrameRejected
  dsimp only
  split
  · exact hfree
  · split
    · exact hP.aside hfree rfl rfl rfl
    · exact hP.aside hfree rfl rfl rfl
    · exact hP.bufferFrame hfree _

theorem TableKept.frameHandlingEnd {s : State} (h : P s) : P s.frameHandlingEnd := by
  unfold State.frameHandlingEnd; split
  · exact hP.handOn h _
  · exact h

theorem TableKept.txMismatch {s : State} (h : P s) : P s.txMismatch := by
  unfold State.txMismatch
  split
  · dsimp only
    split
    · unfold State.afterStopped
      split
      · exact hP.reportLoopback (hP.aside h (by simp) (by simp) (by simp)) _ _
      · exact hP.aside h (by simp) (by simp) (by simp [State.running])
    · exact hP.aside h (by simp) (by simp) (by simp)
  · exact h

theorem TableKept.txComplete {s : State} (h : P s) : P s.txComplete := by
  unfold State.txComplete
  split
  · exact hP.ownCompletion (hP.reportLoopback (hP.aside h (by simp) (by simp) (by simp)) _ _) _
  · exact h

/-- Every command keeps what the changes of the table, the FIFO and the check keep. -/
theorem TableKept.exec {s t : State} (h : P s) {c : Instr} (hc : exec c s = .next t) : P t := by
  have hk := runningKept s.running
  cases c <;> obtain rfl := Host.Outcome.next.inj hc
  case hardReset => exact hP.empty _ s.hardReset_tableEmpty
  case strapSample => exact hP.strapSample h _ _ _ _
  case tableSlotTest => exact hP.tableSlotTest h _
  case crcSelfTest => exact hP.crcSelfTest h _
  case linkLoopbackTimeout => exact hP.loopbackTimeout h
  case floorEmitterTest => exact hP.floorEmitterTest h _
  case wallEmitterTest => exact hP.wallEmitterTest h _
  case bootTimerExpiry => exact hP.bootTimerExpiry h
  case floorBurstEnd => exact hP.floorBurstEnd h _ _
  case wallBurstEnd => exact hP.wallBurstEnd h _ _
  case bumpChange => exact hP.bumpChange h _
  case sightingWindowExpiry => exact hP.sightingWindowExpiry h
  case carryEnd => exact hP.carryEnd _ h
  case ageTimerExpiry => exact hP.ageTimerExpiry h
  case ageTicksApplied => exact hP.ageTicksApplied _ h
  case checkTimeout => exact hP.checkTimeout h
  case serveOwnObservation => exact hP.serveOwnObservation _ h
  case serveOwnCliff => exact hP.serveOwnCliff _ h
  case serveFloorEvidence => exact hP.serveFloorEvidence _ h
  case serveWallClear => exact hP.serveWallClear _ h
  case servePeerAdd => exact hP.servePeerAdd _ h
  case servePeerUpdate => exact hP.servePeerUpdate _ h
  case servePeerWithdraw => exact hP.servePeerWithdraw _ h
  case serveCheckOutcome => exact hP.serveCheckOutcome _ h
  case serveLookup => exact hP.serveLookup _ h
  case peerLost => exact hP.peerLost h _
  case rxFrameRejected => exact hP.rxFrameRejected h _
  case frameHandlingEnd => exact hP.frameHandlingEnd h
  case txMismatch => exact hP.txMismatch h
  case txComplete => exact hP.txComplete h
  case setupPart | rejoinOrder | modeOrder | odometryFrame | checkAnswer | checkRequest | hazardReport | bootStatus |
      verdict | healthReport => exact hP.receiveFrame h _
  case dropChange => exact hP.aside h (by simp) (by simp) (hk.dropChange rfl _)
  case odoTimerExpiry => exact hP.aside h (by simp) (by simp) (hk.odoTimerExpiry rfl)
  case stalledTimerExpiry => exact hP.aside h (by simp) (by simp) (hk.stalledTimerExpiry rfl)
  case odoRoleClashHoldExpiry => exact hP.aside h (by simp) (by simp) (hk.odoClashHoldExpiry rfl)
  case peerSilent => exact hP.aside h (by simp) (by simp) (hk.peerSilent rfl _)
  case posClashHoldExpiry => exact hP.aside h (by simp) (by simp) (hk.posHoldExpiry rfl)
  case roleClashHoldExpiry => exact hP.aside h (by simp) (by simp) (hk.roleHoldExpiry rfl)
  case missingPeerTimerExpiry => exact hP.aside h (by simp) (by simp) (hk.missingTimerExpiry rfl)
  case verdictTimerExpiry => exact hP.aside h (by simp) (by simp) (hk.verdictTimerExpiry rfl)
  case healthTimerExpiry => exact hP.aside h (by simp) (by simp) s.healthTimerExpiry_running
  case stopHoldExpiry => exact hP.aside h (by simp) (by simp) s.stopHoldExpiry_running
  case stopLineChange => exact hP.aside h (by simp) (by simp) (s.stopLineChange_running _)
  case ledFlash => exact hP.aside h (by simp) (by simp) s.ledFlash_running
  all_goals exact hP.aside h (by simp) (by simp) (by simp [State.running])

/-- Every step keeps what the changes of the table, the FIFO and the check keep. -/
theorem TableKept.step {s t : State} (h : P s) (hstep : step s = .next t) : P t :=
  step_keeps (P := P) (fun _ _ h => hP.aside h rfl rfl rfl) (fun _ _ h => hP.aside h rfl rfl rfl)
    (fun s h => hP.same h ⟨rfl, rfl, rfl, rfl, by simp [State.tick, ReportHandler.course, Timer.tick], rfl⟩)
    (fun _ _ _ h hc => hP.exec h hc) h hstep

end

end Sys2Proof.Machine
end

section
/-! PROOFS. The service of an item as far as the FIFO goes (R50 to R53, R105, R108): the changes of records leave it alone, and
a cancelled check, a started one and the next work act on it. -/

namespace Sys2Proof.Machine

open Sys2Proof

/-! ### Changes of records alone -/

/-- Of the table only the records and TABLE_FULL may have changed. -/
def RecordsOnly (s t : State) : Prop := t.table = { s.table with records := t.table.records, full := t.table.full }

theorem RecordsOnly.of_table_eq {s t : State} (h : t.table = s.table) : RecordsOnly s t := by
  rw [RecordsOnly, h]

theorem RecordsOnly.refl (s : State) : RecordsOnly s s := .of_table_eq rfl

theorem RecordsOnly.trans {s t u : State} (h : RecordsOnly s t) (h' : RecordsOnly t u) : RecordsOnly s u :=
  Eq.trans h' (congrArg (fun m : TableManager => { m with records := u.table.records, full := u.table.full }) h)

theorem RecordsOnly.fifo {s t : State} (h : RecordsOnly s t) : t.table.fifo = s.table.fifo := by
  rw [RecordsOnly] at h
  rw [h]

theorem RecordsOnly.work {s t : State} (h : RecordsOnly s t) : t.table.work = s.table.work := by
  rw [RecordsOnly] at h
  rw [h]

theorem RecordsOnly.good {s t : State} (h : RecordsOnly s t) : t.table.good = s.table.good := by
  rw [RecordsOnly] at h
  rw [h]

theorem RecordsOnly.tag {s t : State} (h : RecordsOnly s t) : t.table.tag = s.table.tag := by
  rw [RecordsOnly] at h
  rw [h]

theorem RecordsOnly.then_aside {s t u : State} (h : RecordsOnly s t) (hu : u.table = t.table) : RecordsOnly s u :=
  h.trans (.of_table_eq hu)

section
variable (s : State)

theorem setRecords_recordsOnly (rs : List Record) : RecordsOnly s (s.setRecords rs) := rfl

theorem putRecord_recordsOnly (r : Record) : RecordsOnly s (s.putRecord r) := rfl

theorem markCheck_recordsOnly (i : Slot) (m : CheckMark) : RecordsOnly s (s.markCheck i m) := by
  unfold State.markCheck
  split
  · exact putRecord_recordsOnly s _
  · exact .refl s

theorem placeRecord_recordsOnly (r : Record) : RecordsOnly s (s.placeRecord r).1 := by
  unfold State.placeRecord
  split
  · exact setRecords_recordsOnly s _
  · split
    · exact setRecords_recordsOnly s _
    · rw [RecordsOnly]
      simp

theorem mergeOrCreate_recordsOnly (k : Hazard) (o : Origin) (p : Int × Int) (rc : Recon) :
    RecordsOnly s (s.mergeOrCreate k o p rc).state := by
  unfold State.mergeOrCreate
  split
  · exact putRecord_recordsOnly s _
  · exact placeRecord_recordsOnly s _

theorem decideCheck_recordsOnly (i : Slot) : RecordsOnly s (s.decideCheck i) := by
  unfold State.decideCheck
  split
  · exact markCheck_recordsOnly _ _ _
  · exact markCheck_recordsOnly _ _ _
  · split
    · exact putRecord_recordsOnly s _
    · exact .of_table_eq rfl

theorem promote_recordsOnly : RecordsOnly s s.promote.1 := by
  unfold State.promote
  split
  · exact .refl s
  · dsimp only
    split
    · exact markCheck_recordsOnly _ _ _
    · exact .of_table_eq rfl

theorem overruleClass_recordsOnly : RecordsOnly s s.overruleClass := .of_table_eq (by simp)

/-! The service of each kind of item. -/

theorem serveOwn_recordsOnly (k : Hazard) (o : Origin) (x y : Int) (tag : Option Seq) :
    RecordsOnly s (s.serveOwn k o x y tag).state := by
  have hreset : RecordsOnly s
      (if k.isObstacle && o = .wall then s.setRecords (resetClearRuns s.table.records) else s) := by
    split
    · exact setRecords_recordsOnly s _
    · exact .refl s
  unfold State.serveOwn
  dsimp only
  split
  · exact hreset
  · exact hreset.trans (mergeOrCreate_recordsOnly _ _ _ _ _)

theorem serveCliff_recordsOnly (o : Origin) (x y : Int) (tag : Option Seq) :
    RecordsOnly s (s.serveCliff o x y tag).state := by
  unfold State.serveCliff
  dsimp only
  split
  · exact .refl s
  · split
    · exact (putRecord_recordsOnly s _).trans (overruleClass_recordsOnly _)
    · split
      · exact putRecord_recordsOnly s _
      · split
        · exact (placeRecord_recordsOnly s _).trans (decideCheck_recordsOnly _ _)
        · exact placeRecord_recordsOnly s _

theorem serveEvidence_recordsOnly (rug : Option Hazard) (o : Origin) (x y : Int) (tag : Option Seq) :
    RecordsOnly s (s.serveEvidence rug o x y tag).state := by
  unfold State.serveEvidence
  dsimp only
  split
  · split
    · exact setRecords_recordsOnly s _
    · exact (setRecords_recordsOnly s _).trans (mergeOrCreate_recordsOnly _ _ _ _ _)
  · exact setRecords_recordsOnly s _

theorem serveClear_recordsOnly (mx my ax ay : Int) : RecordsOnly s (s.serveClear mx my ax ay).state := rfl

theorem addPeer_recordsOnly (r : PeerReport) (rc : Recon) : RecordsOnly s (s.addPeer r rc) := by
  unfold State.addPeer
  dsimp only
  split
  · exact .of_table_eq rfl
  · split
    · exact (setRecords_recordsOnly s _).trans (putRecord_recordsOnly _ _)
    · exact (setRecords_recordsOnly s _).trans (placeRecord_recordsOnly _ _)

theorem serveAdd_recordsOnly (r : PeerReport) : RecordsOnly s (s.serveAdd r).state := by
  unfold State.serveAdd
  dsimp only
  split
  · exact .of_table_eq rfl
  · exact addPeer_recordsOnly s _ _

theorem serveUpdate_recordsOnly (r : PeerReport) : RecordsOnly s (s.serveUpdate r).state := by
  unfold State.serveUpdate
  dsimp only
  split
  · exact .of_table_eq rfl
  · split
    · exact addPeer_recordsOnly s _ _
    · dsimp only
      split
      · exact (putRecord_recordsOnly s _).trans (setRecords_recordsOnly _ _)
      · exact putRecord_recordsOnly s _

theorem serveWithdraw_recordsOnly (r : PeerReport) : RecordsOnly s (s.serveWithdraw r).state := rfl

/-- An outcome on its record, before the check ends (R71, R72). -/
def State.outcomeOn (s : State) (o : Outcome) (slot : Slot) (r : Record) : State :=
  let t := s.putRecord (r.applyOutcome o)
  let t := if r.endsFar then t.setRecords (removeSlot t.table.records slot) else t
  if o = .overrule then t.overruleClass else t

/-- An outcome acts on the CLIFF whose check is PENDING, and otherwise on none (R71). -/
def State.applyAt (s : State) (o : Outcome) (slot : Slot) : State :=
  match recordAt s.table.records slot with
  | some r => if s.hasMark slot .pending then s.outcomeOn o slot r else s
  | none => s

theorem serveOutcome_eq (o : Outcome) (slot : Slot) : s.serveOutcome o slot =
    { state := (s.applyAt o slot).endCheck.promote.1
      applied := if s.hasMark slot .pending then some slot else none
      starts := (s.applyAt o slot).endCheck.promote.2 } := rfl

theorem outcomeOn_recordsOnly (o : Outcome) (slot : Slot) (r : Record) : RecordsOnly s (s.outcomeOn o slot r) := by
  have hput := putRecord_recordsOnly s (r.applyOutcome o)
  have hfar : RecordsOnly s (if r.endsFar then (s.putRecord (r.applyOutcome o)).setRecords
      (removeSlot (s.putRecord (r.applyOutcome o)).table.records slot) else s.putRecord (r.applyOutcome o)) := by
    split
    · exact hput.trans (setRecords_recordsOnly _ _)
    · exact hput
  unfold State.outcomeOn
  dsimp only
  split
  · exact hfar.trans (overruleClass_recordsOnly _)
  · exact hfar

theorem applyAt_recordsOnly (o : Outcome) (slot : Slot) : RecordsOnly s (s.applyAt o slot) := by
  unfold State.applyAt
  split
  · split
    · exact outcomeOn_recordsOnly s _ _ _
    · exact .refl s
  · exact .refl s

theorem endCheck_recordsOnly : RecordsOnly s s.endCheck := .of_table_eq (by simp)

theorem serveOutcome_recordsOnly (o : Outcome) (slot : Slot) : RecordsOnly s (s.serveOutcome o slot).state := by
  rw [serveOutcome_eq]
  exact ((applyAt_recordsOnly s o slot).trans (endCheck_recordsOnly _)).trans (promote_recordsOnly _)

/-! The report frames of a completion. -/

theorem sendReport_recordsOnly (a : Action) (r : Record) (w : Bool) : RecordsOnly s (s.sendReport a r w) :=
  .of_table_eq (by simp)

theorem eventAt_recordsOnly (before : State) (w : List Record) (a : Option Slot) (i : Slot) :
    RecordsOnly s (State.eventAt before w a s i) := by
  have hwithdrawn : RecordsOnly s (s.withdrawAt w i) := by
    unfold State.withdrawAt
    split
    · exact sendReport_recordsOnly s _ _ _
    · exact .refl s
  rw [State.eventAt_eq]
  refine hwithdrawn.trans ?_
  unfold State.announceAt
  split
  · exact .refl _
  · split
    · exact .refl _
    · split
      · exact (putRecord_recordsOnly _ _).trans (sendReport_recordsOnly _ _ _ _)
      · exact sendReport_recordsOnly _ _ _ _

theorem foldl_eventAt_recordsOnly (before : State) (w : List Record) (a : Option Slot) (slots : List Slot) :
    RecordsOnly s (slots.foldl (State.eventAt before w a) s) := by
  induction slots generalizing s with
  | nil => exact .refl s
  | cons i slots ih => exact (eventAt_recordsOnly s before w a i).trans (ih _)

theorem emitEvents_recordsOnly (before : State) (w : List Record) (a : Option Slot) :
    RecordsOnly s (State.emitEvents before w a s) := foldl_eventAt_recordsOnly s before w a _

theorem refresh_recordsOnly (before : State) (m : Option Slot) : RecordsOnly s (State.refresh before m s) :=
  .of_table_eq (by simp)

end

/-! ### The FIFO -/

theorem TableManager.FifoOk.congr {t u : TableManager} (h : t.FifoOk) (hfifo : u.fifo = t.fifo)
    (hwork : u.work = t.work) : u.FifoOk := by
  rwa [TableManager.FifoOk, hfifo, hwork]

theorem TableManager.FifoOk.of_recordsOnly {s t : State} (h : s.table.FifoOk) (hst : RecordsOnly s t) :
    t.table.FifoOk := h.congr hst.fifo hst.work

theorem pushed_length_le (i : Item) {fifo : List Item} (h : fifo.length ≤ fifoSize) :
    (pushed i fifo).length ≤ fifoSize := by
  unfold pushed
  split
  next hroom => simpa using hroom
  · split
    next hany =>
      have hdrop := length_dropNonCliff (Bool.and_eq_true_iff.1 hany).2
      rw [List.length_append, List.length_singleton, hdrop]
      exact h
    · exact h

theorem mem_pushed {i x : Item} {fifo : List Item} (h : x ∈ pushed i fifo) : x = i ∨ x ∈ fifo := by
  unfold pushed at h
  split at h
  · simpa [or_comm] using h
  · split at h
    · obtain h | h := List.mem_append.1 h
      · exact .inr ((dropNonCliff_sublist fifo).subset h)
      · exact .inl (List.mem_singleton.1 h)
    · exact .inr h

/-- An arriving item keeps the FIFO's bound (R52, R53). -/
theorem State.pushItem_fifoOk {s : State} (h : s.table.FifoOk) {i : Item} (hi : i.ConfOk) :
    (s.pushItem i).table.FifoOk := by
  obtain ⟨hlen, hconf, hwork⟩ := h
  rw [State.pushItem_table]
  refine ⟨pushed_length_le i hlen, fun x hx => ?_, hwork⟩
  obtain rfl | hx := mem_pushed hx
  · exact hi
  · exact hconf x hx

theorem State.resolveCheck_fifoOk {s : State} (h : s.table.FifoOk) : s.resolveCheck.table.FifoOk := by
  cases ho : s.report.outstanding with
  | none =>
    rw [State.resolveCheck, ho]
    exact h
  | some slot =>
    rw [State.resolveCheck_eq ho, State.handing_table]
    exact State.pushItem_fifoOk (h.congr (by simp) (by simp)) trivial

/-- The next work takes the FIFO's oldest item at most (R50). -/
theorem State.takeWork_fifoOk {s : State} (h : s.table.FifoOk) : s.takeWork.table.FifoOk := by
  obtain ⟨hlen, hconf, -⟩ := h
  unfold State.takeWork
  dsimp only
  split
  · exact ⟨hlen, hconf, trivial⟩
  · split
    · exact ⟨hlen, hconf, trivial⟩
    · split
      next i rest hf =>
        rw [hf] at hlen hconf
        exact ⟨(Nat.le_succ _).trans hlen, fun x hx => hconf x (List.mem_cons_of_mem i hx), hconf i List.mem_cons_self⟩
      · exact ⟨hlen, hconf, trivial⟩

theorem State.kick_fifoOk {s : State} (h : s.table.FifoOk) : s.kick.table.FifoOk := by
  unfold State.kick
  split
  · exact State.takeWork_fifoOk h
  · exact h

theorem State.cancelCheck_fifoOk {s : State} (h : s.table.FifoOk) : s.cancelCheck.table.FifoOk := by
  obtain ⟨hlen, hconf, hwork⟩ := h
  rw [State.cancelCheck, State.endCheck, State.handing_table]
  exact ⟨(List.length_filter_le _ _).trans hlen, fun x hx => hconf x (List.mem_of_mem_filter hx), hwork⟩

theorem State.settleChecks_fifoOk {s : State} (h : s.table.FifoOk) : s.settleChecks.1.table.FifoOk := by
  have hdrop : s.dropDeferral.table.FifoOk := by simpa using h
  unfold State.settleChecks
  dsimp only
  split
  · exact (State.cancelCheck_fifoOk hdrop).of_recordsOnly (promote_recordsOnly _)
  · exact hdrop

theorem State.startCheck_fifoOk {s : State} (h : s.table.FifoOk) : s.startCheck.table.FifoOk := by
  unfold State.startCheck
  split
  · dsimp only
    split
    · exact State.resolveCheck_fifoOk h
    · simpa using h
  · exact h

/-- A completion leaves the FIFO in its bounds. -/
theorem State.complete_fifoOk {s : State} (h : s.table.FifoOk) {v : Served} (hv : RecordsOnly s v.state) :
    (s.complete v).table.FifoOk := by
  have hsorted := h.of_recordsOnly (hv.trans (setRecords_recordsOnly _ (sortRecords v.state.table.records)))
  have hreported := ((State.settleChecks_fifoOk hsorted).of_recordsOnly
    (emitEvents_recordsOnly _ s v.withdrawn v.applied)).of_recordsOnly (refresh_recordsOnly _ s v.merged)
  unfold State.complete
  refine State.takeWork_fifoOk ?_
  rw [State.notifyTable_table]
  split
  · exact State.startCheck_fifoOk hreported
  · exact hreported

/-- A service completes with changes of records alone, or does nothing. -/
theorem fifoOk_tableKept : TableKept fun s => s.table.FifoOk where
  same h hst := h.congr hst.2.2.1 hst.2.2.2.1
  empty s h := by
    obtain ⟨-, hfifo, hwork, -⟩ := h
    simp [TableManager.FifoOk, hfifo, hwork]
  good _ _ _ h := h
  push _ _ _ hi h := State.pushItem_fifoOk h hi.1
  kick _ h := State.kick_fifoOk h
  answer _ _ _ _ _ h := h
  resolve _ _ _ _ h := State.resolveCheck_fifoOk h
  carryEnd s h := by
    unfold State.carryEnd
    split
    · split
      · refine State.takeWork_fifoOk ?_
        rw [State.notify_table]
        exact h
      · exact h
    · exact h
  ageTicksApplied s h := by
    unfold State.ageTicksApplied
    split
    · split
      · refine State.takeWork_fifoOk ?_
        rw [State.notify_table]
        exact h
      · exact h
    · exact h
  serveOwnObservation s h := by
    unfold State.serveOwnObservation
    (repeat' split) <;> [exact State.complete_fifoOk h (serveOwn_recordsOnly ..); exact h; exact h]
  serveOwnCliff s h := by
    unfold State.serveOwnCliff
    (repeat' split) <;> [exact State.complete_fifoOk h (serveCliff_recordsOnly ..); exact h; exact h]
  serveFloorEvidence s h := by
    unfold State.serveFloorEvidence
    split
    · split
      · exact State.complete_fifoOk h (serveEvidence_recordsOnly ..)
      · exact h
    · split
      · exact State.complete_fifoOk h (serveEvidence_recordsOnly ..)
      · exact h
    · exact h
  serveWallClear s h := by
    unfold State.serveWallClear
    (repeat' split) <;> [exact State.complete_fifoOk h (serveClear_recordsOnly ..); exact h; exact h]
  servePeerAdd s h := by
    unfold State.servePeerAdd
    (repeat' split) <;> [exact State.complete_fifoOk h (serveAdd_recordsOnly ..); exact h; exact h]
  servePeerUpdate s h := by
    unfold State.servePeerUpdate
    (repeat' split) <;> [exact State.complete_fifoOk h (serveUpdate_recordsOnly ..); exact h; exact h]
  servePeerWithdraw s h := by
    unfold State.servePeerWithdraw
    (repeat' split) <;> [exact State.complete_fifoOk h (serveWithdraw_recordsOnly ..); exact h; exact h]
  serveCheckOutcome s h := by
    unfold State.serveCheckOutcome
    (repeat' split) <;> [exact State.complete_fifoOk h (serveOutcome_recordsOnly ..); exact h; exact h]
  serveLookup s h := by
    unfold State.serveLookup
    split
    · split
      · refine State.takeWork_fifoOk ?_
        rw [State.answerLookup_table]
        exact h
      · exact h
    · exact h

/-- Settles O8: an item enters with a place for it, and every other change of the FIFO takes items out. -/
theorem stepKeepsRequestFifo : Obligations.StepKeepsRequestFifo :=
  fun _ _ hs hstep => fifoOk_tableKept.step hs hstep

end Sys2Proof.Machine
end

section
/-! PROOFS. The fields of a record through each of its changes (R46 to R48, R57, R58, R62 to R64, R70, R71, R78, R82, R83). -/

namespace Sys2Proof.Machine

open Sys2Proof

/-! ### Arithmetic -/

/-- The middle of two coordinates lies within their bound. -/
theorem natAbs_roundDiv_two_le {a b : Int} {m : Nat} (ha : a.natAbs ≤ m) (hb : b.natAbs ≤ m) :
    (roundDiv (a + b) 2).natAbs ≤ m := by
  unfold roundDiv
  push_cast
  split <;> omega

theorem Recon.lower_le (rc : Recon) (c : Nat) : rc.lower c ≤ c := by
  unfold Recon.lower
  split
  · exact Nat.sub_le c 1
  · exact le_rfl

/-! ### The kind-bound fields -/

theorem Record.InRange.le_clamp {r : Record} (h : r.InRange) : r.range ≤ clampLimit.toNat := by
  have : rangeLimit ≤ clampLimit.toNat := by decide
  obtain h | ⟨-, -, h⟩ := h <;> omega

theorem Record.InRange.le_limit {r : Record} (h : r.InRange) (hk : r.kind.isCliff = false) : r.range ≤ rangeLimit := by
  obtain h | ⟨hc, -⟩ := h
  · exact h
  · rw [hk] at hc
    cases hc

@[simp] theorem Record.bindKind_slot (r : Record) : r.bindKind.slot = r.slot := rfl
@[simp] theorem Record.bindKind_kind (r : Record) : r.bindKind.kind = r.kind := rfl
@[simp] theorem Record.bindKind_x (r : Record) : r.bindKind.x = r.x := rfl
@[simp] theorem Record.bindKind_y (r : Record) : r.bindKind.y = r.y := rfl
@[simp] theorem Record.bindKind_keys (r : Record) : r.bindKind.keys = r.keys := rfl
@[simp] theorem Record.bindKind_range (r : Record) : r.bindKind.range = r.range := rfl

theorem Record.bindKind_checking {r : Record} (hk : r.kind.isCliff = true) (hc : r.checking = true) :
    r.bindKind.checking = true := by
  have hmark : r.check = some .pending ∨ r.check = some .deferred := by simpa [Record.checking] using hc
  obtain h | h := hmark <;> simp [Record.checking, Record.bindKind, hk, h]

/-- Binding the kind-bound fields leaves them as R46 has them. -/
theorem Record.bindKind_fieldsOk {r : Record} (hconf : r.conf ≤ maxConf) (hkeys : r.keys.length ≤ maxKeys)
    (horigin : r.hasOrigin = true) (hclear : ∀ n ∈ r.clearRun, n < clearRunMax) (hrange : r.InRange) :
    r.bindKind.FieldsOk := by
  refine ⟨hconf, hkeys, horigin, ?_, ?_, fun n hn => ?_, ?_⟩
  · cases hk : r.kind.isCliff <;> simp [Record.bindKind, hk]
  · have hown : r.bindKind.isOwnWall = r.isOwnWall := rfl
    rw [hown]
    cases hw : r.isOwnWall <;> simp [Record.bindKind, hw]
  · cases hw : r.isOwnWall
    · simp [Record.bindKind, hw] at hn
    · have hn : r.clearRun.getD 0 = n := by simpa [Record.bindKind, hw] using hn
      rw [← hn]
      cases hrun : r.clearRun with
      | none => decide
      | some m => exact hclear m hrun
  · obtain h | ⟨hk, hc, h⟩ := hrange
    · exact .inl h
    · exact .inr ⟨hk, r.bindKind_checking hk hc, h⟩

/-! ### The changes of one record -/

/-- A merge of an own observation of the record's kind (R57). -/
theorem Record.FieldsOk.mergeOwn {r : Record} (h : r.FieldsOk) {kind : Hazard} (hk : r.kind.sameKind kind = true)
    (origin : Origin) {p : Int × Int} (hp : rangeOf p.1 p.2 ≤ rangeLimit) (rc : Recon) :
    (r.mergeOwn kind origin p rc).FieldsOk := by
  obtain ⟨-, hkeys, -, -, -, hclear, hrange⟩ := h
  refine Record.bindKind_fieldsOk ?_ hkeys rfl hclear ?_
  · dsimp only
    split
    · exact le_rfl
    · exact min_le_left _ _
  · have hbound {m : Nat} (hr : r.range ≤ m) (hpm : rangeOf p.1 p.2 ≤ m) :
        rangeOf (roundDiv (r.x + p.1) 2) (roundDiv (r.y + p.2) 2) ≤ m := by
      obtain ⟨hx, hy⟩ := max_le_iff.1 hr
      obtain ⟨hpx, hpy⟩ := max_le_iff.1 hpm
      exact max_le (natAbs_roundDiv_two_le hx hpx) (natAbs_roundDiv_two_le hy hpy)
    have hlimit : rangeLimit ≤ clampLimit.toNat := by decide
    obtain hr | ⟨hc, hcheck, hr⟩ := hrange
    · exact .inl (hbound hr hp)
    · refine .inr ⟨?_, hcheck, hbound hr (hp.trans hlimit)⟩
      have hcliff := (Hazard.isCliff_iff r.kind).1 hc
      rw [hcliff] at hk
      cases kind <;> simp_all [Hazard.sameKind, Hazard.isCliff, Hazard.isRug, Hazard.isObstacle, Hazard.isDock]

/-- A record that an own observation creates (R58). -/
theorem ownRecord_fieldsOk (kind : Hazard) (origin : Origin) {p : Int × Int} (hp : rangeOf p.1 p.2 ≤ rangeLimit)
    (rc : Recon) : (ownRecord kind origin p rc).FieldsOk := by
  refine Record.bindKind_fieldsOk ((rc.lower_le _).trans ?_) (Nat.zero_le _) rfl (by simp) (.inl hp)
  unfold ownCreateConf
  (repeat' split) <;> decide

theorem length_appendKey_le {keys : List Key} (h : keys.length ≤ maxKeys) (k : Key) :
    (appendKey keys k).length ≤ maxKeys := by
  have : 0 < maxKeys := by decide
  unfold appendKey
  rw [List.length_append, List.length_singleton]
  split
  · omega
  · rw [List.length_drop]
    omega

/-- A merge of a peer ADD of the record's kind (R63). -/
theorem Record.FieldsOk.mergePeer {r : Record} (h : r.FieldsOk) (k : Key) {kind : Hazard}
    (hk : r.kind.sameKind kind = true) (conf : Nat) : (r.mergePeer k kind conf).FieldsOk := by
  obtain ⟨-, hkeys, -, -, -, hclear, hrange⟩ := h
  refine Record.bindKind_fieldsOk (min_le_left _ _) (length_appendKey_le hkeys k) ?_ hclear ?_
  · simp [Record.hasOrigin, appendKey]
  · obtain hr | ⟨hc, hcheck, hr⟩ := hrange
    · exact .inl hr
    · refine .inr ⟨?_, hcheck, hr⟩
      have hcliff := (Hazard.isCliff_iff r.kind).1 hc
      rw [hcliff] at hk
      cases kind <;> simp_all [Hazard.sameKind, Hazard.isCliff, Hazard.isRug, Hazard.isObstacle, Hazard.isDock]

/-- A record that a peer ADD creates (R63). -/
theorem peerRecord_fieldsOk (k : Key) (kind : Hazard) {p : Int × Int} (hp : rangeOf p.1 p.2 ≤ rangeLimit) {conf : Nat}
    (hc : conf ≤ maxConf) : (peerRecord k kind p conf).FieldsOk := by
  have : 1 ≤ maxConf := by decide
  have hkeys : [k].length ≤ maxKeys := by
    rw [List.length_singleton]
    decide
  exact Record.bindKind_fieldsOk (max_le this ((Nat.sub_le conf 1).trans hc)) hkeys rfl (by simp) (.inl hp)

/-- An UPDATE leaves the fields in their bounds, or its record goes (R64, R72). -/
theorem Record.FieldsOk.updatePeer {r : Record} (h : r.FieldsOk) (kind : Hazard) {conf : Nat} (hc : conf ≤ maxConf)
    (hstays : (r.checking && !kind.isCliff && (r.updatePeer kind conf).endsFar) = false) :
    (r.updatePeer kind conf).FieldsOk := by
  obtain ⟨hconf, hkeys, horigin, -, -, hclear, hrange⟩ := h
  refine Record.bindKind_fieldsOk (max_le hconf ((Nat.sub_le conf 1).trans hc)) hkeys horigin hclear ?_
  obtain hr | ⟨-, hcheck, hr⟩ := hrange
  · exact .inl hr
  · by_cases hfar : r.range ≤ rangeLimit
    · exact .inl hfar
    · have hends : (r.updatePeer kind conf).endsFar = true := decide_eq_true (not_le.1 hfar)
      refine .inr ⟨?_, hcheck, hr⟩
      rw [hcheck, hends] at hstays
      simpa using hstays

/-- An outcome leaves the fields in their bounds, or its record goes (R71, R72). -/
theorem Record.FieldsOk.applyOutcome {r : Record} (h : r.FieldsOk) (hk : r.kind.isCliff = true) (o : Outcome)
    (hstays : r.range ≤ rangeLimit) : (r.applyOutcome o).FieldsOk := by
  obtain ⟨hconf, hkeys, horigin, hcheck, hwall, hclear, -⟩ := h
  have hraised : max r.conf confirmedAt ≤ maxConf := max_le hconf (by decide)
  cases o with
  | confirm => exact ⟨hraised, hkeys, horigin, by simpa [Record.applyOutcome] using hk, hwall, hclear, .inl hstays⟩
  | overrule => exact Record.bindKind_fieldsOk hraised hkeys horigin hclear (.inl hstays)

/-- A change of the check of a CLIFF that stays under check or lies in range. -/
theorem Record.FieldsOk.recheck {r : Record} (h : r.FieldsOk) (hk : r.kind.isCliff = true) (m : CheckMark)
    (hm : r.range ≤ rangeLimit ∨ m = .pending ∨ m = .deferred) : ({ r with check := some m } : Record).FieldsOk := by
  obtain ⟨hconf, hkeys, horigin, hcheck, hwall, hclear, hrange⟩ := h
  refine ⟨hconf, hkeys, horigin, by simpa using hk, hwall, hclear, ?_⟩
  obtain hr | hm := hm
  · exact .inl hr
  · refine .inr ⟨hk, ?_, hrange.le_clamp⟩
    obtain rfl | rfl := hm <;> simp [Record.checking]

/-- Confidence, age and reported are bound to nothing else. -/
theorem Record.FieldsOk.restate {r : Record} (h : r.FieldsOk) {conf : Nat} (hconf : conf ≤ maxConf) (age : Nat)
    (reported : Bool) : ({ r with conf := conf, age := age, reported := reported } : Record).FieldsOk := by
  obtain ⟨-, hkeys, horigin, hcheck, hwall, hclear, hrange⟩ := h
  exact ⟨hconf, hkeys, horigin, hcheck, hwall, hclear, hrange⟩

/-- The wall observation's and the wall-clear observation's change of a clear run (R60, R62). -/
theorem Record.FieldsOk.clearRun {r : Record} (h : r.FieldsOk) (hw : r.isOwnWall = true) {n : Nat}
    (hn : n < clearRunMax) : ({ r with clearRun := some n } : Record).FieldsOk := by
  obtain ⟨hconf, hkeys, horigin, hcheck, -, -, hrange⟩ := h
  refine ⟨hconf, hkeys, horigin, hcheck, ⟨fun _ => hw, fun _ => rfl⟩, fun m hm => ?_, hrange⟩
  cases hm
  exact hn

/-- A key that leaves (R63, R65). -/
theorem Record.FieldsOk.dropKey {r : Record} (h : r.FieldsOk) (k : Key) (ho : (r.dropKey k).hasOrigin = true) :
    (r.dropKey k).FieldsOk := by
  obtain ⟨hconf, hkeys, -, hcheck, hwall, hclear, hrange⟩ := h
  exact ⟨hconf, (List.length_filter_le _ _).trans hkeys, ho, hcheck, hwall, hclear, hrange⟩

/-- A carry's judgement keeps a record in range, or clamps a CLIFF under check (R82). -/
theorem Record.FieldsOk.carried {r q : Record} (h : r.FieldsOk) (steps : List (Int × Int))
    (hq : (r.carry steps).judgeRange = some q) : q.FieldsOk := by
  obtain ⟨hconf, hkeys, horigin, hcheck, hwall, hclear, -⟩ := h
  unfold Record.judgeRange at hq
  split at hq
  next hr =>
    cases hq
    exact ⟨hconf, hkeys, horigin, hcheck, hwall, hclear, .inl hr⟩
  · split at hq
    next hc =>
      cases hq
      obtain ⟨hcliff, hchecking⟩ := Bool.and_eq_true_iff.1 hc
      refine ⟨hconf, hkeys, horigin, hcheck, hwall, hclear, .inr ⟨hcliff, hchecking, max_le ?_ ?_⟩⟩ <;>
        simp only [clampTo, clampLimit] <;> omega
    · cases hq

theorem Record.FieldsOk.degrade {r q : Record} (h : r.FieldsOk) (hq : r.degrade = some q) : q.FieldsOk := by
  have hconf := h.1
  unfold Record.degrade at hq
  dsimp only at hq
  split at hq
  · cases hq
  · cases hq
    exact h.restate ((Nat.div_le_self _ _).trans hconf) r.age r.reported

theorem Record.FieldsOk.onRecord {r q : Record} (h : r.FieldsOk) (c : Course) (hq : c.onRecord r = some q) :
    q.FieldsOk := by
  cases c with
  | move path => exact h.carried _ hq
  | degrade => exact h.degrade hq
  | adopt => cases hq; exact h
  | hold => cases hq; exact h
  | current => cases hq; exact h

/-- Age ticks retire a record beyond the limit that is no longer under check (R70). -/
theorem Record.FieldsOk.aged {r q : Record} (h : r.FieldsOk) (hd : ReportHandler) (n : Nat)
    (hq : r.aged hd n = some q) : q.FieldsOk := by
  have holder : (r.older n).FieldsOk := h.restate h.1 _ r.reported
  unfold Record.aged at hq
  split at hq
  · cases hq
  next hstays =>
    cases hq
    unfold Record.correctCheck at hstays ⊢
    split at hstays
    next hbad =>
      rw [if_pos hbad]
      have hcliff : (r.older n).kind.isCliff = true := by
        obtain ⟨-, -, -, hcheck, -⟩ := holder
        refine hcheck.1 ?_
        obtain ⟨hm, -⟩ | ⟨hm, -⟩ := hbad <;> rw [hm] <;> rfl
      refine holder.recheck hcliff .none (.inl ?_)
      have hnot := (Record.isExpired_iff _).not.1 hstays
      by_contra hfar
      exact hnot ⟨by simp, by simp, .inr (.inr (.inr (not_le.1 hfar)))⟩
    next hgood =>
      rw [if_neg hgood]
      exact holder

end Sys2Proof.Machine
end

section
/-! PROOFS. The records of a table in slots and with keys of their own (R45, R47, R49) through each change of the list, and
what a completion leaves of them (R55). -/

namespace Sys2Proof.Machine

open Sys2Proof

/-! ### Sound lists of records -/

/-- Records in good slots of their own, with their fields in their bounds and no key held twice (R45 to R48). -/
structure Sound (good : BitVec 24) (rs : List Record) : Prop where
  slots : (rs.map Record.slot).Nodup
  good : ∀ r ∈ rs, good.getLsbD r.slot = true
  fields : ∀ r ∈ rs, r.FieldsOk
  keys : (rs.flatMap Record.keys).Nodup

theorem Sound.nil (good : BitVec 24) : Sound good [] := ⟨List.nodup_nil, by simp, by simp, List.nodup_nil⟩

section
variable {good : BitVec 24} {rs : List Record} (h : Sound good rs)
include h

theorem Sound.perm {qs : List Record} (hp : qs.Perm rs) : Sound good qs where
  slots := (hp.map _).nodup_iff.2 h.slots
  good r hr := h.good r (hp.mem_iff.1 hr)
  fields r hr := h.fields r (hp.mem_iff.1 hr)
  keys := (hp.flatMap_right _).nodup_iff.2 h.keys

theorem Sound.sort : Sound good (sortRecords rs) := h.perm (List.perm_insertionSort _ rs)

theorem Sound.sublist {qs : List Record} (hq : qs.Sublist rs) : Sound good qs where
  slots := h.slots.sublist (hq.map _)
  good r hr := h.good r (hq.subset hr)
  fields r hr := h.fields r (hq.subset hr)
  keys := h.keys.sublist (hq.flatMap _)

theorem Sound.removeSlot (i : Slot) : Sound good (removeSlot rs i) := h.sublist List.filter_sublist

/-- A change of each record by itself that leaves it in its slot and brings no key. -/
theorem Sound.filterMap {f : Record → Option Record} (hslot : ∀ r q, f r = some q → q.slot = r.slot)
    (hkeys : ∀ r q, f r = some q → q.keys.Sublist r.keys)
    (hfields : ∀ r ∈ rs, ∀ q, f r = some q → r.FieldsOk → q.FieldsOk) : Sound good (rs.filterMap f) where
  slots := nodup_slots_filterMap hslot h.slots
  good q hq := by
    obtain ⟨r, hr, hrq⟩ := List.mem_filterMap.1 hq
    rw [hslot r q hrq]
    exact h.good r hr
  fields q hq := by
    obtain ⟨r, hr, hrq⟩ := List.mem_filterMap.1 hq
    exact hfields r hr q hrq (h.fields r hr)
  keys := by
    refine h.keys.sublist ?_
    clear h hfields
    induction rs with
    | nil => exact .slnil
    | cons r rs ih =>
      rw [List.filterMap_cons, List.flatMap_cons]
      split
      · exact ih.trans (List.sublist_append_right _ _)
      next q hq =>
        rw [List.flatMap_cons]
        exact (hkeys r q hq).append ih

/-- A key belongs to one record. -/
theorem Sound.eq_of_key {a b : Record} (ha : a ∈ rs) (hb : b ∈ rs) {k : Key} (hka : k ∈ a.keys) (hkb : k ∈ b.keys) :
    a = b := by
  by_contra hne
  have hpair := (List.nodup_flatMap.1 h.keys).2
  have hsymm : Std.Symm fun x y : Record => List.Disjoint x.keys y.keys := ⟨fun _ _ h => h.symm⟩
  have hdisjoint : List.Disjoint a.keys b.keys :=
    List.Pairwise.forall (R := fun x y : Record => List.Disjoint x.keys y.keys) hpair ha hb hne
  exact hdisjoint hka hkb

/-- A record that takes the place of another keeps its slot; its keys are the old ones, or held by none. -/
theorem Sound.update {r q : Record} (hr : r ∈ rs) (hslot : q.slot = r.slot) (hq : q.FieldsOk) (hnodup : q.keys.Nodup)
    (hnew : ∀ k ∈ q.keys, k ∈ r.keys ∨ ∀ x ∈ rs, k ∉ x.keys) : Sound good (updateRecord rs q) where
  slots := by
    have hsame : (updateRecord rs q).map Record.slot = rs.map Record.slot := by
      unfold updateRecord
      rw [List.map_map]
      refine List.map_congr_left fun x _ => ?_
      simp only [Function.comp_apply]
      split
      next hx => exact hx.symm
      · rfl
    rw [hsame]
    exact h.slots
  good x hx := by
    obtain ⟨y, hy, rfl⟩ := List.mem_map.1 hx
    split
    · rw [hslot]
      exact h.good r hr
    · exact h.good y hy
  fields x hx := by
    obtain ⟨y, hy, rfl⟩ := List.mem_map.1 hx
    split
    · exact hq
    · exact h.fields y hy
  keys := by
    obtain ⟨hown, hpair⟩ := List.nodup_flatMap.1 h.keys
    refine List.nodup_flatMap.2 ⟨fun x hx => ?_, ?_⟩
    · obtain ⟨y, hy, rfl⟩ := List.mem_map.1 hx
      split
      · exact hnodup
      · exact hown y hy
    · have hslots := List.pairwise_map.1 h.slots
      refine List.pairwise_map.2 ((hpair.and hslots).imp_of_mem fun {a b} ha hb hab => ?_)
      obtain ⟨hdisjoint, hne⟩ := hab
      have hclash {x : Record} (hx : x ∈ rs) (hxr : x.slot ≠ q.slot) : List.Disjoint q.keys x.keys := by
        intro k hk hkx
        obtain hkr | hfree := hnew k hk
        · exact hxr (h.eq_of_key hr hx hkr hkx ▸ hslot.symm)
        · exact hfree x hx hkx
      simp only [Function.onFun]
      split
      next hqa =>
        rw [if_neg fun hqb => hne (hqa.trans hqb.symm)]
        exact hclash hb fun hqb => hne (hqa.trans hqb.symm)
      next hqa =>
        split
        next hqb => exact (hclash ha hqa).symm
        · exact hdisjoint

/-- A record in a free good slot, with keys that none holds, joins. -/
theorem Sound.append {q : Record} (hgood : good.getLsbD q.slot = true) (hfree : ∀ r ∈ rs, r.slot ≠ q.slot)
    (hq : q.FieldsOk) (hnodup : q.keys.Nodup) (hnew : ∀ k ∈ q.keys, ∀ x ∈ rs, k ∉ x.keys) :
    Sound good (rs ++ [q]) where
  slots := by
    rw [List.map_append, List.nodup_append]
    refine ⟨h.slots, by simp, fun a ha b hb => ?_⟩
    obtain ⟨r, hr, rfl⟩ := List.mem_map.1 ha
    rw [List.map_singleton, List.mem_singleton] at hb
    rw [hb]
    exact hfree r hr
  good r hr := by
    obtain hr | hr := List.mem_append.1 hr
    · exact h.good r hr
    · rw [List.mem_singleton.1 hr]
      exact hgood
  fields r hr := by
    obtain hr | hr := List.mem_append.1 hr
    · exact h.fields r hr
    · rw [List.mem_singleton.1 hr]
      exact hq
  keys := by
    rw [List.flatMap_append, List.flatMap_singleton, List.nodup_append]
    refine ⟨h.keys, hnodup, fun a ha b hb hab => ?_⟩
    obtain ⟨x, hx, hax⟩ := List.mem_flatMap.1 ha
    exact hnew b hb x hx (hab ▸ hax)

end

/-! ### What reports and checks leave alone -/

/-- The slots and cores of a list of records, in its order. -/
def cores (rs : List Record) : List (Slot × Core) := rs.map fun r => (r.slot, r.core)

theorem recordAt_core (rs : List Record) (i : Slot) :
    (recordAt rs i).map Record.core = ((cores rs).find? fun c => c.1 = i).map Prod.snd := by
  simp only [cores, recordAt, List.find?_map, Option.map_map]
  rfl

theorem ordered_iff_cores (rs : List Record) : rs.Pairwise Record.before ↔ (cores rs).Pairwise fun a b =>
    rangeOf a.2.2.1.1 a.2.2.1.2 < rangeOf b.2.2.1.1 b.2.2.1.2 ∨
      (rangeOf a.2.2.1.1 a.2.2.1.2 = rangeOf b.2.2.1.1 b.2.2.1.2 ∧ a.1 ≤ b.1) := by
  unfold cores
  rw [List.pairwise_map]
  rfl

/-- A record that keeps its slot and core in the place of another. -/
theorem cores_updateRecord {rs : List Record} (hslots : (rs.map Record.slot).Nodup) {r q : Record} (hr : r ∈ rs)
    (hslot : q.slot = r.slot) (hcore : q.core = r.core) : cores (updateRecord rs q) = cores rs := by
  unfold cores updateRecord
  rw [List.map_map]
  refine List.map_congr_left fun x hx => ?_
  simp only [Function.comp_apply]
  split
  next hxq =>
    obtain rfl : x = r := List.inj_on_of_nodup_map hslots hx hr (hxq.trans hslot)
    rw [hslot, hcore]
  · rfl

/-- A state whose records are sound. -/
def State.Sound (s : State) : Prop := Machine.Sound s.table.good s.table.records

/-- Of sound records, only reports and checks change. -/
structure Remarks (s t : State) : Prop where
  sound : s.Sound → t.Sound
  cores : s.Sound → cores t.table.records = Machine.cores s.table.records

theorem Remarks.of_records_eq {s t : State} (hrecords : t.table.records = s.table.records)
    (hgood : t.table.good = s.table.good) : Remarks s t where
  sound h := by
    rw [State.Sound, hrecords, hgood]
    exact h
  cores _ := by rw [hrecords]

theorem Remarks.refl (s : State) : Remarks s s := .of_records_eq rfl rfl

theorem Remarks.of_table_eq {s t : State} (h : t.table = s.table) : Remarks s t :=
  .of_records_eq (congrArg _ h) (congrArg _ h)

theorem Remarks.trans {s t u : State} (h : Remarks s t) (h' : Remarks t u) : Remarks s u where
  sound hs := h'.sound (h.sound hs)
  cores hs := (h'.cores (h.sound hs)).trans (h.cores hs)

theorem Remarks.coreAt {s t : State} (h : Remarks s t) (hs : s.Sound) (i : Slot) : t.coreAt i = s.coreAt i := by
  unfold State.coreAt State.at
  rw [recordAt_core, recordAt_core, h.cores hs]

theorem Remarks.ordered {s t : State} (h : Remarks s t) (hs : s.Sound) (ho : s.table.Ordered) : t.table.Ordered := by
  rw [TableManager.Ordered, ordered_iff_cores, h.cores hs]
  exact (ordered_iff_cores _).1 ho

theorem mem_of_recordAt {rs : List Record} {i : Slot} {r : Record} (h : recordAt rs i = some r) :
    r ∈ rs ∧ r.slot = i := ⟨List.mem_of_find?_eq_some h, by simpa using List.find?_some h⟩

/-- A record whose reported or check changes. -/
theorem putRecord_remarks (s : State) {i : Slot} {r q : Record} (hr : recordAt s.table.records i = some r)
    (hslot : q.slot = r.slot) (hcore : q.core = r.core) (hq : r.FieldsOk → q.FieldsOk) :
    Remarks s (s.putRecord q) where
  sound h := by
    have hmem := (mem_of_recordAt hr).1
    have hkeys : q.keys = r.keys := congrArg (fun c : Core => c.2.2.2.2.1) hcore
    refine Sound.update h hmem hslot (hq (h.fields r hmem)) ?_ fun k hk => .inl (hkeys ▸ hk)
    rw [hkeys]
    exact (List.nodup_flatMap.1 h.keys).1 r hmem
  cores h := cores_updateRecord h.slots (mem_of_recordAt hr).1 hslot hcore

/-- A CLIFF that comes under check. -/
theorem markCheck_remarks (s : State) (i : Slot) {m : CheckMark} (hm : m = .pending ∨ m = .deferred)
    (hk : ∀ r, recordAt s.table.records i = some r → r.kind.isCliff = true) : Remarks s (s.markCheck i m) := by
  unfold State.markCheck
  split
  next r hr => exact putRecord_remarks s hr rfl rfl fun h => h.recheck (hk r hr) m (.inr hm)
  · exact .refl s

theorem State.isCliff_of_hasMark {s : State} {i : Slot} {m : CheckMark} (h : s.hasMark i m = true) {r : Record}
    (hr : recordAt s.table.records i = some r) : r.kind.isCliff = true ∧ r.check = some m := by
  rw [State.hasMark, hr] at h
  simpa using h

theorem promote_remarks (s : State) : Remarks s s.promote.1 := by
  unfold State.promote
  split
  · exact .refl s
  next d _ =>
    dsimp only
    split
    next hmark =>
      have htaken : Remarks s (s.setReport ({ s.report with deferred := none }.takeCheck d)) := .of_table_eq rfl
      exact htaken.trans (markCheck_remarks _ d (.inl rfl) fun r hr => (State.isCliff_of_hasMark hmark hr).1)
    · exact .of_table_eq rfl

theorem cancelCheck_remarks (s : State) : Remarks s s.cancelCheck := by
  unfold State.cancelCheck State.endCheck
  exact .of_records_eq (by simp) (by simp)

theorem settleChecks_remarks (s : State) : Remarks s s.settleChecks.1 := by
  have hdrop : Remarks s s.dropDeferral := .of_table_eq (by simp)
  unfold State.settleChecks
  dsimp only
  split
  · exact (hdrop.trans (cancelCheck_remarks _)).trans (promote_remarks _)
  · exact hdrop

theorem eventAt_remarks (s before : State) (w : List Record) (a : Option Slot) (i : Slot) :
    Remarks s (State.eventAt before w a s i) := by
  have hwithdrawn : Remarks s (s.withdrawAt w i) := by
    unfold State.withdrawAt
    split
    · exact .of_table_eq (by simp)
    · exact .refl s
  rw [State.eventAt_eq]
  refine hwithdrawn.trans ?_
  unfold State.announceAt
  split
  · exact .refl _
  next r hr =>
    split
    · exact .refl _
    · split
      · have hput := putRecord_remarks (s.withdrawAt w i) (q := { r with reported := true }) hr rfl rfl fun h =>
          h.restate h.1 r.age true
        exact hput.trans (.of_table_eq (by simp))
      · exact .of_table_eq (by simp)

/-- A refresh hands on a frame at most. -/
theorem refresh_remarks (s before : State) (m : Option Slot) : Remarks s (State.refresh before m s) :=
  .of_table_eq (by simp)

theorem foldl_eventAt_remarks (s before : State) (w : List Record) (a : Option Slot) (slots : List Slot) :
    Remarks s (slots.foldl (State.eventAt before w a) s) := by
  induction slots generalizing s with
  | nil => exact .refl s
  | cons i slots ih => exact (eventAt_remarks s before w a i).trans (ih _)

theorem startCheck_remarks (s : State) : Remarks s s.startCheck := by
  unfold State.startCheck
  split
  · dsimp only
    split
    · refine Remarks.trans (t := s.setReport _) (.of_table_eq rfl) (.of_records_eq (by simp) ?_)
      unfold State.resolveCheck
      split
      · simp [State.pushItem_table]
      · rfl
    · exact .of_table_eq (by simp)
  · exact .refl s

/-- From the ordering on, a completion changes reports and checks alone. -/
theorem complete_remarks (s : State) (v : Served) :
    Remarks (v.state.setRecords (sortRecords v.state.table.records)) (s.complete v) := by
  have hreported := (settleChecks_remarks (v.state.setRecords (sortRecords v.state.table.records))).trans
    ((foldl_eventAt_remarks _ s v.withdrawn v.applied (List.finRange 24)).trans (refresh_remarks _ s v.merged))
  unfold State.complete
  refine Remarks.trans ?_ (.of_records_eq (s := State.notifyTable _ s) (State.takeWork_table_records _)
    (State.takeWork_table_good _))
  refine Remarks.trans ?_ (.of_table_eq (State.notifyTable_table _ _))
  split
  · exact hreported.trans (startCheck_remarks _)
  · exact hreported

section
variable {s : State} {v : Served} (h : v.state.Sound)
include h

theorem State.setRecords_sort_sound : (v.state.setRecords (sortRecords v.state.table.records)).Sound := Sound.sort h

theorem State.complete_sound : (s.complete v).Sound := (complete_remarks s v).sound (State.setRecords_sort_sound h)

theorem State.complete_ordered : (s.complete v).table.Ordered :=
  (complete_remarks s v).ordered (State.setRecords_sort_sound h) (sortRecords_pairwise _)

/-- After a completion a slot shows the core of what the service left in it. -/
theorem State.complete_coreAt (i : Slot) : (s.complete v).coreAt i = v.state.coreAt i := by
  rw [(complete_remarks s v).coreAt (State.setRecords_sort_sound h)]
  unfold State.coreAt State.at
  rw [State.setRecords_table, recordAt_sortRecords h.slots]

end

end Sys2Proof.Machine
end

section
/-! PROOFS. The place of a new record (R45, R67, R68), and sound records through the service of each kind of item (R56 to R65,
R71): the invariants of the table (R46 to R48, R63). -/

namespace Sys2Proof.Machine

open Sys2Proof

/-! ### The place of a new record -/

/-- The records after a new one took a slot, and with it the place of the slot's holder (R58, R67). -/
def placed (rs : List Record) (i : Slot) (r : Record) : List Record := removeSlot rs i ++ [{ r with slot := i }]

theorem mem_removeSlot {rs : List Record} {i : Slot} {r : Record} : r ∈ removeSlot rs i ↔ r ∈ rs ∧ r.slot ≠ i := by
  simp [removeSlot]

theorem recordAt_eq_none_iff (rs : List Record) (i : Slot) : recordAt rs i = none ↔ ∀ r ∈ rs, r.slot ≠ i := by
  simp [recordAt]

theorem freeIn_iff (good : BitVec 24) (rs : List Record) (i : Slot) : freeIn good rs i = true ↔
    good.getLsbD i = true ∧ ∀ r ∈ rs, r.slot ≠ i := by
  rw [freeIn, Bool.and_eq_true, Option.isNone_iff_eq_none, recordAt_eq_none_iff]

theorem State.freeSlot_eq (s : State) : s.freeSlot = Fin.find? (freeIn s.table.good s.table.records) :=
  Fin.find?_eq_find?_finRange.symm

/-- In an ordered list the last unprotected record is the victim (R67). -/
theorem isVictim_of_victim {rs : List Record} (hord : rs.Pairwise Record.before) {v : Record}
    (hv : victim rs = some v) : IsVictim rs v := by
  unfold victim at hv
  obtain ⟨before, hlist⟩ := List.getLast?_eq_some_iff.1 hv
  have hmem : v ∈ rs.filter fun r => !r.protected := by rw [hlist]; simp
  have hvp := List.mem_filter.1 hmem
  refine ⟨hvp.1, by simpa using hvp.2, fun q hq hqp => ?_⟩
  have hqm : q ∈ rs.filter fun r => !r.protected := List.mem_filter.2 ⟨hq, by simpa using hqp⟩
  have hpair := hord.sublist (List.filter_sublist (p := fun r : Record => !r.protected))
  rw [hlist] at hqm hpair
  obtain hq | hq := List.mem_append.1 hqm
  · exact (List.pairwise_append.1 hpair).2.2 q hq v (by simp)
  · rw [List.mem_singleton.1 hq]
    exact .inr ⟨rfl, le_rfl⟩

theorem victim_eq_none {rs : List Record} (hv : victim rs = none) (v : Record) : ¬ IsVictim rs v := by
  rintro ⟨hmem, hp, -⟩
  unfold victim at hv
  rw [List.getLast?_eq_none_iff, List.filter_eq_nil_iff] at hv
  simpa [hp] using hv v hmem

/-- Two victims of an ordered list in slots of their own are one. -/
theorem IsVictim.unique {rs : List Record} (hslots : (rs.map Record.slot).Nodup) {v w : Record} (hv : IsVictim rs v)
    (hw : IsVictim rs w) : v = w := by
  obtain ⟨hvm, hvp, hvlast⟩ := hv
  obtain ⟨hwm, hwp, hwlast⟩ := hw
  have hvw := hvlast w hwm hwp
  have hwv := hwlast v hvm hvp
  refine List.inj_on_of_nodup_map hslots hvm hwm (Fin.ext ?_)
  simp only [Record.before, Fin.le_def] at hvw hwv
  omega

/-- What a refused record leaves: TABLE_FULL raised and a discard counted (R68). -/
def State.refused (s : State) : State :=
  (s.handing fun t => t.setTable { t.table with full := true }).count .tableDiscard

theorem State.refused_table (s : State) : s.refused.table = { s.table with full := true } := by
  simp [State.refused]

/-- A new record takes the slot that R45 and R67 give it, or is refused (R58, R68). -/
theorem State.placeRecord_cases {s : State} (hslots : (s.table.records.map Record.slot).Nodup)
    (hord : s.table.records.Pairwise Record.before) (r : Record) :
    (∃ i, TakesSlot s.table.good s.table.records r.range i ∧
      s.placeRecord r = (s.setRecords (placed s.table.records i r), some i)) ∨
    (IsRefused s.table.good s.table.records r.range ∧ s.placeRecord r = (s.refused, none)) := by
  unfold State.placeRecord
  split
  next i hi =>
    rw [State.freeSlot_eq, Fin.find?_eq_some_iff] at hi
    refine .inl ⟨i, .inl hi, ?_⟩
    have hkeep : removeSlot s.table.records i = s.table.records := by
      refine List.filter_eq_self.2 fun q hq => ?_
      simpa using ((freeIn_iff _ _ _).1 hi.1).2 q hq
    rw [placed, hkeep]
  next hnone =>
    rw [State.freeSlot_eq, Fin.find?_eq_none_iff] at hnone
    split
    next v hv =>
      obtain ⟨hv, hfar⟩ := Option.filter_eq_some_iff.1 hv
      exact .inl ⟨v.slot, .inr ⟨hnone, v, isVictim_of_victim hord hv, rfl, by simpa using hfar⟩, rfl⟩
    next hv =>
      refine .inr ⟨⟨hnone, fun v hvic => ?_⟩, rfl⟩
      rw [Option.filter_eq_none_iff] at hv
      cases hw : victim s.table.records with
      | none => exact absurd hvic (victim_eq_none hw v)
      | some w =>
        obtain rfl := (isVictim_of_victim hord hw).unique hslots hvic
        simpa using hv w hw

theorem TakesSlot.good {good : BitVec 24} {rs : List Record} (h : Machine.Sound good rs) {n : Nat} {i : Slot}
    (hi : TakesSlot good rs n i) : good.getLsbD i = true := by
  obtain ⟨hfree, -⟩ | ⟨-, v, ⟨hv, -⟩, rfl, -⟩ := hi
  · exact ((freeIn_iff _ _ _).1 hfree).1
  · exact h.good v hv

/-- A new record in a slot of its own with keys that none holds. -/
theorem Sound.placed {good : BitVec 24} {rs : List Record} (h : Machine.Sound good rs) {r : Record} {i : Slot}
    (hi : TakesSlot good rs r.range i) (hr : r.FieldsOk) (hnodup : r.keys.Nodup)
    (hnew : ∀ k ∈ r.keys, ∀ x ∈ rs, k ∉ x.keys) : Machine.Sound good (Machine.placed rs i r) := by
  refine (h.removeSlot i).append (hi.good h) (fun x hx => (mem_removeSlot.1 hx).2) hr hnodup fun k hk x hx => ?_
  exact hnew k hk x (mem_removeSlot.1 hx).1

/-- A record created in sound, ordered records leaves them sound (R58, R63, R67, R68). -/
theorem State.placeRecord_sound {s : State} (h : s.Sound) (hord : s.table.Ordered) {r : Record} (hr : r.FieldsOk)
    (hnodup : r.keys.Nodup) (hnew : ∀ k ∈ r.keys, ∀ x ∈ s.table.records, k ∉ x.keys) :
    (s.placeRecord r).1.Sound := by
  obtain ⟨i, hi, heq⟩ | ⟨-, heq⟩ := State.placeRecord_cases h.slots hord r
  · rw [heq]
    exact h.placed hi hr hnodup hnew
  · rw [heq, State.Sound, State.refused_table]
    exact h

/-! ### Own observations -/

theorem mem_of_nearest {rs : List Record} {pass : Record → Bool} {x y : Int} {n : Nat} {r : Record}
    (h : nearest rs pass x y n = some r) : r ∈ rs ∧ pass r = true := by
  obtain ⟨hmem, hpass, -⟩ := nearestOf_of_nearest h
  exact ⟨hmem, hpass⟩

/-- A merge of an own observation leaves the records sound (R57). -/
theorem State.putMergeOwn_sound {s : State} (h : s.Sound) {r : Record} (hr : r ∈ s.table.records) {kind : Hazard}
    (hk : r.kind.sameKind kind = true) (o : Origin) {p : Int × Int} (hp : rangeOf p.1 p.2 ≤ rangeLimit) (rc : Recon) :
    (s.putRecord (r.mergeOwn kind o p rc)).Sound :=
  Sound.update h hr rfl ((h.fields r hr).mergeOwn hk o hp rc) ((List.nodup_flatMap.1 h.keys).1 r hr)
    fun _ hx => .inl hx

theorem State.mergeOrCreate_sound {s : State} (h : s.Sound) (hord : s.table.Ordered) (kind : Hazard) (o : Origin)
    {p : Int × Int} (hp : rangeOf p.1 p.2 ≤ rangeLimit) (rc : Recon) : (s.mergeOrCreate kind o p rc).state.Sound := by
  unfold State.mergeOrCreate
  split
  next r hr =>
    obtain ⟨hmem, hkind⟩ := mem_of_nearest hr
    exact State.putMergeOwn_sound h hmem hkind o hp rc
  · exact State.placeRecord_sound h hord (ownRecord_fieldsOk kind o hp rc) List.nodup_nil (by simp [ownRecord])

/-- What a WALL observation first makes of one record (R60). -/
def Record.resetRun (r : Record) : Record := if r.isOwnWall then { r with clearRun := some 0 } else r

theorem Record.resetRun_slot (r : Record) : r.resetRun.slot = r.slot := by
  unfold Record.resetRun
  split <;> rfl

theorem Record.resetRun_keys (r : Record) : r.resetRun.keys = r.keys := by
  unfold Record.resetRun
  split <;> rfl

theorem Record.resetRun_range (r : Record) : r.resetRun.range = r.range := by
  unfold Record.resetRun
  split <;> rfl

theorem Record.FieldsOk.resetRun {r : Record} (h : r.FieldsOk) : r.resetRun.FieldsOk := by
  unfold Record.resetRun
  split
  next hw => exact h.clearRun hw (by decide)
  · exact h

theorem resetClearRuns_eq (rs : List Record) : resetClearRuns rs = rs.filterMap fun r => some r.resetRun :=
  (congrFun List.filterMap_eq_map rs).symm

theorem Sound.resetClearRuns {good : BitVec 24} {rs : List Record} (h : Machine.Sound good rs) :
    Machine.Sound good (resetClearRuns rs) := by
  rw [resetClearRuns_eq]
  refine h.filterMap (fun r q hq => ?_) (fun r q hq => ?_) fun r _ q hq hf => ?_ <;>
    obtain rfl := Option.some.inj hq
  · exact r.resetRun_slot
  · rw [r.resetRun_keys]
  · exact hf.resetRun

theorem resetClearRuns_ordered {rs : List Record} (h : rs.Pairwise Record.before) :
    (resetClearRuns rs).Pairwise Record.before := by
  refine List.pairwise_map.2 (h.imp fun {a b} hab => ?_)
  change a.resetRun.before b.resetRun
  simp only [Record.before, Record.resetRun_range, Record.resetRun_slot]
  exact hab

/-- The records an own observation finds: a WALL observation resets the clear runs first (R60). -/
def State.wallReset (s : State) (kind : Hazard) (o : Origin) : State :=
  if kind.isObstacle && o = .wall then s.setRecords (resetClearRuns s.table.records) else s

theorem State.wallReset_sound {s : State} (h : s.Sound) (kind : Hazard) (o : Origin) :
    (s.wallReset kind o).Sound := by
  unfold State.wallReset
  split
  · exact Sound.resetClearRuns h
  · exact h

theorem State.wallReset_ordered {s : State} (h : s.table.Ordered) (kind : Hazard) (o : Origin) :
    (s.wallReset kind o).table.Ordered := by
  unfold State.wallReset
  split
  · exact resetClearRuns_ordered h
  · exact h

theorem State.serveOwn_eq (s : State) (kind : Hazard) (o : Origin) (x y : Int) (tag : Option Seq) :
    s.serveOwn kind o x y tag =
      if rangeLimit < rangeOf ((s.reconcile tag).point x y).1 ((s.reconcile tag).point x y).2 then
        { state := s.wallReset kind o }
      else (s.wallReset kind o).mergeOrCreate kind o ((s.reconcile tag).point x y) (s.reconcile tag) := rfl

theorem State.serveOwn_sound {s : State} (h : s.Sound) (hord : s.table.Ordered) (kind : Hazard) (o : Origin) (x y : Int)
    (tag : Option Seq) : (s.serveOwn kind o x y tag).state.Sound := by
  have hreset := State.wallReset_sound h kind o
  rw [State.serveOwn_eq]
  split
  · exact hreset
  next hp => exact State.mergeOrCreate_sound hreset (State.wallReset_ordered hord kind o) kind o (not_lt.1 hp) _

/-- The decision on a CLIFF that was just created (R59, R99). -/
theorem State.decideCheck_sound {s : State} (h : s.Sound) {i : Slot}
    (hk : ∀ r, recordAt s.table.records i = some r → r.kind.isCliff = true) : (s.decideCheck i).Sound := by
  have hmark (u : State) (hu : u.table = s.table) (m : CheckMark) (hm : m = .pending ∨ m = .deferred) :
      (u.markCheck i m).Sound := by
    have hsound : u.Sound := by rw [State.Sound, hu]; exact h
    exact (markCheck_remarks u i hm (by rw [hu]; exact hk)).sound hsound
  unfold State.decideCheck
  split
  · exact hmark _ (by simp) _ (.inl rfl)
  · exact hmark _ (by simp) _ (.inr rfl)
  · split
    next r hr =>
      have hmem := (mem_of_recordAt hr).1
      have hf := h.fields r hmem
      exact Sound.update h hmem rfl (hf.restate (max_le hf.1 (by decide)) r.age r.reported)
        ((List.nodup_flatMap.1 h.keys).1 r hmem) fun _ hx => .inl hx
    · exact h

theorem recordAt_removeSlot (rs : List Record) (i j : Slot) :
    recordAt (removeSlot rs i) j = if j = i then none else recordAt rs j := by
  induction rs with
  | nil => simp [recordAt, removeSlot]
  | cons r rs ih =>
    unfold recordAt removeSlot at *
    by_cases hi : r.slot = i
    · by_cases hj : j = i
      · simp [hi, hj]
      · simpa [hi, hj, Ne.symm hj] using ih
    · by_cases hj : r.slot = j
      · have : j ≠ i := fun h => hi (hj.trans h)
        simp [hj, this]
      · simpa [hi, hj] using ih

theorem recordAt_placed (rs : List Record) (i j : Slot) (r : Record) :
    recordAt (placed rs i r) j = if j = i then some { r with slot := i } else recordAt rs j := by
  have hjoin : recordAt (placed rs i r) j = (recordAt (removeSlot rs i) j).or (recordAt [{ r with slot := i }] j) :=
    List.find?_append
  rw [hjoin, recordAt_removeSlot]
  by_cases hj : j = i
  · simp [hj, recordAt]
  · simp [hj, Ne.symm hj, recordAt]

theorem State.serveCliff_sound {s : State} (h : s.Sound) (hord : s.table.Ordered) (o : Origin) (x y : Int)
    (tag : Option Seq) : (s.serveCliff o x y tag).state.Sound := by
  unfold State.serveCliff
  dsimp only
  split
  · exact h
  next hp =>
    have hp := not_lt.1 hp
    split
    next r hr =>
      obtain ⟨hmem, hrug⟩ := mem_of_nearest hr
      have hkind : r.kind = .rug .dark := by
        obtain ⟨hk, -⟩ := Bool.and_eq_true_iff.1 hrug
        exact of_decide_eq_true hk
      rw [State.Sound, State.overruleClass, State.handing_table]
      exact State.putMergeOwn_sound h hmem (by rw [hkind]; rfl) .floor hp _
    · split
      next r hr =>
        obtain ⟨hmem, hkind⟩ := mem_of_nearest hr
        exact State.putMergeOwn_sound h hmem hkind o hp _
      · have hnew := State.placeRecord_sound h hord (ownRecord_fieldsOk .cliff o hp (s.reconcile tag)) List.nodup_nil
          (by simp [ownRecord])
        obtain ⟨i, hi, heq⟩ | ⟨-, heq⟩ := State.placeRecord_cases h.slots hord
          (ownRecord .cliff o ((s.reconcile tag).point x y) (s.reconcile tag))
        · rw [heq] at hnew ⊢
          refine State.decideCheck_sound hnew fun r hr => ?_
          rw [State.setRecords_table, recordAt_placed, if_pos rfl] at hr
          cases hr
          rfl
        · rw [heq] at hnew ⊢
          exact hnew

theorem State.serveEvidence_sound {s : State} (h : s.Sound) (hord : s.table.Ordered) (rug : Option Hazard) (o : Origin)
    (x y : Int) (tag : Option Seq) : (s.serveEvidence rug o x y tag).state.Sound := by
  have hgone : (s.setRecords (s.table.records.filter fun r =>
      !clearedBy ((s.reconcile tag).point x y) r)).Sound := h.sublist List.filter_sublist
  unfold State.serveEvidence
  dsimp only
  split
  · split
    · exact hgone
    next hp => exact State.mergeOrCreate_sound hgone (hord.sublist List.filter_sublist) _ _ (not_lt.1 hp) _
  · exact hgone

/-! ### Own clearing of walls -/

/-- What a wall-clear observation makes of one record (R62). -/
def Record.clearedOnce (mx my ax ay : Int) (r : Record) : Option Record :=
  if (r.clearOnce mx my ax ay).clearedOut then none else some (r.clearOnce mx my ax ay)

theorem filter_map_eq_filterMap {α β : Type} (f : α → β) (p : β → Bool) (l : List α) :
    (l.map f).filter (fun b => !p b) = l.filterMap fun a => if p (f a) then none else some (f a) := by
  induction l with
  | nil => rfl
  | cons a l ih => cases hp : p (f a) <;> simp [hp, ih]

theorem Record.clearOnce_slot (mx my ax ay : Int) (r : Record) : (r.clearOnce mx my ax ay).slot = r.slot := by
  unfold Record.clearOnce
  split <;> rfl

theorem Record.clearOnce_keys (mx my ax ay : Int) (r : Record) : (r.clearOnce mx my ax ay).keys = r.keys := by
  unfold Record.clearOnce
  split <;> rfl

theorem Record.slot_of_clearedOnce {mx my ax ay : Int} {r q : Record} (h : r.clearedOnce mx my ax ay = some q) :
    q.slot = r.slot := by
  unfold Record.clearedOnce at h
  split at h
  · cases h
  · rw [← Option.some.inj h, Record.clearOnce_slot]

theorem Record.FieldsOk.clearedOnce {mx my ax ay : Int} {r q : Record} (hf : r.FieldsOk)
    (h : r.clearedOnce mx my ax ay = some q) : q.FieldsOk := by
  unfold Record.clearedOnce at h
  split at h
  · cases h
  next hout =>
    cases h
    unfold Record.clearOnce at hout ⊢
    split at hout
    next hin =>
      rw [if_pos hin]
      obtain ⟨hw, -⟩ := Bool.and_eq_true_iff.1 hin
      refine hf.clearRun hw ?_
      by_contra hge
      refine hout (Bool.and_eq_true_iff.2 ⟨hw, ?_⟩)
      exact decide_eq_true (not_lt.1 hge)
    next hin =>
      rw [if_neg hin]
      exact hf

theorem State.serveClear_records (s : State) (mx my ax ay : Int) :
    (s.serveClear mx my ax ay).state = s.setRecords (s.table.records.filterMap (Record.clearedOnce mx my ax ay)) :=
  congrArg s.setRecords (filter_map_eq_filterMap _ _ _)

theorem State.serveClear_sound {s : State} (h : s.Sound) (mx my ax ay : Int) :
    (s.serveClear mx my ax ay).state.Sound := by
  rw [State.serveClear_records]
  refine Sound.filterMap h (fun r q => Record.slot_of_clearedOnce) (fun r q hq => ?_) fun r _ q hq hf => hf.clearedOnce hq
  unfold Record.clearedOnce at hq
  split at hq
  · cases hq
  · rw [← Option.some.inj hq, Record.clearOnce_keys]

/-! ### Peer reports -/

theorem Record.without_eq (k : Key) (r : Record) : r.without k =
    if r.keys.contains k then (if (r.dropKey k).hasOrigin then some (r.dropKey k) else none) else some r := by
  have horigin : (r.dropKey k).hasOrigin = true ↔ ¬ (r.own = none ∧ (r.keys.filter (· ≠ k)) = []) := by
    simp only [Record.hasOrigin, Record.dropKey, Bool.or_eq_true, Option.isSome_iff_ne_none, Bool.not_eq_true',
      List.isEmpty_eq_false_iff]
    tauto
  unfold Record.without
  by_cases hk : k ∈ r.keys
  · rw [if_pos hk, if_pos (List.contains_iff_mem.2 hk)]
    by_cases ho : r.own = none ∧ (r.keys.filter (· ≠ k)) = []
    · rw [if_pos ho, if_neg (fun h => horigin.1 h ho)]
    · rw [if_neg ho, if_pos (horigin.2 ho)]
      rfl
  · rw [if_neg hk, if_neg (fun h => hk (List.contains_iff_mem.1 h))]

/-- Records with an origin lose a key one by one (R63, R65). -/
theorem removeKey_eq_filterMap {rs : List Record} (h : ∀ r ∈ rs, r.hasOrigin = true) (k : Key) :
    removeKey rs k = rs.filterMap (Record.without k) := by
  unfold removeKey
  induction rs with
  | nil => rfl
  | cons r rs ih =>
    have hr := h r List.mem_cons_self
    rw [List.map_cons, List.filter_cons, List.filterMap_cons, ih fun q hq => h q (List.mem_cons_of_mem r hq),
      Record.without_eq]
    by_cases hk : r.keys.contains k = true
    · rw [if_pos hk, if_pos hk]
      cases ho : (r.dropKey k).hasOrigin <;> rfl
    · rw [if_neg hk, if_neg hk, if_pos hr]

theorem Record.slot_of_without {k : Key} {r q : Record} (h : r.without k = some q) : q.slot = r.slot := by
  unfold Record.without at h
  (repeat' split at h) <;> cases h <;> rfl

theorem Sound.without {good : BitVec 24} {rs : List Record} (h : Machine.Sound good rs) (k : Key) :
    Machine.Sound good (rs.filterMap (Record.without k)) := by
  refine h.filterMap (fun r q => Record.slot_of_without) (fun r q hq => ?_) fun r _ q hq hf => ?_
  · unfold Record.without at hq
    (repeat' split at hq) <;> cases hq
    · exact List.filter_sublist
    · exact List.Sublist.refl _
  · rw [Record.without_eq] at hq
    split at hq
    · split at hq
      next ho =>
        cases hq
        exact hf.dropKey k ho
      · cases hq
    · cases hq
      exact hf

theorem not_mem_keys_of_without {k : Key} {rs : List Record} {q : Record} (hq : q ∈ rs.filterMap (Record.without k)) :
    k ∉ q.keys := by
  obtain ⟨r, -, hr⟩ := List.mem_filterMap.1 hq
  unfold Record.without at hr
  split at hr
  · split at hr
    · cases hr
    · cases hr
      simp
  next hk =>
    cases hr
    exact hk

theorem before_of_without {k : Key} {a b a' b' : Record} (h : a.before b) (ha : a.without k = some a')
    (hb : b.without k = some b') : a'.before b' := by
  unfold Record.without at ha hb
  (repeat' split at ha) <;> (repeat' split at hb) <;> cases ha <;> cases hb <;> exact h

theorem without_ordered {rs : List Record} (h : rs.Pairwise Record.before) (k : Key) :
    (rs.filterMap (Record.without k)).Pairwise Record.before :=
  h.filterMap (Record.without k) fun _ _ hab _ ha _ hb => before_of_without hab ha hb

theorem State.removeKey_eq {s : State} (h : s.Sound) (k : Key) :
    removeKey s.table.records k = s.table.records.filterMap (Record.without k) :=
  removeKey_eq_filterMap (fun r hr => (h.fields r hr).2.2.1) k

theorem State.addPeer_sound {s : State} (h : s.Sound) (hord : s.table.Ordered) {r : PeerReport}
    (hc : r.conf ≤ maxConf) (rc : Recon) : (s.addPeer r rc).Sound := by
  unfold State.addPeer
  dsimp only
  rw [State.removeKey_eq h]
  have hleft : (s.setRecords (s.table.records.filterMap (Record.without r.key))).Sound := Sound.without h r.key
  have hkey {x : Record} (hx : x ∈ s.table.records.filterMap (Record.without r.key)) : r.key ∉ x.keys :=
    not_mem_keys_of_without hx
  have hconf : r.conf' rc ≤ maxConf := (rc.lower_le _).trans hc
  split
  · exact h
  next hp =>
    split
    next t ht =>
      obtain ⟨hmem, hkind⟩ := mem_of_nearest ht
      have hown := (List.nodup_flatMap.1 hleft.keys).1 t hmem
      refine Sound.update hleft hmem rfl ((hleft.fields t hmem).mergePeer r.key hkind _) ?_ fun k hk => ?_
      · have hsub : (if t.keys.length < maxKeys then t.keys else t.keys.drop 1).Sublist t.keys := by
          split
          · exact List.Sublist.refl _
          · exact List.drop_sublist _ _
        refine List.nodup_append.2 ⟨hown.sublist hsub, List.nodup_singleton _, fun a ha b hb hab => ?_⟩
        rw [List.mem_singleton.1 hb] at hab
        exact hkey hmem (hab ▸ hsub.subset ha)
      · obtain hk | hk := List.mem_append.1 hk
        · refine .inl ?_
          split at hk
          · exact hk
          · exact List.mem_of_mem_drop hk
        · rw [List.mem_singleton.1 hk]
          exact .inr fun x hx => hkey hx
    · refine State.placeRecord_sound hleft (without_ordered hord _) (peerRecord_fieldsOk r.key r.kind (not_lt.1 hp) hconf)
        (List.nodup_singleton _) fun k hk x hx => ?_
      rw [List.mem_singleton.1 hk]
      exact hkey hx

theorem State.serveAdd_sound {s : State} (h : s.Sound) (hord : s.table.Ordered) {r : PeerReport}
    (hc : r.conf ≤ maxConf) : (s.serveAdd r).state.Sound := by
  unfold State.serveAdd
  dsimp only
  split
  · exact h
  · exact State.addPeer_sound h hord hc _

theorem mem_of_keyHolder {rs : List Record} {k : Key} {r : Record} (h : keyHolder rs k = some r) :
    r ∈ rs ∧ k ∈ r.keys := by
  exact ⟨List.mem_of_find?_eq_some h, by simpa using List.find?_some h⟩

/-- The records of a slot's holder and of its replacement go alike. -/
theorem removeSlot_updateRecord (rs : List Record) (q : Record) :
    removeSlot (updateRecord rs q) q.slot = removeSlot rs q.slot := by
  induction rs with
  | nil => rfl
  | cons r rs ih =>
    unfold removeSlot updateRecord at *
    rw [List.map_cons, List.filter_cons, List.filter_cons, ih]
    by_cases hr : r.slot = q.slot
    · simp [hr]
    · simp [hr]

theorem State.serveUpdate_sound {s : State} (h : s.Sound) (hord : s.table.Ordered) {r : PeerReport}
    (hc : r.conf ≤ maxConf) : (s.serveUpdate r).state.Sound := by
  unfold State.serveUpdate
  dsimp only
  split
  · exact h
  · split
    · exact State.addPeer_sound h hord hc _
    next t ht =>
      obtain ⟨hmem, -⟩ := mem_of_keyHolder ht
      dsimp only
      split
      · have hgone := removeSlot_updateRecord s.table.records (t.updatePeer r.kind (r.conf' (s.reconcile r.tag)))
        exact (congrArg (Machine.Sound s.table.good) hgone).mpr (h.removeSlot t.slot)
      next hstays =>
        refine Sound.update h hmem rfl ?_ ((List.nodup_flatMap.1 h.keys).1 t hmem) fun _ hx => .inl hx
        exact (h.fields t hmem).updatePeer r.kind (((s.reconcile r.tag).lower_le _).trans hc)
          (Bool.eq_false_iff.2 hstays)

theorem State.serveWithdraw_sound {s : State} (h : s.Sound) (r : PeerReport) : (s.serveWithdraw r).state.Sound := by
  have hleft : (s.setRecords (s.table.records.filterMap (Record.without r.key))).Sound := Sound.without h r.key
  rw [← State.removeKey_eq h] at hleft
  exact hleft

/-! ### Check outcomes -/

theorem Record.applyOutcome_slot (r : Record) (o : Outcome) : (r.applyOutcome o).slot = r.slot := by
  cases o <;> rfl

theorem Record.applyOutcome_keys (r : Record) (o : Outcome) : (r.applyOutcome o).keys = r.keys := by
  cases o <;> rfl

/-- The records after an outcome on the record of a slot (R71, R72). -/
theorem State.outcomeOn_table (s : State) (o : Outcome) {r : Record} :
    (s.outcomeOn o r.slot r).table = { s.table with
      records := if r.endsFar then removeSlot s.table.records r.slot
        else updateRecord s.table.records (r.applyOutcome o) } := by
  have hgone : removeSlot (updateRecord s.table.records (r.applyOutcome o)) r.slot =
      removeSlot s.table.records r.slot := by
    rw [← Record.applyOutcome_slot r o]
    exact removeSlot_updateRecord _ _
  unfold State.outcomeOn
  cases hfar : r.endsFar <;> cases o <;> simp [State.putRecord, hgone]

theorem State.applyAt_sound {s : State} (h : s.Sound) (o : Outcome) (slot : Slot) : (s.applyAt o slot).Sound := by
  unfold State.applyAt
  split
  next r hr =>
    split
    next hmark =>
      obtain ⟨hmem, rfl⟩ := mem_of_recordAt hr
      rw [State.Sound, State.outcomeOn_table]
      dsimp only
      split
      · exact h.removeSlot r.slot
      next hfar =>
        have hrange : r.range ≤ rangeLimit := not_lt.1 (by simpa [Record.endsFar] using hfar)
        refine Sound.update h hmem (r.applyOutcome_slot o)
          ((h.fields r hmem).applyOutcome (State.isCliff_of_hasMark hmark hr).1 o hrange) ?_ fun k hk => .inl ?_
        · rw [r.applyOutcome_keys]
          exact (List.nodup_flatMap.1 h.keys).1 r hmem
        · rwa [r.applyOutcome_keys] at hk
    · exact h
  · exact h

theorem State.serveOutcome_sound {s : State} (h : s.Sound) (o : Outcome) (slot : Slot) :
    (s.serveOutcome o slot).state.Sound := by
  rw [serveOutcome_eq]
  refine (promote_remarks _).sound ?_
  rw [State.Sound, State.endCheck, State.handing_table]
  exact State.applyAt_sound h o slot

end Sys2Proof.Machine
end

section
/-! PROOFS. The invariants of the table's records (R46 to R49, R63, R75): sound, ordered, and none outside RUN. -/

namespace Sys2Proof.Machine

open Sys2Proof

/-- The table's records are sound and ordered, and there are none outside RUN. -/
structure State.RecordsOk (s : State) : Prop where
  sound : s.Sound
  ordered : s.table.Ordered
  atRest : s.running = false → s.table.records = []

theorem State.TableOk.recordsOk {s : State} (h : s.TableOk) : s.RecordsOk := by
  obtain ⟨-, ⟨hslots, hgood⟩, hord, hfields, hkeys, hrest⟩ := h
  exact ⟨⟨hslots, hgood, hfields, hkeys⟩, hord, fun hr => (hrest hr).1⟩

theorem State.RecordsOk.congr {s t : State} (h : s.RecordsOk) (hrecords : t.table.records = s.table.records)
    (hgood : t.table.good = s.table.good) (hrun : t.running = s.running) : t.RecordsOk where
  sound := (Remarks.of_records_eq hrecords hgood).sound h.sound
  ordered := by
    rw [TableManager.Ordered, hrecords]
    exact h.ordered
  atRest hr := by
    rw [hrecords]
    exact h.atRest (hrun.symm.trans hr)

theorem State.RecordsOk.of_records_nil {s : State} (h : s.table.records = []) : s.RecordsOk where
  sound := by
    rw [State.Sound, h]
    exact .nil _
  ordered := by
    rw [TableManager.Ordered, h]
    exact List.Pairwise.nil
  atRest _ := h

/-- A completion in RUN of a service that left the records sound. -/
theorem State.complete_recordsOk {s : State} {v : Served} (hrun : s.running = true) (hv : v.state.Sound)
    (hkept : v.state.running = s.running) : (s.complete v).RecordsOk where
  sound := State.complete_sound hv
  ordered := State.complete_ordered hv
  atRest hr := by
    have hends : (s.complete v).running = true := (runningKept true).complete (hkept.trans hrun)
    rw [hends] at hr
    cases hr

@[simp] theorem State.resolveCheck_table_good (s : State) : s.resolveCheck.table.good = s.table.good := by
  unfold State.resolveCheck
  split <;> simp [State.pushItem_table]

theorem Course.keys_of_onRecord {c : Course} {r q : Record} (h : c.onRecord r = some q) : q.keys = r.keys := by
  cases c with
  | move path =>
    have h : (r.carry (pathSteps path)).judgeRange = some q := h
    unfold Record.judgeRange at h
    (repeat' split at h) <;> cases h <;> rfl
  | degrade =>
    have h : r.degrade = some q := h
    unfold Record.degrade at h
    dsimp only at h
    split at h <;> cases h
    rfl
  | adopt => cases h; rfl
  | hold => cases h; rfl
  | current => cases h; rfl

theorem Record.keys_of_aged {hd : ReportHandler} {n : Nat} {r q : Record} (h : r.aged hd n = some q) :
    q.keys = r.keys := by
  unfold Record.aged at h
  split at h
  · cases h
  · rw [← Option.some.inj h, Record.correctCheck_older]

section
variable {s : State} (h : s.RecordsOk)
include h

theorem State.RecordsOk.takeWork : s.takeWork.RecordsOk := h.congr (by simp) (by simp) (by simp)

theorem State.RecordsOk.carryEnd : s.carryEnd.RecordsOk := by
  cases hwork : s.table.work
  case carrying c =>
    cases hrun : s.running
    · simpa [State.carryEnd, hwork, hrun] using h
    · rw [s.carryEnd_of_carrying c hrun hwork]
      refine State.RecordsOk.takeWork (.congr (s := s.carried c) ⟨?_, sortRecords_pairwise _, fun hr => ?_⟩
        (by simp) (by simp) (by simp))
      · rw [State.Sound, State.carried_table, carryRecords_eq_filterMap]
        refine Sound.sort (h.sound.filterMap c.course.slot_of_onRecord (fun r q hq => ?_) fun r _ q hq hf =>
          hf.onRecord _ hq)
        rw [Course.keys_of_onRecord hq]
      · rw [State.carried_running, hrun] at hr
        cases hr
  all_goals simpa [State.carryEnd, hwork] using h

theorem State.RecordsOk.ageTicksApplied : s.ageTicksApplied.RecordsOk := by
  cases hwork : s.table.work
  case aging n =>
    cases hrun : s.running
    · simpa [State.ageTicksApplied, hwork, hrun] using h
    · rw [State.ageTicksApplied_of_aging hrun hwork]
      refine State.RecordsOk.takeWork
        (.congr (s := s.setRecords (sortRecords (ageRecords s.report n s.table.records)))
          ⟨?_, sortRecords_pairwise _, fun hr => ?_⟩ (by simp) (by simp) (by simp))
      · rw [State.Sound, State.setRecords_table, ageRecords_eq_filterMap]
        refine Sound.sort (h.sound.filterMap (fun r q => Record.slot_of_aged) (fun r q hq => ?_) fun r _ q hq hf =>
          hf.aged _ _ hq)
        rw [Record.keys_of_aged hq]
      · rw [State.setRecords_running, hrun] at hr
        cases hr
  all_goals simpa [State.ageTicksApplied, hwork] using h

theorem State.RecordsOk.serveOwnObservation : s.serveOwnObservation.RecordsOk := by
  unfold State.serveOwnObservation
  split
  · split
    next hc =>
      exact State.complete_recordsOk (Bool.and_eq_true_iff.1 hc).1 (State.serveOwn_sound h.sound h.ordered ..)
        ((runningKept s.running).serveOwn rfl ..)
    · exact h
  · exact h

theorem State.RecordsOk.serveOwnCliff : s.serveOwnCliff.RecordsOk := by
  unfold State.serveOwnCliff
  split
  · split
    next hc =>
      exact State.complete_recordsOk (Bool.and_eq_true_iff.1 hc).1 (State.serveCliff_sound h.sound h.ordered ..)
        ((runningKept s.running).serveCliff rfl ..)
    · exact h
  · exact h

theorem State.RecordsOk.serveFloorEvidence : s.serveFloorEvidence.RecordsOk := by
  unfold State.serveFloorEvidence
  split
  · split
    next hc =>
      exact State.complete_recordsOk (Bool.and_eq_true_iff.1 hc).1 (State.serveEvidence_sound h.sound h.ordered ..)
        ((runningKept s.running).serveEvidence rfl ..)
    · exact h
  · split
    next hc =>
      exact State.complete_recordsOk hc (State.serveEvidence_sound h.sound h.ordered ..)
        ((runningKept s.running).serveEvidence rfl ..)
    · exact h
  · exact h

theorem State.RecordsOk.serveWallClear : s.serveWallClear.RecordsOk := by
  unfold State.serveWallClear
  split
  · split
    next hc => exact State.complete_recordsOk hc (State.serveClear_sound h.sound ..) rfl
    · exact h
  · exact h

theorem State.RecordsOk.servePeerWithdraw : s.servePeerWithdraw.RecordsOk := by
  unfold State.servePeerWithdraw
  split
  · split
    next hc => exact State.complete_recordsOk (Bool.and_eq_true_iff.1 hc).1 (State.serveWithdraw_sound h.sound _) rfl
    · exact h
  · exact h

theorem State.RecordsOk.serveCheckOutcome : s.serveCheckOutcome.RecordsOk := by
  unfold State.serveCheckOutcome
  split
  · split
    next hc =>
      exact State.complete_recordsOk hc (State.serveOutcome_sound h.sound ..)
        ((runningKept s.running).serveOutcome rfl ..)
    · exact h
  · exact h

theorem State.RecordsOk.serveLookup : s.serveLookup.RecordsOk := by
  unfold State.serveLookup
  split
  · split
    · exact State.RecordsOk.takeWork (h.congr (by simp) (by simp) ((runningKept s.running).answerLookup rfl ..))
    · exact h
  · exact h

variable (hfifo : s.table.FifoOk)
include hfifo

theorem State.RecordsOk.servePeerAdd : s.servePeerAdd.RecordsOk := by
  obtain ⟨-, -, hconf⟩ := hfifo
  unfold State.servePeerAdd
  split
  next r hwork =>
    rw [hwork] at hconf
    split
    next hc =>
      exact State.complete_recordsOk (Bool.and_eq_true_iff.1 hc).1 (State.serveAdd_sound h.sound h.ordered hconf)
        ((runningKept s.running).serveAdd rfl _)
    · exact h
  · exact h

theorem State.RecordsOk.servePeerUpdate : s.servePeerUpdate.RecordsOk := by
  obtain ⟨-, -, hconf⟩ := hfifo
  unfold State.servePeerUpdate
  split
  next r hwork =>
    rw [hwork] at hconf
    split
    next hc =>
      exact State.complete_recordsOk (Bool.and_eq_true_iff.1 hc).1 (State.serveUpdate_sound h.sound h.ordered hconf)
        ((runningKept s.running).serveUpdate rfl _)
    · exact h
  · exact h

end

/-- Every change keeps the records sound, ordered, and none outside RUN. -/
theorem recordsOk_tableKept : TableKept fun s => s.table.FifoOk ∧ s.RecordsOk where
  same {s t} h hst := by
    have hfifo : t.table.FifoOk := fifoOk_tableKept.same h.1 hst
    obtain ⟨hrecords, hgood, -, -, -, hrun⟩ := hst
    exact ⟨hfifo, h.2.congr hrecords hgood hrun⟩
  empty s h := ⟨fifoOk_tableKept.empty s h, .of_records_nil h.1⟩
  good _ _ hr h := ⟨h.1, .of_records_nil (h.2.atRest hr)⟩
  push s i hr hi h :=
    ⟨fifoOk_tableKept.push s i hr hi h.1, h.2.congr (by simp [State.pushItem_table]) (by simp [State.pushItem_table])
      (by simp)⟩
  kick s h := ⟨fifoOk_tableKept.kick s h.1, h.2.congr (by simp) (by simp) (by simp)⟩
  answer _ _ _ _ _ h := ⟨h.1, h.2.congr rfl rfl rfl⟩
  resolve s A B hp h :=
    ⟨fifoOk_tableKept.resolve s A B hp h.1, h.2.congr (by simp) (by simp) (by rw [State.resolveCheck_running]; rfl)⟩
  carryEnd s h := ⟨fifoOk_tableKept.carryEnd s h.1, h.2.carryEnd⟩
  ageTicksApplied s h := ⟨fifoOk_tableKept.ageTicksApplied s h.1, h.2.ageTicksApplied⟩
  serveOwnObservation s h := ⟨fifoOk_tableKept.serveOwnObservation s h.1, h.2.serveOwnObservation⟩
  serveOwnCliff s h := ⟨fifoOk_tableKept.serveOwnCliff s h.1, h.2.serveOwnCliff⟩
  serveFloorEvidence s h := ⟨fifoOk_tableKept.serveFloorEvidence s h.1, h.2.serveFloorEvidence⟩
  serveWallClear s h := ⟨fifoOk_tableKept.serveWallClear s h.1, h.2.serveWallClear⟩
  servePeerAdd s h := ⟨fifoOk_tableKept.servePeerAdd s h.1, h.2.servePeerAdd h.1⟩
  servePeerUpdate s h := ⟨fifoOk_tableKept.servePeerUpdate s h.1, h.2.servePeerUpdate h.1⟩
  servePeerWithdraw s h := ⟨fifoOk_tableKept.servePeerWithdraw s h.1, h.2.servePeerWithdraw⟩
  serveCheckOutcome s h := ⟨fifoOk_tableKept.serveCheckOutcome s h.1, h.2.serveCheckOutcome⟩
  serveLookup s h := ⟨fifoOk_tableKept.serveLookup s h.1, h.2.serveLookup⟩

theorem step_keeps_recordsOk {s t : State} (h : s.TableOk) (hstep : step s = .next t) : t.RecordsOk :=
  (recordsOk_tableKept.step ⟨h.1, h.recordsOk⟩ hstep).2

/-- Settles O10: each change of a record keeps its fields in their bounds, and a record that would leave them goes. -/
theorem stepKeepsRecordFields : Obligations.StepKeepsRecordFields :=
  fun _ _ h hstep => (step_keeps_recordsOk h hstep).sound.fields

/-- Settles O11: a key joins a record only when none holds it, and no other change brings one. -/
theorem stepKeepsKeysUnique : Obligations.StepKeepsKeysUnique :=
  fun _ _ h hstep => (step_keeps_recordsOk h hstep).sound.keys

end Sys2Proof.Machine
end

section
/-! PROOFS. The Report Handler's check in its phases (R98 to R109, R114): from the decision or the promotion of a check to its
start at the request's completion, and to its end. -/

namespace Sys2Proof.Machine

open Sys2Proof

/-! ### The outcomes that wait -/

/-- The check outcomes that wait in a FIFO. -/
def waitingOutcomes (fifo : List Item) : Nat := (fifo.filter Item.isOutcome).length

theorem TableManager.outcomes_eq (t : TableManager) : t.outcomes = waitingOutcomes t.fifo +
    (match t.work with
      | .serving i => i.isOutcome.toNat
      | _ => 0) := rfl

theorem waitingOutcomes_append (fifo : List Item) (i : Item) :
    waitingOutcomes (fifo ++ [i]) = waitingOutcomes fifo + i.isOutcome.toNat := by
  unfold waitingOutcomes
  rw [List.filter_append, List.length_append]
  cases hi : i.isOutcome <;> simp [hi]

theorem waitingOutcomes_dropNonCliff (fifo : List Item) :
    waitingOutcomes (dropNonCliff fifo) = waitingOutcomes fifo := by
  induction fifo with
  | nil => rfl
  | cons i fifo ih =>
    have hone (is : List Item) : waitingOutcomes (i :: is) = i.isOutcome.toNat + waitingOutcomes is := by
      unfold waitingOutcomes
      cases hi : i.isOutcome
      · simp [hi]
      · simp [hi, Nat.add_comm]
    unfold dropNonCliff
    split
    next hn =>
      have ho : i.isOutcome = false := by cases i <;> simp_all [Item.nonCliff, Item.isOutcome]
      rw [hone, ho]
      simp
    · rw [hone, hone, ih]

/-- An item that arrives is one more outcome when it is one and is not lost (R53, R105). -/
theorem waitingOutcomes_pushed (i : Item) (fifo : List Item) : waitingOutcomes (pushed i fifo) =
    waitingOutcomes fifo + if i.isOutcome && !outcomeLost i fifo then 1 else 0 := by
  have hcount : i.isOutcome.toNat = if i.isOutcome then 1 else 0 := by cases i.isOutcome <;> rfl
  unfold pushed
  split
  next hroom =>
    rw [waitingOutcomes_append, hcount]
    simp [outcomeLost, hroom]
  next hfull =>
    split
    next hany =>
      rw [waitingOutcomes_append, waitingOutcomes_dropNonCliff, hcount]
      simp [outcomeLost, (Bool.and_eq_true_iff.1 hany).2]
    next hnone =>
      cases ho : i.isOutcome
      · rfl
      · have hkept : i.isKept = true := by cases i <;> simp_all [Item.isKept, Item.isOutcome]
        have hnone : fifo.any Item.nonCliff = false := by
          rw [hkept, Bool.true_and] at hnone
          exact Bool.eq_false_iff.2 hnone
        have hlost : outcomeLost i fifo = true := by
          simp only [outcomeLost, ho, hnone, hfull, decide_false, Bool.or_self, Bool.not_false, Bool.and_self]
        rw [hlost]
        rfl

/-- The work that is taken comes out of the FIFO, or is none of an item (R50). -/
theorem State.takeWork_outcomes (s : State) : s.takeWork.table.outcomes = waitingOutcomes s.table.fifo := by
  unfold State.takeWork
  dsimp only
  split
  · rfl
  · split
    · rfl
    · split
      next i rest hf =>
        rw [hf]
        change waitingOutcomes rest + i.isOutcome.toNat = waitingOutcomes (i :: rest)
        unfold waitingOutcomes
        cases hi : i.isOutcome <;> simp [hi]
      next hf => rfl

/-! ### The check between an item's changes and the start of a check -/

/-- The check is whole in its phase, with the outcomes that wait for it (R98, R109). -/
def ReportHandler.Whole (r : ReportHandler) (outcomes : Nat) : Prop :=
  (r.phase = .idle → r.outstanding = none ∧ r.checkId = none ∧ r.awaited = [] ∧ r.answers = [] ∧
    r.checkTimer = none ∧ r.deferred = none) ∧
  (r.phase = .awaiting → r.outstanding.isSome ∧ r.checkId.isSome ∧ r.awaited ≠ [] ∧ r.checkTimer.isSome) ∧
  (r.phase = .resolved → r.outstanding.isSome ∧ r.checkId.isSome ∧ r.checkTimer = none) ∧
  outcomes = if r.phase = .resolved then 1 else 0

theorem State.reportOk_iff (s : State) : s.ReportOk ↔
    s.report.Whole s.table.outcomes ∧ (s.running = false → s.report.phase = .idle) := by
  simp only [State.ReportOk, ReportHandler.Whole, and_assoc]

theorem ReportHandler.whole_of_course {r q : ReportHandler} (h : q.course = r.course) {n : Nat} (hr : r.Whole n) :
    q.Whole n := by
  simp only [ReportHandler.course, Prod.mk.injEq] at h
  obtain ⟨hphase, hout, hid, haw, hans, htimer, hdef⟩ := h
  have hnone : q.checkTimer = none ↔ r.checkTimer = none := by
    rw [← Option.isNone_iff_eq_none, ← Option.isNone_iff_eq_none, ← Option.not_isSome, ← Option.not_isSome, htimer]
  simpa only [ReportHandler.Whole, hphase, hout, hid, haw, hans, htimer, hdef, hnone] using hr

theorem ReportHandler.whole_of_atRest {r : ReportHandler} (h : r.AtRest) : r.Whole 0 := by
  obtain ⟨hphase, hrest⟩ := h
  exact ⟨fun _ => hrest, by simp [hphase], by simp [hphase], by simp [hphase]⟩

/-- A check has taken its record and is to be started at the request's completion (R100, R106). -/
structure State.Starting (s : State) : Prop where
  phase : s.report.phase = .idle
  outcomes : waitingOutcomes s.table.fifo = 0
  record : ∃ d r, s.report.outstanding = some d ∧ recordAt s.table.records d = some r
  id : s.report.checkId.isSome
  timer : s.report.checkTimer = none

/-- What an item's changes leave of the check: one that is to be started, or a whole one. -/
def State.CheckLeft (s : State) (starts : Bool) : Prop :=
  if starts then s.Starting else s.report.Whole (waitingOutcomes s.table.fifo)

theorem State.CheckLeft.congr {s t : State} {starts : Bool} (h : s.CheckLeft starts)
    (hcourse : t.report.course = s.report.course) (hfifo : t.table.fifo = s.table.fifo)
    (hslots : ∀ i, (recordAt t.table.records i).isSome = (recordAt s.table.records i).isSome) :
    t.CheckLeft starts := by
  cases starts with
  | false =>
    rw [State.CheckLeft, if_neg Bool.false_ne_true, hfifo]
    exact ReportHandler.whole_of_course hcourse (by simpa [State.CheckLeft] using h)
  | true =>
    obtain ⟨hphase, hout, ⟨d, r, hd, hr⟩, hid, htimer⟩ : s.Starting := by simpa [State.CheckLeft] using h
    simp only [ReportHandler.course, Prod.mk.injEq] at hcourse
    obtain ⟨hphase', hout', hid', -, -, htimer', -⟩ := hcourse
    obtain ⟨r', hr'⟩ := Option.isSome_iff_exists.1 ((hslots d).trans (by rw [hr]; rfl))
    rw [State.CheckLeft, if_pos rfl]
    refine ⟨hphase'.trans hphase, hfifo ▸ hout, ⟨d, r', hout'.trans hd, hr'⟩, hid' ▸ hid, ?_⟩
    rw [htimer] at htimer'
    simpa using htimer'

theorem Remarks.recordAt_isSome {s t : State} (h : Remarks s t) (hs : s.Sound) (i : Slot) :
    (recordAt t.table.records i).isSome = (recordAt s.table.records i).isSome := by
  have hcore := congrArg Option.isSome (h.coreAt hs i)
  simpa [State.coreAt, State.at] using hcore

/-! ### A check that ends, and the candidate that is promoted -/

theorem State.markCheck_recordAt_isSome (s : State) (i : Slot) (m : CheckMark) {r : Record}
    (hr : recordAt s.table.records i = some r) : (recordAt (s.markCheck i m).table.records i).isSome = true := by
  obtain ⟨hmem, hslot⟩ := mem_of_recordAt hr
  rw [State.markCheck, hr]
  refine List.find?_isSome.2 ⟨{ r with check := some m }, ?_, by simpa using hslot⟩
  refine List.mem_map.2 ⟨r, hmem, ?_⟩
  simp

/-- With the check ended, a candidate that still stands is to be started, and the Report Handler is else at rest. -/
theorem State.promote_checkLeft {s : State} (hphase : s.report.phase = .idle) (hout : s.report.outstanding = none)
    (hid : s.report.checkId = none) (haw : s.report.awaited = []) (hans : s.report.answers = [])
    (htimer : s.report.checkTimer = none) (hfifo : waitingOutcomes s.table.fifo = 0) :
    s.promote.1.CheckLeft s.promote.2 := by
  have hrest (r : ReportHandler) (hr : r = { s.report with deferred := none }) : r.Whole 0 := by
    subst hr
    exact ReportHandler.whole_of_atRest ⟨hphase, hout, hid, haw, hans, htimer, rfl⟩
  unfold State.promote
  split
  next hd =>
    rw [State.CheckLeft, if_neg Bool.false_ne_true, hfifo]
    exact hrest _ (by rw [← hd])
  next d hd =>
    dsimp only
    split
    next hmark =>
      rw [State.CheckLeft, if_pos rfl]
      obtain ⟨r, hr⟩ : ∃ r, recordAt s.table.records d = some r := by
        unfold State.hasMark at hmark
        split at hmark
        next r hr => exact ⟨r, hr⟩
        · cases hmark
      obtain ⟨q, hq⟩ := Option.isSome_iff_exists.1 (State.markCheck_recordAt_isSome
        (s.setReport ({ s.report with deferred := none }.takeCheck d)) d .pending hr)
      refine ⟨?_, ?_, ⟨d, q, ?_, hq⟩, ?_, ?_⟩
      · simpa [ReportHandler.takeCheck] using hphase
      · rw [(markCheck_recordsOnly _ _ _).fifo]
        exact hfifo
      · simp [ReportHandler.takeCheck]
      · simp [ReportHandler.takeCheck]
      · simpa [ReportHandler.takeCheck] using htimer
    · rw [State.CheckLeft, if_neg Bool.false_ne_true]
      exact hfifo ▸ hrest _ rfl

theorem State.endCheck_report (s : State) : s.endCheck.report = s.report.endCheck := by simp [State.endCheck]

theorem State.endCheck_promote_checkLeft {s : State} (hfifo : waitingOutcomes s.table.fifo = 0) :
    s.endCheck.promote.1.CheckLeft s.endCheck.promote.2 := by
  refine State.promote_checkLeft ?_ ?_ ?_ ?_ ?_ ?_ ?_
  iterate 6 rw [State.endCheck_report]; rfl
  rw [(endCheck_recordsOnly s).fifo]
  exact hfifo

theorem State.cancelCheck_promote_checkLeft (s : State) :
    s.cancelCheck.promote.1.CheckLeft s.cancelCheck.promote.2 := by
  refine State.endCheck_promote_checkLeft (s := s.setTable _) ?_
  simp [waitingOutcomes, List.filter_filter]

theorem State.dropDeferral_report (s : State) : s.dropDeferral.report =
    if s.report.deferred.any fun d => !s.hasMark d .deferred then { s.report with deferred := none } else s.report := by
  unfold State.dropDeferral
  split <;> rfl

theorem State.dropDeferral_checkLeft {s : State} {starts : Bool} (h : s.CheckLeft starts) :
    s.dropDeferral.CheckLeft starts := by
  have hfifo : s.dropDeferral.table = s.table := by simp
  unfold State.CheckLeft at *
  rw [hfifo]
  split at h
  next hs =>
    obtain ⟨hphase, hout, hrecord, hid, htimer⟩ := h
    rw [if_pos hs]
    unfold State.dropDeferral
    split
    · exact ⟨hphase, hout, hrecord, hid, htimer⟩
    · exact ⟨hphase, hout, hrecord, hid, htimer⟩
  next hs =>
    rw [if_neg hs, State.dropDeferral_report]
    split
    · obtain ⟨hidle, haw, hres, hn⟩ := h
      refine ⟨fun hp => ?_, haw, hres, hn⟩
      obtain ⟨hout, hid, ha, hans, htimer, -⟩ := hidle hp
      exact ⟨hout, hid, ha, hans, htimer, rfl⟩
    · exact h

/-- A check to be started stays so, and a check whose record went is cancelled (R72, R108). -/
theorem State.settleChecks_checkLeft {s : State} {starts : Bool} (h : s.CheckLeft starts) :
    s.settleChecks.1.CheckLeft (starts || s.settleChecks.2) := by
  have hdrop := State.dropDeferral_checkLeft h
  unfold State.settleChecks
  dsimp only
  split
  next hgone =>
    have hstarts : starts = false := by
      cases starts with
      | false => rfl
      | true =>
        obtain ⟨hphase, -⟩ : s.dropDeferral.Starting := by simpa [State.CheckLeft] using hdrop
        simp [State.checkGone, ReportHandler.isChecking, hphase] at hgone
    rw [hstarts, Bool.false_or]
    exact State.cancelCheck_promote_checkLeft _
  · rwa [Bool.or_false]

/-! ### The report frames of a completion -/

theorem State.sendReport_course (s : State) (a : Action) (r : Record) (w : Bool) :
    (s.sendReport a r w).report.course = s.report.course := by
  unfold State.sendReport
  simp [ReportHandler.course]

theorem State.eventAt_course (before : State) (w : List Record) (a : Option Slot) (s : State) (i : Slot) :
    (State.eventAt before w a s i).report.course = s.report.course := by
  have hwithdrawn : (s.withdrawAt w i).report.course = s.report.course := by
    unfold State.withdrawAt
    split
    · exact State.sendReport_course _ _ _ _
    · rfl
  rw [State.eventAt_eq, ← hwithdrawn]
  unfold State.announceAt
  split
  · rfl
  · split
    · rfl
    · rw [State.sendReport_course]
      split <;> rfl

theorem State.foldl_eventAt_course (before : State) (w : List Record) (a : Option Slot) (slots : List Slot) (s : State) :
    (slots.foldl (State.eventAt before w a) s).report.course = s.report.course := by
  induction slots generalizing s with
  | nil => rfl
  | cons i slots ih => exact (ih _).trans (State.eventAt_course before w a s i)

theorem State.refresh_course (before : State) (m : Option Slot) (s : State) :
    (State.refresh before m s).report.course = s.report.course := by
  unfold State.refresh
  split
  · split
    · exact State.sendReport_course _ _ _ _
    · rfl
  · rfl

/-- The report frames of a completion (R66, R96). -/
def State.reportsOf (s : State) (v : Served) (u : State) : State :=
  State.refresh s v.merged (State.emitEvents s v.withdrawn v.applied u)

theorem State.reportsOf_course (s : State) (v : Served) (u : State) :
    (s.reportsOf v u).report.course = u.report.course :=
  (State.refresh_course _ _ _).trans (State.foldl_eventAt_course _ _ _ _ _)

theorem reportsOf_recordsOnly (s : State) (v : Served) (u : State) : RecordsOnly u (s.reportsOf v u) :=
  (emitEvents_recordsOnly u s v.withdrawn v.applied).trans (refresh_recordsOnly _ s v.merged)

theorem reportsOf_remarks (s : State) (v : Served) (u : State) : Remarks u (s.reportsOf v u) :=
  (foldl_eventAt_remarks u s v.withdrawn v.applied _).trans (refresh_remarks _ s v.merged)

/-- A completion, phase by phase. -/
theorem State.complete_eq (s : State) (v : Served) :
    let c := (v.state.setRecords (sortRecords v.state.table.records)).settleChecks
    s.complete v = ((if v.starts || c.2 then (s.reportsOf v c.1).startCheck else s.reportsOf v c.1).notifyTable
      s).takeWork := rfl

/-! ### A check that starts -/

theorem ReportHandler.resolved_whole {r : ReportHandler} (hout : r.outstanding.isSome) (hid : r.checkId.isSome) :
    r.resolved.Whole 1 := ⟨by simp [ReportHandler.resolved], by simp [ReportHandler.resolved],
      fun _ => ⟨hout, hid, rfl⟩, by simp [ReportHandler.resolved]⟩

/-- A check that resolves has its outcome in the FIFO, or is over (R104, R105). -/
theorem State.resolveCheck_whole {s : State} {d : Slot} (hd : s.report.outstanding = some d)
    (hid : s.report.checkId.isSome) {n : Nat} (hn : waitingOutcomes s.table.fifo + n = 0) :
    s.resolveCheck.report.Whole (waitingOutcomes s.resolveCheck.table.fifo + n) := by
  obtain ⟨hzero, rfl⟩ := Nat.add_eq_zero_iff.1 hn
  rw [State.resolveCheck_table hd, State.resolveCheck_report hd, Nat.add_zero, waitingOutcomes_pushed, hzero]
  have houtcome : (Item.outcome (outcomeOf s.report.answers) d).isOutcome = true := rfl
  rw [houtcome, Bool.true_and]
  split
  next hlost =>
    rw [hlost]
    exact ReportHandler.whole_of_atRest (ReportHandler.atRest_drop _)
  next hkept =>
    rw [Bool.eq_false_iff.2 hkept]
    exact ReportHandler.resolved_whole (by rw [hd]; rfl) hid

theorem State.startCheck_whole {s : State} (h : s.Starting) :
    s.startCheck.report.Whole (waitingOutcomes s.startCheck.table.fifo) := by
  obtain ⟨hphase, hout, ⟨d, r, hd, hr⟩, hid, htimer⟩ := h
  obtain ⟨n, hn⟩ := Option.isSome_iff_exists.1 hid
  unfold State.startCheck
  split
  next r' id hr' hid' =>
    dsimp only
    split
    · exact State.resolveCheck_whole (s := s.setReport { s.report with awaited := s.awaitedSet, answers := [] })
        (n := 0) hd hid hout
    next hne =>
      have hreport (u : State) : u.awaitAnswers.report =
          { u.report with phase := .awaiting, checkTimer := some checkTime } := by simp [State.awaitAnswers]
      rw [hreport, State.enqueue_report, State.setReport_report]
      have hfifo : ∀ u : State, u.table = s.table → waitingOutcomes u.table.fifo = 0 := fun u hu => by rw [hu, hout]
      rw [hfifo _ (by simp)]
      exact ⟨nofun, fun _ => ⟨by rw [hd]; rfl, hid, hne, rfl⟩, nofun, by simp⟩
  next hnone =>
    refine absurd ?_ (hnone r n · hn)
    simp [hd, hr]

/-- A completion leaves a whole check (R100, R106, R108). -/
theorem State.complete_whole {s : State} {v : Served} (hv : v.state.Sound) (h : v.state.CheckLeft v.starts) :
    (s.complete v).report.Whole (s.complete v).table.outcomes := by
  have hsorted : (v.state.setRecords (sortRecords v.state.table.records)).CheckLeft v.starts := by
    refine h.congr rfl rfl fun i => ?_
    rw [State.setRecords_table, recordAt_sortRecords hv.slots]
  have hsettled := State.settleChecks_checkLeft hsorted
  have hsound := (settleChecks_remarks _).sound (State.setRecords_sort_sound hv)
  rw [State.complete_eq]
  generalize (v.state.setRecords (sortRecords v.state.table.records)).settleChecks = c at hsettled hsound
  have hreported : (s.reportsOf v c.1).CheckLeft (v.starts || c.2) :=
    hsettled.congr (State.reportsOf_course ..) (reportsOf_recordsOnly ..).fifo
      fun i => (reportsOf_remarks s v c.1).recordAt_isSome hsound i
  rw [State.takeWork_outcomes, State.takeWork_report, State.notifyTable_report, State.notifyTable_table]
  unfold State.CheckLeft at hreported
  split
  next hstarts =>
    rw [if_pos hstarts] at hreported
    exact State.startCheck_whole hreported
  next hstarts =>
    rw [if_neg hstarts] at hreported
    exact hreported

/-! ### The check through the service of each item -/

/-- An item that is no outcome, and leaves the check alone. -/
theorem State.checkLeft_of_report_eq {s u : State} {item : Item} (h : s.report.Whole s.table.outcomes)
    (hwork : s.table.work = .serving item) (hitem : item.isOutcome = false) (hreport : u.report = s.report)
    (hu : RecordsOnly s u) : u.CheckLeft false := by
  rw [TableManager.outcomes_eq, hwork] at h
  rw [State.CheckLeft, if_neg Bool.false_ne_true, hreport, hu.fifo]
  simpa [hitem] using h

theorem State.markCheck_recordAt {s : State} {i : Slot} {r : Record} (hr : recordAt s.table.records i = some r)
    (m : CheckMark) : ∃ q, recordAt (s.markCheck i m).table.records i = some q :=
  Option.isSome_iff_exists.1 (s.markCheck_recordAt_isSome i m hr)

/-- The decision on a created CLIFF takes an idle Report Handler, or leaves a check that runs (R99). -/
theorem State.decideCheck_checkLeft {s : State} {i : Slot} {r : Record} (hr : recordAt s.table.records i = some r)
    (h : s.report.Whole (waitingOutcomes s.table.fifo)) :
    (s.decideCheck i).CheckLeft (s.report.decide = .start) := by
  have hfifo := (decideCheck_recordsOnly s i).fifo
  obtain ⟨hidle, haw, hres, hn⟩ := h
  unfold State.decideCheck at *
  split
  next hdec =>
    have hphase : s.report.phase = .idle := by
      by_contra hne
      simp only [ReportHandler.decide, hne, if_false] at hdec
      split at hdec <;> cases hdec
    obtain ⟨q, hq⟩ := State.markCheck_recordAt (s := s.setReport (s.report.takeCheck i)) hr .pending
    rw [hdec] at hfifo ⊢
    rw [State.CheckLeft, if_pos (by simp)]
    refine ⟨?_, ?_, ⟨i, q, ?_, hq⟩, ?_, ?_⟩
    · simpa [ReportHandler.takeCheck] using hphase
    · rw [hfifo, hn, if_neg (by simp [hphase])]
    · simp [ReportHandler.takeCheck]
    · simp [ReportHandler.takeCheck]
    · simpa [ReportHandler.takeCheck] using (hidle hphase).2.2.2.2.1
  next hdec =>
    have hphase : s.report.phase ≠ .idle := by
      intro hphase
      rw [ReportHandler.decide, if_pos hphase] at hdec
      cases hdec
    rw [hdec] at hfifo ⊢
    rw [State.CheckLeft, if_neg (by simp), hfifo, State.markCheck_report]
    exact ⟨fun hp => absurd hp hphase, haw, hres, hn⟩
  next hdec =>
    rw [hdec] at hfifo ⊢
    rw [State.CheckLeft, if_neg (by simp), hfifo]
    split
    · exact ⟨hidle, haw, hres, hn⟩
    · exact ⟨hidle, haw, hres, hn⟩

theorem State.serveCliff_checkLeft {s : State} (hs : s.RecordsOk) (h : s.report.Whole s.table.outcomes) {item : Item}
    (hwork : s.table.work = .serving item) (hitem : item.isOutcome = false) (o : Origin) (x y : Int)
    (tag : Option Seq) : (s.serveCliff o x y tag).state.CheckLeft (s.serveCliff o x y tag).starts := by
  have haside (u : State) (hreport : u.report = s.report) (hu : RecordsOnly s u) : u.CheckLeft false :=
    State.checkLeft_of_report_eq h hwork hitem hreport hu
  unfold State.serveCliff
  dsimp only
  split
  · exact haside s rfl (.refl s)
  · split
    · exact haside _ (by simp) ((putRecord_recordsOnly s _).trans (overruleClass_recordsOnly _))
    · split
      · exact haside _ rfl (putRecord_recordsOnly s _)
      · have hplaced := placeRecord_recordsOnly s (ownRecord .cliff o ((s.reconcile tag).point x y) (s.reconcile tag))
        have hreport := s.placeRecord_report (ownRecord .cliff o ((s.reconcile tag).point x y) (s.reconcile tag))
        obtain ⟨i, hi, heq⟩ | ⟨-, heq⟩ := State.placeRecord_cases hs.sound.slots hs.ordered
          (ownRecord .cliff o ((s.reconcile tag).point x y) (s.reconcile tag))
        · have hleft := haside _ hreport hplaced
          rw [heq] at hleft ⊢
          rw [State.CheckLeft, if_neg Bool.false_ne_true] at hleft
          exact State.decideCheck_checkLeft (by rw [State.setRecords_table, recordAt_placed, if_pos rfl]) hleft
        · have hleft := haside _ hreport hplaced
          rw [heq] at hleft ⊢
          exact hleft

theorem State.serveOutcome_checkLeft {s : State} (h : s.report.Whole s.table.outcomes) {o : Outcome} {slot : Slot}
    (hwork : s.table.work = .serving (.outcome o slot)) :
    (s.serveOutcome o slot).state.CheckLeft (s.serveOutcome o slot).starts := by
  obtain ⟨-, -, -, hn⟩ := h
  rw [TableManager.outcomes_eq, hwork] at hn
  have hzero : waitingOutcomes s.table.fifo = 0 := by
    simp only [Item.isOutcome, Bool.toNat_true] at hn
    split at hn <;> omega
  rw [serveOutcome_eq]
  refine State.endCheck_promote_checkLeft ?_
  rw [(applyAt_recordsOnly s o slot).fifo]
  exact hzero

/-! ### The invariant -/

/-- The check is whole in its phase, and outside RUN there is none, nor an item or work (R75, R114). -/
structure State.CheckOk (s : State) : Prop where
  whole : s.report.Whole s.table.outcomes
  idle : s.running = false → s.report.phase = .idle
  atRest : s.running = false → s.table.fifo = [] ∧ s.table.work = .idle

theorem State.CheckOk.of_running {s : State} (h : s.report.Whole s.table.outcomes) (hr : s.running = true) :
    s.CheckOk := ⟨h, fun hn => absurd (hr.symm.trans hn) (by decide), fun hn => absurd (hr.symm.trans hn) (by decide)⟩

theorem State.CheckOk.congr {s t : State} (h : s.CheckOk) (hcourse : t.report.course = s.report.course)
    (hfifo : t.table.fifo = s.table.fifo) (hwork : t.table.work = s.table.work) (hrun : t.running = s.running) :
    t.CheckOk where
  whole := by
    rw [TableManager.outcomes_eq, hfifo, hwork]
    exact ReportHandler.whole_of_course hcourse h.whole
  idle hr := (congrArg Prod.fst hcourse).trans (h.idle (hrun.symm.trans hr))
  atRest hr := by
    rw [hfifo, hwork]
    exact h.atRest (hrun.symm.trans hr)

section
variable {s : State} (h : s.CheckOk)
include h

/-- The next work, from work of no outcome (R50). -/
theorem State.CheckOk.takeWork (hr : s.running = true)
    (hwork : s.table.outcomes = waitingOutcomes s.table.fifo) : s.takeWork.CheckOk := by
  refine .of_running ?_ (by simpa using hr)
  rw [State.takeWork_outcomes, State.takeWork_report, ← hwork]
  exact h.whole

theorem State.CheckOk.kick : s.kick.CheckOk := by
  unfold State.kick
  split
  next hc =>
    obtain ⟨hr, hidle⟩ := Bool.and_eq_true_iff.1 hc
    refine h.takeWork hr ?_
    rw [TableManager.outcomes_eq, of_decide_eq_true hidle]
    rfl
  · exact h

/-- An item that is no outcome arrives (R52, R53). -/
theorem State.CheckOk.push (hr : s.running = true) {i : Item} (hi : i.isOutcome = false) :
    (s.pushItem i).CheckOk := by
  have hlost : outcomeLost i s.table.fifo = false := by simp [outcomeLost, hi]
  refine .of_running ?_ (by simpa using hr)
  rw [State.pushItem_report', hlost, State.pushItem_table, TableManager.outcomes_eq, waitingOutcomes_pushed, hi]
  exact h.whole

theorem State.CheckOk.running_of_awaiting (hp : s.report.phase = .awaiting) : s.running = true := by
  by_contra hr
  have hidle := h.idle (Bool.eq_false_iff.2 hr)
  rw [hp] at hidle
  cases hidle

/-- An answer or a LOST notice that leaves peers to await (R102, R103). -/
theorem State.CheckOk.answer (hp : s.report.phase = .awaiting) {A : List Pos} (hA : A ≠ []) (B : List AnswerSoFar) :
    (s.setReport { s.report with awaited := A, answers := B }).CheckOk := by
  refine .of_running ?_ (h.running_of_awaiting hp)
  obtain ⟨-, haw, -, hn⟩ := h.whole
  obtain ⟨hout, hid, -, htimer⟩ := haw hp
  have hne : s.report.phase ≠ .idle ∧ s.report.phase ≠ .resolved := by simp [hp]
  exact ⟨fun hi => absurd hi hne.1, fun _ => ⟨hout, hid, hA, htimer⟩, fun hres => absurd hres hne.2, hn⟩

/-- A check that resolves (R104, R105). -/
theorem State.CheckOk.resolve (hp : s.report.phase = .awaiting) (A : List Pos) (B : List AnswerSoFar) :
    (s.setReport { s.report with awaited := A, answers := B }).resolveCheck.CheckOk := by
  have hrun := h.running_of_awaiting hp
  obtain ⟨-, haw, -, hn⟩ := h.whole
  obtain ⟨hout, hid, -, -⟩ := haw hp
  rw [if_neg (by simp [hp]), TableManager.outcomes_eq] at hn
  obtain ⟨d, hd⟩ := Option.isSome_iff_exists.1 hout
  have hd' : (s.setReport { s.report with awaited := A, answers := B }).report.outstanding = some d := hd
  refine .of_running ?_ (by rw [State.resolveCheck_running]; exact hrun)
  have hwhole := State.resolveCheck_whole hd' hid hn
  rw [TableManager.outcomes_eq]
  rw [State.resolveCheck_table hd'] at hwhole ⊢
  exact hwhole

theorem State.CheckOk.carryEnd : s.carryEnd.CheckOk := by
  cases hwork : s.table.work
  case carrying c =>
    cases hrun : s.running
    · simpa [State.carryEnd, hwork, hrun] using h
    · rw [s.carryEnd_of_carrying c hrun hwork]
      refine State.CheckOk.takeWork (h.congr (by rw [State.recompute_report]; rfl) (by simp) (by simp)
        (by simp)) (by simpa using hrun) ?_
      simp [TableManager.outcomes_eq, hwork]
  all_goals simpa [State.carryEnd, hwork] using h

theorem State.CheckOk.ageTicksApplied : s.ageTicksApplied.CheckOk := by
  cases hwork : s.table.work
  case aging n =>
    cases hrun : s.running
    · simpa [State.ageTicksApplied, hwork, hrun] using h
    · rw [State.ageTicksApplied_of_aging hrun hwork]
      refine State.CheckOk.takeWork (h.congr ?_ (by simp) (by simp) (by simp)) (by simpa using hrun) ?_
      · rw [State.notify_report]
        rfl
      · simp [TableManager.outcomes_eq, hwork]
  all_goals simpa [State.ageTicksApplied, hwork] using h

theorem State.CheckOk.serveLookup : s.serveLookup.CheckOk := by
  cases hwork : s.table.work
  case serving i =>
    cases i
    case lookup q id x y tag =>
      cases hrun : s.running
      · simpa [State.serveLookup, hwork, hrun] using h
      · rw [State.serveLookup_of_serving s q id x y tag hrun hwork]
        have hanswered : (s.answerLookup q id x y tag).running = true := (runningKept true).answerLookup hrun ..
        refine State.CheckOk.takeWork (h.congr (by simp) (by simp) (by simp) (hanswered.trans hrun.symm)) hanswered ?_
        rw [State.answerLookup_table, TableManager.outcomes_eq, hwork]
        rfl
    all_goals simpa [State.serveLookup, hwork] using h
  all_goals simpa [State.serveLookup, hwork] using h

end

/-- A completion in RUN of a service that left the records sound and the check to start or whole. -/
theorem State.complete_checkOk {s : State} {v : Served} (hrun : s.running = true) (hv : v.state.Sound)
    (hkept : v.state.running = s.running) (h : v.state.CheckLeft v.starts) : (s.complete v).CheckOk :=
  .of_running (State.complete_whole hv h) ((runningKept true).complete (hkept.trans hrun))

end Sys2Proof.Machine
end

section
/-! PROOFS. The invariant of the table and of the Report Handler's check together (R45, R49, R75, R98, R109, R114). -/

namespace Sys2Proof.Machine

open Sys2Proof

/-! ### Services that start no check -/

theorem State.mergeOrCreate_starts (s : State) (kind : Hazard) (o : Origin) (p : Int × Int) (rc : Recon) :
    (s.mergeOrCreate kind o p rc).starts = false := by
  unfold State.mergeOrCreate
  split <;> rfl

theorem State.serveOwn_starts (s : State) (kind : Hazard) (o : Origin) (x y : Int) (tag : Option Seq) :
    (s.serveOwn kind o x y tag).starts = false := by
  rw [State.serveOwn_eq]
  split
  · rfl
  · exact State.mergeOrCreate_starts _ _ _ _ _

theorem State.serveEvidence_starts (s : State) (rug : Option Hazard) (o : Origin) (x y : Int) (tag : Option Seq) :
    (s.serveEvidence rug o x y tag).starts = false := by
  unfold State.serveEvidence
  dsimp only
  split
  · split
    · rfl
    · exact State.mergeOrCreate_starts _ _ _ _ _
  · rfl

theorem State.serveUpdate_starts (s : State) (r : PeerReport) : (s.serveUpdate r).starts = false := by
  unfold State.serveUpdate
  dsimp only
  split
  · rfl
  · split <;> rfl

/-! ### The check through each service -/

section
variable {s : State} (hs : s.RecordsOk) (h : s.CheckOk)
include hs h

theorem State.CheckOk.serveOwnObservation : s.serveOwnObservation.CheckOk := by
  unfold State.serveOwnObservation
  split
  next kind o x y tag hwork =>
    split
    next hc =>
      have hleft := State.checkLeft_of_report_eq h.whole hwork rfl (s.serveOwn_report kind o x y tag)
        (serveOwn_recordsOnly s kind o x y tag)
      refine State.complete_checkOk (Bool.and_eq_true_iff.1 hc).1 (State.serveOwn_sound hs.sound hs.ordered ..)
        ((runningKept s.running).serveOwn rfl ..) ?_
      rw [State.serveOwn_starts]
      exact hleft
    · exact h
  · exact h

theorem State.CheckOk.serveOwnCliff : s.serveOwnCliff.CheckOk := by
  unfold State.serveOwnCliff
  split
  next hwork =>
    split
    next hc =>
      exact State.complete_checkOk (Bool.and_eq_true_iff.1 hc).1 (State.serveCliff_sound hs.sound hs.ordered ..)
        ((runningKept s.running).serveCliff rfl ..) (State.serveCliff_checkLeft hs h.whole hwork rfl ..)
    · exact h
  · exact h

theorem State.CheckOk.serveFloorEvidence : s.serveFloorEvidence.CheckOk := by
  have hserved (item : Item) (hwork : s.table.work = .serving item) (hitem : item.isOutcome = false)
      (hr : s.running = true) (rug : Option Hazard) (o : Origin) (x y : Int) (tag : Option Seq) :
      (s.complete (s.serveEvidence rug o x y tag)).CheckOk := by
    have hleft := State.checkLeft_of_report_eq h.whole hwork hitem (s.serveEvidence_report rug o x y tag)
      (serveEvidence_recordsOnly s rug o x y tag)
    refine State.complete_checkOk hr (State.serveEvidence_sound hs.sound hs.ordered ..)
      ((runningKept s.running).serveEvidence rfl ..) ?_
    rw [State.serveEvidence_starts]
    exact hleft
  unfold State.serveFloorEvidence
  split
  next hwork =>
    split
    next hc => exact hserved _ hwork rfl (Bool.and_eq_true_iff.1 hc).1 _ _ _ _ _
    · exact h
  next hwork =>
    split
    next hc => exact hserved _ hwork rfl hc _ _ _ _ _
    · exact h
  · exact h

theorem State.CheckOk.serveWallClear : s.serveWallClear.CheckOk := by
  unfold State.serveWallClear
  split
  next mx my ax ay tag hwork =>
    split
    next hc =>
      have hleft := State.checkLeft_of_report_eq h.whole hwork rfl (s.serveClear_report mx my ax ay)
        (serveClear_recordsOnly s mx my ax ay)
      exact State.complete_checkOk hc (State.serveClear_sound hs.sound ..) rfl hleft
    · exact h
  · exact h

theorem State.CheckOk.servePeerWithdraw : s.servePeerWithdraw.CheckOk := by
  unfold State.servePeerWithdraw
  split
  next r hwork =>
    split
    next hc =>
      have hleft := State.checkLeft_of_report_eq h.whole hwork rfl (s.serveWithdraw_report r)
        (serveWithdraw_recordsOnly s r)
      exact State.complete_checkOk (Bool.and_eq_true_iff.1 hc).1 (State.serveWithdraw_sound hs.sound _) rfl hleft
    · exact h
  · exact h

theorem State.CheckOk.serveCheckOutcome : s.serveCheckOutcome.CheckOk := by
  unfold State.serveCheckOutcome
  split
  next hwork =>
    split
    next hc =>
      exact State.complete_checkOk hc (State.serveOutcome_sound hs.sound ..)
        ((runningKept s.running).serveOutcome rfl ..) (State.serveOutcome_checkLeft h.whole hwork)
    · exact h
  · exact h

variable (hfifo : s.table.FifoOk)
include hfifo

theorem State.CheckOk.servePeerAdd : s.servePeerAdd.CheckOk := by
  obtain ⟨-, -, hconf⟩ := hfifo
  unfold State.servePeerAdd
  split
  next r hwork =>
    rw [hwork] at hconf
    split
    next hc =>
      have hleft := State.checkLeft_of_report_eq h.whole hwork rfl (s.serveAdd_report r) (serveAdd_recordsOnly s r)
      exact State.complete_checkOk (Bool.and_eq_true_iff.1 hc).1 (State.serveAdd_sound hs.sound hs.ordered hconf)
        ((runningKept s.running).serveAdd rfl _) hleft
    · exact h
  · exact h

theorem State.CheckOk.servePeerUpdate : s.servePeerUpdate.CheckOk := by
  obtain ⟨-, -, hconf⟩ := hfifo
  unfold State.servePeerUpdate
  split
  next r hwork =>
    rw [hwork] at hconf
    split
    next hc =>
      have hleft := State.checkLeft_of_report_eq h.whole hwork rfl (s.serveUpdate_report r)
        (serveUpdate_recordsOnly s r)
      refine State.complete_checkOk (Bool.and_eq_true_iff.1 hc).1 (State.serveUpdate_sound hs.sound hs.ordered hconf)
        ((runningKept s.running).serveUpdate rfl _) ?_
      rw [State.serveUpdate_starts]
      exact hleft
    · exact h
  · exact h

end

/-- The whole invariant of the table and the check. -/
structure State.TableSound (s : State) : Prop where
  fifo : s.table.FifoOk
  records : s.RecordsOk
  check : s.CheckOk

/-- Every change keeps the table and the check sound. -/
theorem tableSound_tableKept : TableKept State.TableSound where
  same h hst := by
    have hrest := recordsOk_tableKept.same ⟨h.fifo, h.records⟩ hst
    obtain ⟨-, -, hfifo, hwork, hcourse, hrun⟩ := hst
    exact ⟨hrest.1, hrest.2, h.check.congr hcourse hfifo hwork hrun⟩
  empty s h := by
    have hrest := recordsOk_tableKept.empty s h
    obtain ⟨-, hfifo, hwork, hat⟩ := h
    refine ⟨hrest.1, hrest.2, ?_, fun _ => hat.1, fun _ => ⟨hfifo, hwork⟩⟩
    rw [TableManager.outcomes_eq, hfifo, hwork]
    exact ReportHandler.whole_of_atRest hat
  good s g hr h := by
    have hrest := recordsOk_tableKept.good s g hr ⟨h.fifo, h.records⟩
    exact ⟨hrest.1, hrest.2, h.check.congr rfl rfl rfl rfl⟩
  push s i hr hi h := by
    have hrest := recordsOk_tableKept.push s i hr hi ⟨h.fifo, h.records⟩
    exact ⟨hrest.1, hrest.2, h.check.push hr hi.2⟩
  kick s h := by
    have hrest := recordsOk_tableKept.kick s ⟨h.fifo, h.records⟩
    exact ⟨hrest.1, hrest.2, h.check.kick⟩
  answer s A B hp hA h := by
    have hrest := recordsOk_tableKept.answer s A B hp hA ⟨h.fifo, h.records⟩
    exact ⟨hrest.1, hrest.2, h.check.answer hp hA B⟩
  resolve s A B hp h := by
    have hrest := recordsOk_tableKept.resolve s A B hp ⟨h.fifo, h.records⟩
    exact ⟨hrest.1, hrest.2, h.check.resolve hp A B⟩
  carryEnd s h := ⟨fifoOk_tableKept.carryEnd s h.fifo, h.records.carryEnd, h.check.carryEnd⟩
  ageTicksApplied s h :=
    ⟨fifoOk_tableKept.ageTicksApplied s h.fifo, h.records.ageTicksApplied, h.check.ageTicksApplied⟩
  serveOwnObservation s h := ⟨fifoOk_tableKept.serveOwnObservation s h.fifo, h.records.serveOwnObservation,
    h.check.serveOwnObservation h.records⟩
  serveOwnCliff s h :=
    ⟨fifoOk_tableKept.serveOwnCliff s h.fifo, h.records.serveOwnCliff, h.check.serveOwnCliff h.records⟩
  serveFloorEvidence s h := ⟨fifoOk_tableKept.serveFloorEvidence s h.fifo, h.records.serveFloorEvidence,
    h.check.serveFloorEvidence h.records⟩
  serveWallClear s h :=
    ⟨fifoOk_tableKept.serveWallClear s h.fifo, h.records.serveWallClear, h.check.serveWallClear h.records⟩
  servePeerAdd s h :=
    ⟨fifoOk_tableKept.servePeerAdd s h.fifo, h.records.servePeerAdd h.fifo, h.check.servePeerAdd h.records h.fifo⟩
  servePeerUpdate s h := ⟨fifoOk_tableKept.servePeerUpdate s h.fifo, h.records.servePeerUpdate h.fifo,
    h.check.servePeerUpdate h.records h.fifo⟩
  servePeerWithdraw s h := ⟨fifoOk_tableKept.servePeerWithdraw s h.fifo, h.records.servePeerWithdraw,
    h.check.servePeerWithdraw h.records⟩
  serveCheckOutcome s h := ⟨fifoOk_tableKept.serveCheckOutcome s h.fifo, h.records.serveCheckOutcome,
    h.check.serveCheckOutcome h.records⟩
  serveLookup s h := ⟨fifoOk_tableKept.serveLookup s h.fifo, h.records.serveLookup, h.check.serveLookup⟩

/-- Settles O9: the records stay sound and ordered, and a check goes through its phases with its one outcome. -/
theorem stepKeepsSlotsAndOrder : Obligations.StepKeepsSlotsAndOrder := by
  intro s t htable hreport hstep
  have hrecords := htable.recordsOk
  obtain ⟨hwhole, hidle⟩ := s.reportOk_iff.1 hreport
  obtain ⟨hfifo, -, -, -, -, hrest⟩ := htable
  have hs : s.TableSound := ⟨hfifo, hrecords, hwhole, hidle, fun hr => (hrest hr).2⟩
  obtain ⟨-, hrecords, hcheck⟩ := tableSound_tableKept.step hs hstep
  refine ⟨⟨hrecords.sound.slots, hrecords.sound.good⟩, hrecords.ordered, fun hr => ?_,
    t.reportOk_iff.2 ⟨hcheck.whole, hcheck.idle⟩⟩
  exact ⟨hrecords.atRest hr, hcheck.atRest hr⟩

end Sys2Proof.Machine
end

section
/-! PROOFS. What the slots show after the service of an own OBSTACLE or DOCK observation (R54, R56 to R60, R67, R68). -/

namespace Sys2Proof.Machine

open Sys2Proof

/-! ### The slots after a change of the records -/

theorem recordAt_map {g : Record → Record} (hg : ∀ r, (g r).slot = r.slot) (rs : List Record) (j : Slot) :
    recordAt (rs.map g) j = (recordAt rs j).map g := by
  unfold recordAt
  rw [List.find?_map]
  refine congrArg (fun p => (rs.find? p).map g) (funext fun r => ?_)
  simp [hg]

theorem recordAt_updateRecord (rs : List Record) (q : Record) (j : Slot) : recordAt (updateRecord rs q) j =
    if j = q.slot then (recordAt rs j).map fun _ => q else recordAt rs j := by
  have hmap : recordAt (updateRecord rs q) j = (recordAt rs j).map fun x => if x.slot = q.slot then q else x := by
    refine recordAt_map (fun r => ?_) rs j
    split
    next h => exact h.symm
    · rfl
  rw [hmap]
  cases hr : recordAt rs j with
  | none => simp
  | some r =>
    obtain ⟨-, rfl⟩ := mem_of_recordAt hr
    split <;> simp_all

/-- One record takes another's place (R55). -/
theorem State.putRecord_merged {s : State} (h : s.Sound) {r q : Record} (hr : r ∈ s.table.records)
    (hslot : q.slot = r.slot) : Merged q.core r s.table.records (s.putRecord q) := by
  have hat (j : Slot) : (s.putRecord q).coreAt j =
      (if j = q.slot then (recordAt s.table.records j).map fun _ => q else recordAt s.table.records j).map Record.core :=
    congrArg _ (recordAt_updateRecord s.table.records q j)
  refine ⟨?_, fun j hj => ?_⟩
  · rw [hat, if_pos hslot.symm, (recordAt_eq_some_iff h.slots _ _).2 ⟨hr, rfl⟩]
    rfl
  · rw [hat, if_neg (hslot ▸ hj)]

theorem Merged.of_coreAt {c : Core} {r : Record} {rs : List Record} {t u : State} (h : Merged c r rs u)
    (ht : ∀ i, t.coreAt i = u.coreAt i) : Merged c r rs t :=
  ⟨(ht _).trans h.1, fun j hj => (ht j).trans (h.2 j hj)⟩

theorem Created.of_coreAt {c : Core} {rs : List Record} {s t u : State} (h : Created c rs s u)
    (ht : ∀ i, t.coreAt i = u.coreAt i) (hfull : t.table.full = u.table.full) : Created c rs s t := by
  refine ⟨fun i hi => ?_, fun hrefused => ?_⟩
  · obtain ⟨hnew, hrest⟩ := h.1 i hi
    exact ⟨(ht i).trans hnew, fun j hj => (ht j).trans (hrest j hj)⟩
  · obtain ⟨hraised, hrest⟩ := h.2 hrefused
    exact ⟨hfull.trans hraised, fun j => (ht j).trans (hrest j)⟩

/-- One slot at most takes a new record (R45, R67). -/
theorem TakesSlot.unique {good : BitVec 24} {rs : List Record} (hslots : (rs.map Record.slot).Nodup) {n : Nat}
    {i j : Slot} (hi : TakesSlot good rs n i) (hj : TakesSlot good rs n j) : i = j := by
  obtain ⟨hif, hil⟩ | ⟨hnone, v, hv, rfl, -⟩ := hi
  · obtain ⟨hjf, hjl⟩ | ⟨hnone, -⟩ := hj
    · refine le_antisymm (not_lt.1 fun hlt => ?_) (not_lt.1 fun hlt => ?_)
      · exact absurd hjf (Bool.eq_false_iff.1 (hil j hlt))
      · exact absurd hif (Bool.eq_false_iff.1 (hjl i hlt))
    · exact absurd hif (Bool.eq_false_iff.1 (hnone i))
  · obtain ⟨hjf, -⟩ | ⟨-, w, hw, rfl, -⟩ := hj
    · exact absurd hjf (Bool.eq_false_iff.1 (hnone j))
    · rw [hv.unique hslots hw]

/-- A slot that takes the record leaves it no refusal (R68). -/
theorem TakesSlot.not_refused {good : BitVec 24} {rs : List Record} {n : Nat} {i : Slot} (hi : TakesSlot good rs n i) :
    ¬ IsRefused good rs n := by
  rintro ⟨hnone, hvictims⟩
  obtain ⟨hfree, -⟩ | ⟨-, v, hv, -, hfar⟩ := hi
  · exact absurd hfree (Bool.eq_false_iff.1 (hnone i))
  · exact absurd (hvictims v hv) (not_le.2 hfar)

/-- A new record is created over the records, or refused (R58, R67, R68). -/
theorem State.placeRecord_created {s u : State} (h : u.Sound) (hord : u.table.Ordered)
    (hgood : u.table.good = s.table.good) (r : Record) : Created r.core u.table.records s (u.placeRecord r).1 := by
  have hrange : rangeOf r.core.2.1.1 r.core.2.1.2 = r.range := rfl
  rw [Created, hrange, ← hgood]
  obtain ⟨i, hi, heq⟩ | ⟨hrefused, heq⟩ := State.placeRecord_cases h.slots hord r
  · refine ⟨fun j hj => ?_, fun hrefused => absurd hrefused hi.not_refused⟩
    obtain rfl := hi.unique h.slots hj
    have hat (j : Slot) : (u.placeRecord r).1.coreAt j = (if j = i then some { r with slot := i }
        else recordAt u.table.records j).map Record.core := by
      rw [heq]
      exact congrArg _ (recordAt_placed u.table.records i j r)
    refine ⟨?_, fun j hj => ?_⟩
    · rw [hat, if_pos rfl]
      rfl
    · rw [hat, if_neg hj]
  · refine ⟨fun i hi => absurd hrefused hi.not_refused, fun _ => ?_⟩
    rw [heq]
    refine ⟨congrArg TableManager.full u.refused_table, fun j => ?_⟩
    have hkept := congrArg (fun t : TableManager => (recordAt t.records j).map Record.core) u.refused_table
    exact hkept

/-! ### What a completion keeps -/

theorem settleChecks_tag_full (s : State) :
    s.settleChecks.1.table.tag = s.table.tag ∧ s.settleChecks.1.table.full = s.table.full := by
  unfold State.settleChecks
  dsimp only
  split
  · have hpromote (u : State) : u.promote.1.table.tag = u.table.tag ∧ u.promote.1.table.full = u.table.full := by
      refine ⟨(promote_recordsOnly u).tag, ?_⟩
      unfold State.promote
      split
      · rfl
      · dsimp only
        split
        · unfold State.markCheck
          split <;> rfl
        · rfl
    obtain ⟨htag, hfull⟩ := hpromote s.dropDeferral.cancelCheck
    rw [htag, hfull, State.cancelCheck, State.endCheck, State.handing_table]
    simp
  · simp

theorem eventAt_full (before : State) (w : List Record) (a : Option Slot) (s : State) (i : Slot) :
    (State.eventAt before w a s i).table.full = s.table.full := by
  have hwithdrawn : (s.withdrawAt w i).table.full = s.table.full := by
    unfold State.withdrawAt
    split <;> simp
  rw [State.eventAt_eq, ← hwithdrawn]
  unfold State.announceAt
  split
  · rfl
  · split
    · rfl
    · rw [State.sendReport_table]
      split <;> rfl

theorem foldl_eventAt_full (before : State) (w : List Record) (a : Option Slot) (slots : List Slot) (s : State) :
    (slots.foldl (State.eventAt before w a) s).table.full = s.table.full := by
  induction slots generalizing s with
  | nil => rfl
  | cons i slots ih => exact (ih _).trans (eventAt_full before w a s i)

theorem startCheck_tag_full (s : State) :
    s.startCheck.table.tag = s.table.tag ∧ s.startCheck.table.full = s.table.full := by
  unfold State.startCheck
  split
  · dsimp only
    split
    · unfold State.resolveCheck
      split <;> simp [State.pushItem_table]
    · simp
  · exact ⟨rfl, rfl⟩

/-- A completion keeps the table tag, and TABLE_FULL as the service left it. -/
theorem State.complete_tag_full (s : State) (v : Served) :
    (s.complete v).table.tag = v.state.table.tag ∧ (s.complete v).table.full = v.state.table.full := by
  have hreports (u : State) : (s.reportsOf v u).table.tag = u.table.tag ∧
      (s.reportsOf v u).table.full = u.table.full := by
    refine ⟨(reportsOf_recordsOnly s v u).tag, ?_⟩
    unfold State.reportsOf
    rw [State.refresh_table]
    exact foldl_eventAt_full _ _ _ _ _
  obtain ⟨htag, hfull⟩ := settleChecks_tag_full (v.state.setRecords (sortRecords v.state.table.records))
  rw [State.complete_eq]
  simp only [State.takeWork_table_tag, State.takeWork_table_full, State.notifyTable_table]
  split
  · rw [(startCheck_tag_full _).1, (startCheck_tag_full _).2, (hreports _).1, (hreports _).2, htag, hfull]
    exact ⟨rfl, rfl⟩
  · rw [(hreports _).1, (hreports _).2, htag, hfull]
    exact ⟨rfl, rfl⟩

theorem State.complete_unchanged (s : State) (v : Served) :
    UnchangedBut [.table, .report, .link, .clear, .startup] v.state (s.complete v) := by
  intro b hb
  cases b <;> simp [Block.same] at hb ⊢

theorem Merged.complete {c : Core} {r : Record} {rs : List Record} {s : State} {v : Served} (hv : v.state.Sound)
    (h : Merged c r rs v.state) : Merged c r rs (s.complete v) := h.of_coreAt (State.complete_coreAt hv)

theorem Created.complete {c : Core} {rs : List Record} {s : State} {v : Served} (hv : v.state.Sound)
    (h : Created c rs s v.state) : Created c rs s (s.complete v) :=
  h.of_coreAt (State.complete_coreAt hv) (s.complete_tag_full v).2

/-! ### Own merges and creations -/

theorem Hazard.isObstacle_iff (k : Hazard) : k.isObstacle = true ↔ k = .obstacle := by
  cases k <;> simp [Hazard.isObstacle]

/-- The clear run of a merged record: the one that a WALL observation has just reset (R57, R60). -/
theorem Record.mergeOwn_core {r : Record} {kind : Hazard} {origin : Origin} (p : Int × Int) (rc : Recon)
    (hrun : kind = .obstacle → origin = .wall → r.clearRun.getD 0 = 0) :
    (r.mergeOwn kind origin p rc).core = ownMerged kind origin p (rc.lower (ownIncrement kind)) r := by
  have hwall : (r.mergeOwn kind origin p rc).clearRun = if kind = .obstacle ∧ origin = .wall then some 0 else none := by
    by_cases hw : kind = .obstacle ∧ origin = .wall
    · obtain ⟨rfl, rfl⟩ := hw
      rw [if_pos ⟨rfl, rfl⟩, ← hrun rfl rfl]
      rfl
    · rw [if_neg hw]
      refine if_neg fun h => hw ?_
      simpa [Record.isOwnWall, Hazard.isObstacle_iff] using h
  rw [Record.core, hwall]
  rfl

theorem ownRecord_core (kind : Hazard) (origin : Origin) (p : Int × Int) (rc : Recon) :
    (ownRecord kind origin p rc).core = ownCreated kind origin p (rc.lower (ownCreateConf kind origin)) := by
  have hwall : (ownRecord kind origin p rc).clearRun = if kind = .obstacle ∧ origin = .wall then some 0 else none := by
    by_cases hw : kind = .obstacle ∧ origin = .wall
    · obtain ⟨rfl, rfl⟩ := hw
      rfl
    · rw [if_neg hw]
      refine if_neg fun h => hw ?_
      simpa [Record.isOwnWall, Hazard.isObstacle_iff] using h
  rw [Record.core, hwall]
  rfl

section
variable {s u : State} (h : u.Sound) {kind : Hazard} {origin : Origin} {p : Int × Int} {rc : Recon}
include h

/-- An observation merges into the nearest record of its kind (R56, R57). -/
theorem State.mergeOrCreate_merged {r : Record}
    (hr : NearestOf u.table.records (fun q => q.kind.sameKind kind) p.1 p.2 (mergeRadius kind) r)
    (hrun : kind = .obstacle → origin = .wall → r.clearRun.getD 0 = 0) :
    Merged (ownMerged kind origin p (rc.lower (ownIncrement kind)) r) r u.table.records
      (u.mergeOrCreate kind origin p rc).state := by
  have htarget : mergeTarget u.table.records kind p.1 p.2 = some r := (nearest_eq_some_iff h.slots ..).2 hr
  rw [State.mergeOrCreate, htarget, ← Record.mergeOwn_core p rc hrun]
  exact State.putRecord_merged h hr.1 rfl

/-- With no record of its kind near, an observation creates one (R56, R58). -/
theorem State.mergeOrCreate_created (hord : u.table.Ordered) (hgood : u.table.good = s.table.good)
    (hnone : NoneNear u.table.records (fun q => q.kind.sameKind kind) p.1 p.2 (mergeRadius kind)) :
    Created (ownCreated kind origin p (rc.lower (ownCreateConf kind origin))) u.table.records s
      (u.mergeOrCreate kind origin p rc).state := by
  have htarget : mergeTarget u.table.records kind p.1 p.2 = none := (nearest_eq_none_iff ..).2 hnone
  rw [State.mergeOrCreate, htarget, ← ownRecord_core]
  exact State.placeRecord_created h hord hgood _

end

theorem State.wallReset_records (s : State) (kind : Hazard) (o : Origin) : (s.wallReset kind o).table.records =
    if kind = .obstacle ∧ o = .wall then
      s.table.records.map fun r => if r.isOwnWall then { r with clearRun := some 0 } else r
    else s.table.records := by
  unfold State.wallReset
  by_cases hw : kind = .obstacle ∧ o = .wall
  · rw [if_pos hw, if_pos (by simpa [Hazard.isObstacle_iff] using hw)]
    rfl
  · rw [if_neg hw, if_neg (by simpa [Hazard.isObstacle_iff] using hw)]

theorem State.wallReset_clearRun {s : State} (h : s.Sound) {r : Record}
    (hr : r ∈ (s.wallReset .obstacle .wall).table.records) : r.clearRun.getD 0 = 0 := by
  obtain ⟨q, hq, rfl⟩ := List.mem_map.1 hr
  split
  · rfl
  next hw =>
    obtain ⟨-, -, -, -, hrun, -⟩ := h.fields q hq
    rw [Option.not_isSome_iff_eq_none.1 fun hc => hw (hrun.1 hc)]
    rfl

theorem State.serveOwn_of_far {s : State} {kind : Hazard} {o : Origin} {x y : Int} {tag : Option Seq}
    (hp : rangeLimit < rangeOf ((s.reconcile tag).point x y).1 ((s.reconcile tag).point x y).2) :
    s.serveOwn kind o x y tag = { state := s.wallReset kind o } := by rw [State.serveOwn_eq, if_pos hp]

theorem State.serveOwn_of_near {s : State} {kind : Hazard} {o : Origin} {x y : Int} {tag : Option Seq}
    (hp : rangeOf ((s.reconcile tag).point x y).1 ((s.reconcile tag).point x y).2 ≤ rangeLimit) :
    s.serveOwn kind o x y tag =
      (s.wallReset kind o).mergeOrCreate kind o ((s.reconcile tag).point x y) (s.reconcile tag) := by
  rw [State.serveOwn_eq, if_neg (not_lt.2 hp)]

/-- Settles O40: the record merged into is the nearest of its kind, and a created one has its slot from `placeRecord`; the
completion leaves what the slots show. -/
theorem ownObservationsMergeOrCreate : Obligations.OwnObservationsMergeOrCreate := by
  intro s kind origin x y tag hrun hkind hwork htable
  have hok := htable.recordsOk
  have hserved : s.serveOwnObservation = s.complete (s.serveOwn kind origin x y tag) := by
    unfold State.serveOwnObservation
    rw [hwork]
    exact if_pos (by simpa [hrun] using hkind)
  have hsound := State.serveOwn_sound hok.sound hok.ordered kind origin x y tag
  have hreset := State.wallReset_sound hok.sound kind origin
  have hrs := s.wallReset_records kind origin
  have hradius : mergeRadius kind = if kind = .obstacle then 40 else 200 := by
    cases kind <;> simp_all [mergeRadius, Hazard.isObstacle, Hazard.isDock]
  have hinc : ownIncrement kind = if kind = .obstacle then 3 else 2 := by
    cases kind <;> simp_all [ownIncrement, Hazard.isObstacle, Hazard.isDock]
  have hconf : ownCreateConf kind origin = if origin = .bump then 15 else if kind = .obstacle then 3 else 2 := by
    cases kind <;> simp_all [ownCreateConf, Hazard.isObstacle, Hazard.isDock]
  refine ⟨_, congrArg Host.Outcome.next hserved, ?_⟩
  dsimp only
  rw [← hrs, ← hradius, ← hconf, ← hinc]
  refine ⟨fun hp i => ?_, fun hp => ⟨fun r hr => ?_, fun hnone => ?_⟩, ?_, State.complete_ordered hsound, ?_⟩
  · rw [State.complete_coreAt hsound, State.serveOwn_of_far hp]
    rfl
  · refine Merged.complete hsound ?_
    rw [State.serveOwn_of_near hp]
    refine State.mergeOrCreate_merged hreset hr fun hk ho => ?_
    subst hk ho
    exact State.wallReset_clearRun hok.sound hr.1
  · refine Created.complete hsound ?_
    rw [State.serveOwn_of_near hp]
    refine State.mergeOrCreate_created hreset (State.wallReset_ordered hok.ordered kind origin) ?_ hnone
    unfold State.wallReset
    split <;> rfl
  · rw [(s.complete_tag_full _).1]
    exact (serveOwn_recordsOnly s kind origin x y tag).tag
  · refine UnchangedBut.trans (fun b hb => ?_) (s.complete_unchanged _)
    cases b <;> simp [Block.same] at hb ⊢

end Sys2Proof.Machine
end

section
/-! PROOFS. What the slots show after the service of a peer's ADD (R63, R91, R92). -/

namespace Sys2Proof.Machine

open Sys2Proof

/-! ### What a completion leaves alone -/

/-- No report was found stale, no check was forced (R176), and the position is the same. -/
def Steady (s t : State) : Prop :=
  t.link.counts.staleReport = s.link.counts.staleReport ∧ t.link.counts.checkForced = s.link.counts.checkForced ∧
  t.startup.pos = s.startup.pos

theorem Steady.refl (s : State) : Steady s s := ⟨rfl, rfl, rfl⟩

theorem Steady.trans {s t u : State} (h : Steady s t) (h' : Steady t u) : Steady s u :=
  ⟨h'.1.trans h.1, h'.2.1.trans h.2.1, h'.2.2.trans h.2.2⟩

theorem Steady.of_eq {s t : State} (hcounts : t.link.counts = s.link.counts) (hpos : t.startup = s.startup) :
    Steady s t := by
  rw [Steady, hcounts, hpos]
  exact ⟨rfl, rfl, rfl⟩

theorem Steady.of_sendsOnly {s t : State} (h : SendsOnly s t) : Steady s t := by
  obtain ⟨hlink, hstartup⟩ := h
  rw [Steady, hlink, hstartup]
  exact ⟨rfl, rfl, rfl⟩

theorem handing_steady {s t : State} {f : State → State} (h : Steady t (f s)) : Steady t (s.handing f) := by
  unfold State.handing
  exact h.trans (.of_sendsOnly (State.notify_sendsOnly _ _ _))

theorem enqueue_steady (s : State) (p : Payload) (u : Bool) : Steady s (s.enqueue p u) :=
  .of_sendsOnly (s.enqueue_sendsOnly p u)

theorem pushItem_steady (s : State) (i : Item) : Steady s (s.pushItem i) := ⟨by simp, by simp, by simp⟩

theorem sendReport_steady (s : State) (a : Action) (r : Record) (w : Bool) : Steady s (s.sendReport a r w) :=
  ⟨by simp, by simp, by simp⟩

theorem recompute_steady (s : State) : Steady s s.recompute :=
  .of_sendsOnly s.recompute_sendsOnly

theorem setReport_steady (s : State) (v : ReportHandler) : Steady s (s.setReport v) := .refl s

theorem awaitAnswers_steady (s : State) : Steady s s.awaitAnswers :=
  handing_steady (setReport_steady s _)

theorem takeWork_steady (s : State) : Steady s s.takeWork := .of_eq (by simp) (by simp)

theorem promote_steady (s : State) : Steady s s.promote.1 := .of_eq (by simp) (by simp)

theorem settleChecks_steady (s : State) : Steady s s.settleChecks.1 := by
  have hdrop : Steady s s.dropDeferral := .of_eq (by simp) (by simp)
  unfold State.settleChecks
  dsimp only
  split
  · refine (hdrop.trans ?_).trans (promote_steady _)
    exact handing_steady (.of_eq rfl rfl)
  · exact hdrop

theorem eventAt_steady (before : State) (w : List Record) (a : Option Slot) (s : State) (i : Slot) :
    Steady s (State.eventAt before w a s i) := by
  have hwithdrawn : Steady s (s.withdrawAt w i) := by
    unfold State.withdrawAt
    split
    · exact sendReport_steady _ _ _ _
    · exact .refl s
  rw [State.eventAt_eq]
  refine hwithdrawn.trans ?_
  unfold State.announceAt
  split
  · exact .refl _
  · split
    · exact .refl _
    · split
      · exact Steady.trans (t := State.putRecord _ _) (.of_eq rfl rfl) (sendReport_steady _ _ _ _)
      · exact sendReport_steady _ _ _ _

theorem foldl_eventAt_steady (before : State) (w : List Record) (a : Option Slot) (slots : List Slot) (s : State) :
    Steady s (slots.foldl (State.eventAt before w a) s) := by
  induction slots generalizing s with
  | nil => exact .refl s
  | cons i slots ih => exact (eventAt_steady before w a s i).trans (ih _)

theorem refresh_steady (before : State) (m : Option Slot) (s : State) :
    Steady s (State.refresh before m s) := by
  unfold State.refresh
  split
  · split
    · exact sendReport_steady _ _ _ _
    · exact .refl s
  · exact .refl s

theorem reportsOf_steady (s : State) (v : Served) (u : State) : Steady u (s.reportsOf v u) :=
  (foldl_eventAt_steady _ _ _ _ u).trans (refresh_steady _ _ _)

theorem resolveCheck_steady (s : State) : Steady s s.resolveCheck := by
  unfold State.resolveCheck
  split
  · refine handing_steady ((handing_steady (.of_eq ?_ ?_)).trans (pushItem_steady _ _))
    · rfl
    · rfl
  · exact .refl s

theorem startCheck_steady (s : State) : Steady s s.startCheck := by
  unfold State.startCheck
  split
  · dsimp only
    split
    · exact (setReport_steady s _).trans (resolveCheck_steady _)
    · exact ((setReport_steady s _).trans (enqueue_steady _ _ _)).trans (awaitAnswers_steady _)
  · exact .refl s

theorem notifyTable_steady (s before : State) : Steady s (s.notifyTable before) := by
  unfold State.notifyTable
  split
  · exact recompute_steady s
  · exact .refl s

theorem complete_steady (s : State) (v : Served) : Steady v.state (s.complete v) := by
  have hsettled := settleChecks_steady (v.state.setRecords (sortRecords v.state.table.records))
  have hreported := hsettled.trans (reportsOf_steady s v _)
  rw [State.complete_eq]
  refine (Steady.trans ?_ (notifyTable_steady _ s)).trans (takeWork_steady _)
  split
  · exact hreported.trans (startCheck_steady _)
  · exact hreported

/-! ### Peer ADDs -/

theorem appendKey_eq {keys : List Key} (h : keys.length ≤ maxKeys) (k : Key) :
    appendKey keys k = keys.drop (keys.length - 3) ++ [k] := by
  have hmax : maxKeys = 4 := rfl
  unfold appendKey
  split
  next hroom =>
    have hzero : keys.length - 3 = 0 := by omega
    rw [hzero, List.drop_zero]
  next hfull =>
    have hone : keys.length - 3 = 1 := by omega
    rw [hone]

theorem Hazard.not_obstacle_of_sameKind {a b : Hazard} (h : a.sameKind b = true) : a.isObstacle = b.isObstacle := by
  cases a <;> cases b <;>
    simp_all [Hazard.sameKind, Hazard.isCliff, Hazard.isRug, Hazard.isObstacle, Hazard.isDock]

/-- A merge of a peer ADD leaves the kind-bound fields of an OBSTACLE as they were (R46, R63). -/
theorem Record.mergePeer_core {r : Record} (h : r.FieldsOk) (k : Key) {kind : Hazard}
    (hk : r.kind.sameKind kind = true) (conf : Nat) : (r.mergePeer k kind conf).core =
      (kind, (r.x, r.y), (min 15 (max r.conf (conf - 1) + 1), 0), r.own, r.keys.drop (r.keys.length - 3) ++ [k],
        r.clearRun) := by
  obtain ⟨-, hkeys, -, -, hwall, -⟩ := h
  have hsame : (r.mergePeer k kind conf).isOwnWall = r.isOwnWall := by
    have hobstacle := Hazard.not_obstacle_of_sameKind hk
    simp only [Record.isOwnWall, hobstacle]
    rfl
  have hrun : (r.mergePeer k kind conf).clearRun = r.clearRun := by
    change (if (r.mergePeer k kind conf).isOwnWall then some (r.clearRun.getD 0) else none) = r.clearRun
    rw [hsame]
    cases hr : r.clearRun with
    | none => exact if_neg fun hw => by simpa [hr] using hwall.2 hw
    | some n => exact if_pos (hwall.1 (by rw [hr]; rfl))
  rw [Record.core, hrun, ← appendKey_eq hkeys k]
  rfl

section
variable {s : State} {r : PeerReport} {rc : Recon}

theorem State.addPeer_of_far (hp : rangeLimit < rangeOf (rc.point r.x r.y).1 (rc.point r.x r.y).2) :
    s.addPeer r rc = s.count .staleReport := if_pos hp

/-- The records without the key of an ADD (R63 step 1). -/
def State.withoutKey (s : State) (k : Key) : State :=
  s.setRecords (s.table.records.filterMap (Record.without k))

theorem State.withoutKey_sound (h : s.Sound) (k : Key) : (s.withoutKey k).Sound := Sound.without h k

theorem State.withoutKey_ordered (h : s.table.Ordered) (k : Key) : (s.withoutKey k).table.Ordered :=
  without_ordered h k

variable (h : s.Sound) (hp : rangeOf (rc.point r.x r.y).1 (rc.point r.x r.y).2 ≤ rangeLimit)
include h hp

theorem State.addPeer_of_near : s.addPeer r rc =
    match mergeTarget (s.withoutKey r.key).table.records r.kind (rc.point r.x r.y).1 (rc.point r.x r.y).2 with
    | some t => (s.withoutKey r.key).putRecord (t.mergePeer r.key r.kind (r.conf' rc))
    | none => ((s.withoutKey r.key).placeRecord (peerRecord r.key r.kind (rc.point r.x r.y) (r.conf' rc))).1 := by
  unfold State.addPeer
  dsimp only
  rw [if_neg (not_lt.2 hp), State.removeKey_eq h]
  rfl

theorem State.addPeer_merged {q : Record} (hq : NearestOf (s.withoutKey r.key).table.records
      (fun q => q.kind.sameKind r.kind) (rc.point r.x r.y).1 (rc.point r.x r.y).2 (mergeRadius r.kind) q) :
    Merged (r.kind, (q.x, q.y), (min 15 (max q.conf (r.conf' rc - 1) + 1), 0), q.own,
      q.keys.drop (q.keys.length - 3) ++ [r.key], q.clearRun) q (s.withoutKey r.key).table.records
      (s.addPeer r rc) := by
  have hleft := State.withoutKey_sound h r.key
  have htarget : mergeTarget (s.withoutKey r.key).table.records r.kind (rc.point r.x r.y).1 (rc.point r.x r.y).2 =
      some q := (nearest_eq_some_iff hleft.slots ..).2 hq
  obtain ⟨hmem, hkind, -⟩ := hq
  rw [State.addPeer_of_near h hp, htarget, ← Record.mergePeer_core (hleft.fields q hmem) r.key hkind]
  exact State.putRecord_merged hleft hmem rfl

theorem State.addPeer_created (hord : s.table.Ordered) (hnone : NoneNear (s.withoutKey r.key).table.records
      (fun q => q.kind.sameKind r.kind) (rc.point r.x r.y).1 (rc.point r.x r.y).2 (mergeRadius r.kind)) :
    Created (r.kind, rc.point r.x r.y, (max 1 (r.conf' rc - 1), 0), none, [r.key], none)
      (s.withoutKey r.key).table.records s (s.addPeer r rc) := by
  have htarget : mergeTarget (s.withoutKey r.key).table.records r.kind (rc.point r.x r.y).1 (rc.point r.x r.y).2 =
      none := (nearest_eq_none_iff ..).2 hnone
  have hcore : (peerRecord r.key r.kind (rc.point r.x r.y) (r.conf' rc)).core =
      (r.kind, rc.point r.x r.y, (max 1 (r.conf' rc - 1), 0), none, [r.key], none) := by
    have hrun : (peerRecord r.key r.kind (rc.point r.x r.y) (r.conf' rc)).clearRun = none := by
      refine if_neg ?_
      simp [Record.isOwnWall]
    rw [Record.core, hrun]
    rfl
  rw [State.addPeer_of_near h hp, htarget, ← hcore]
  exact State.placeRecord_created (State.withoutKey_sound h _) (State.withoutKey_ordered hord _) rfl _

omit h in
theorem State.addPeer_steady : Steady s (s.addPeer r rc) := by
  unfold State.addPeer
  dsimp only
  rw [if_neg (not_lt.2 hp)]
  split
  · exact .of_eq rfl rfl
  · unfold State.placeRecord
    split
    · exact .of_eq rfl rfl
    · split
      · exact .of_eq rfl rfl
      · exact Steady.trans (t := State.handing _ _) (handing_steady (.of_eq rfl rfl)) ⟨rfl, rfl, rfl⟩

end

theorem State.servePeerAdd_of_serving {s : State} {r : PeerReport} (hrun : s.running = true) (ha : r.action = .add)
    (hwork : s.table.work = .serving (.report r)) : s.servePeerAdd = s.complete (s.serveAdd r) := by
  unfold State.servePeerAdd
  rw [hwork]
  exact if_pos (by simp [hrun, ha])

theorem State.TableOk.report_conf {s : State} (h : s.TableOk) {r : PeerReport}
    (hwork : s.table.work = .serving (.report r)) : r.conf ≤ maxConf := by
  obtain ⟨⟨-, -, hconf⟩, -⟩ := h
  rw [hwork] at hconf
  exact hconf

/-- Settles O43: a stale report leaves the slots; otherwise the key goes first, and the report merges into the nearest
record of its kind or takes a slot. -/
theorem peerAddsMergeOrCreate : Obligations.PeerAddsMergeOrCreate := by
  intro s r hrun hadd hwork htable
  have hok := htable.recordsOk
  have hsound := State.serveAdd_sound hok.sound hok.ordered (htable.report_conf hwork)
  have hradius : mergeRadius r.kind = (match r.kind with
      | .cliff => 30
      | .rug _ => 60
      | .obstacle => 40
      | .dock _ => 200) := by cases r.kind <;> rfl
  have hcounts := complete_steady s (s.serveAdd r)
  refine ⟨_, congrArg Host.Outcome.next (State.servePeerAdd_of_serving hrun hadd hwork), ?_⟩
  dsimp only
  refine ⟨fun hstale => ?_, fun hrc hp => ?_, ?_, State.complete_ordered hsound, ?_⟩
  · have hstate : (s.serveAdd r).state = s.count .staleReport := by
      unfold State.serveAdd
      dsimp only
      split
      · rfl
      next hrc =>
        obtain hfail | hfar := hstale
        · exact absurd hfail hrc
        · exact State.addPeer_of_far hfar
    refine ⟨?_, fun i => ?_⟩
    · rw [hcounts.1, hstate]
      rfl
    · rw [State.complete_coreAt hsound, hstate]
      rfl
  · have hstate : (s.serveAdd r).state = s.addPeer r (s.reconcile r.tag) := if_neg hrc
    refine ⟨?_, fun q hq => ?_, fun hnone => ?_⟩
    · rw [hcounts.1, hstate]
      exact (State.addPeer_steady hp).1
    · refine Merged.complete hsound ?_
      rw [hstate]
      exact State.addPeer_merged hok.sound hp (by rw [hradius]; exact hq)
    · refine Created.complete hsound ?_
      rw [hstate]
      exact State.addPeer_created hok.sound hp hok.ordered (by rw [hradius]; exact hnone)
  · rw [(s.complete_tag_full _).1]
    exact (serveAdd_recordsOnly s r).tag
  · refine UnchangedBut.trans (fun b hb => ?_) (s.complete_unchanged _)
    cases b <;> simp [Block.same] at hb ⊢

end Sys2Proof.Machine
end

section
/-! PROOFS. What a completion makes of the check (R72, R100, R106, R108, R109): it stays, ends, or gives way to the candidate's. -/

namespace Sys2Proof.Machine

open Sys2Proof

/-! ### The report frames leave all of a record but its reported mark -/

/-- A record as it stands before any report. -/
def Record.unreported (r : Record) : Record := { r with reported := false }

/-- Of the records only the reported marks, and of the rest of the table and the check only the report ages, may have
changed. -/
structure ReportsMade (s t : State) : Prop where
  table : RecordsOnly s t
  records : ∀ i, (t.at i).map Record.unreported = (s.at i).map Record.unreported
  report : t.report = { s.report with ages := t.report.ages }

theorem ReportsMade.refl (s : State) : ReportsMade s s := ⟨.refl s, fun _ => rfl, rfl⟩

theorem ReportsMade.trans {s t u : State} (h : ReportsMade s t) (h' : ReportsMade t u) : ReportsMade s u where
  table := h.table.trans h'.table
  records i := (h'.records i).trans (h.records i)
  report := h'.report.trans (congrArg (fun r : ReportHandler => { r with ages := u.report.ages }) h.report)

theorem sendReport_reportsMade (s : State) (a : Action) (r : Record) (w : Bool) :
    ReportsMade s (s.sendReport a r w) where
  table := sendReport_recordsOnly s a r w
  records i := by rw [State.at, State.sendReport_table]; rfl
  report := by
    unfold State.sendReport
    simp

theorem putReported_reportsMade {s : State} {i : Slot} {r : Record} (hr : s.at i = some r) :
    ReportsMade s (s.putRecord { r with reported := true }) where
  table := putRecord_recordsOnly s _
  records j := by
    have hat := recordAt_updateRecord s.table.records { r with reported := true } j
    obtain ⟨-, hslot⟩ := mem_of_recordAt hr
    by_cases hj : j = r.slot
    · have hjr : s.at j = some r := by rw [hj, hslot]; exact hr
      have hput : (s.putRecord { r with reported := true }).at j = some { r with reported := true } := by
        refine hat.trans ?_
        rw [if_pos hj, show recordAt s.table.records j = some r from hjr]
        rfl
      rw [hput, hjr]
      rfl
    · have hput : (s.putRecord { r with reported := true }).at j = s.at j := hat.trans (if_neg hj)
      rw [hput]
  report := rfl

theorem eventAt_reportsMade (before : State) (w : List Record) (a : Option Slot) (s : State) (i : Slot) :
    ReportsMade s (State.eventAt before w a s i) := by
  have hwithdrawn : ReportsMade s (s.withdrawAt w i) := by
    unfold State.withdrawAt
    split
    · exact sendReport_reportsMade _ _ _ _
    · exact .refl s
  rw [State.eventAt_eq]
  refine hwithdrawn.trans ?_
  unfold State.announceAt
  split
  · exact .refl _
  next r hr =>
    split
    · exact .refl _
    · split
      · exact (putReported_reportsMade hr).trans (sendReport_reportsMade _ _ _ _)
      · exact sendReport_reportsMade _ _ _ _

theorem foldl_eventAt_reportsMade (before : State) (w : List Record) (a : Option Slot) (slots : List Slot) (s : State) :
    ReportsMade s (slots.foldl (State.eventAt before w a) s) := by
  induction slots generalizing s with
  | nil => exact .refl s
  | cons i slots ih => exact (eventAt_reportsMade before w a s i).trans (ih _)

theorem refresh_reportsMade (before : State) (m : Option Slot) (s : State) :
    ReportsMade s (State.refresh before m s) := by
  unfold State.refresh
  split
  · split
    · exact sendReport_reportsMade _ _ _ _
    · exact .refl s
  · exact .refl s

theorem reportsOf_reportsMade (s : State) (v : Served) (u : State) : ReportsMade u (s.reportsOf v u) :=
  (foldl_eventAt_reportsMade _ _ _ _ u).trans (refresh_reportsMade _ _ _)

theorem State.hasMark_eq (s : State) (i : Slot) (m : CheckMark) :
    s.hasMark i m = (s.at i).any fun r => r.kind.isCliff && r.check = some m := by
  unfold State.hasMark State.at
  cases recordAt s.table.records i <;> rfl

theorem ReportsMade.hasMark {s t : State} (h : ReportsMade s t) (i : Slot) (m : CheckMark) :
    t.hasMark i m = s.hasMark i m := by
  have hany (u : State) : u.hasMark i m =
      ((u.at i).map Record.unreported).any fun r => r.kind.isCliff && r.check = some m := by
    rw [State.hasMark_eq, Option.any_map]
    rfl
  rw [hany, hany, h.records]

theorem ReportsMade.check {s t : State} (h : ReportsMade s t) (i : Slot) :
    (t.at i).bind Record.check = (s.at i).bind Record.check := by
  have hbind (u : State) : (u.at i).bind Record.check = ((u.at i).map Record.unreported).bind Record.check := by
    rw [Option.bind_map]
    rfl
  rw [hbind, hbind, h.records]

theorem ReportsMade.at_isSome {s t : State} (h : ReportsMade s t) (i : Slot) : (t.at i).isSome = (s.at i).isSome := by
  have hsome := congrArg Option.isSome (h.records i)
  simpa using hsome

/-! ### The state in which the checks are settled -/

/-- The list ordered anew at the completion (R55). -/
def Served.sorted (v : Served) : State := v.state.setRecords (sortRecords v.state.table.records)

theorem Served.sorted_at {v : Served} (hv : v.state.Sound) (i : Slot) : v.sorted.at i = v.state.at i :=
  recordAt_sortRecords hv.slots i

theorem Served.sorted_hasMark {v : Served} (hv : v.state.Sound) (i : Slot) (m : CheckMark) :
    v.sorted.hasMark i m = v.state.hasMark i m := by
  rw [State.hasMark_eq, State.hasMark_eq, Served.sorted_at hv]

theorem State.dropDeferral_hasMark (s : State) (i : Slot) (m : CheckMark) :
    s.dropDeferral.hasMark i m = s.hasMark i m := by
  rw [State.hasMark_eq, State.hasMark_eq, State.at, State.dropDeferral_table]
  rfl

theorem State.dropDeferral_checkGone (s : State) : s.dropDeferral.checkGone = s.checkGone := by
  have hphase : s.dropDeferral.report.isChecking = s.report.isChecking ∧
      s.dropDeferral.report.outstanding = s.report.outstanding := by
    rw [State.dropDeferral_report]
    split <;> exact ⟨rfl, rfl⟩
  simp only [State.checkGone, hphase.1, hphase.2, State.dropDeferral_hasMark]

/-- With its record still a CLIFF under a PENDING check, or none outstanding, a check stays (R72). -/
theorem State.settleChecks_of_stays {s : State} (h : s.checkGone = false) : s.settleChecks = (s.dropDeferral, false) := by
  have hstays : ¬ s.dropDeferral.checkGone = true := by rw [State.dropDeferral_checkGone, h]; decide
  unfold State.settleChecks
  exact if_neg hstays

theorem State.settleChecks_of_gone {s : State} (h : s.checkGone = true) :
    s.settleChecks = s.dropDeferral.cancelCheck.promote := by
  have hgone : s.dropDeferral.checkGone = true := by rw [State.dropDeferral_checkGone, h]
  unfold State.settleChecks
  exact if_pos hgone

/-- With no candidate that stands, a check that ends leaves the Report Handler at rest (R106, R108). -/
theorem State.cancelCheck_promote_of_none {s : State} (h : s.report.deferred = none) :
    s.cancelCheck.promote = (s.cancelCheck, false) := by
  have hnone : s.cancelCheck.report.deferred = none := by
    rw [State.cancelCheck, State.endCheck_report]
    exact h
  rw [State.promote, hnone]

/-- A candidate that stands takes the check over, with the next check id (R106, R109). -/
theorem State.promote_of_stands {s : State} {d : Slot} (hd : s.report.deferred = some d)
    (hmark : s.hasMark d .deferred = true) : s.promote =
      ((s.setReport ({ s.report with deferred := none }.takeCheck d)).markCheck d .pending, true) := by
  rw [State.promote, hd]
  exact if_pos hmark

theorem State.hasMark_at {s : State} {i : Slot} {m : CheckMark} (h : s.hasMark i m = true) :
    ∃ r, s.at i = some r ∧ r.kind = .cliff ∧ r.check = some m := by
  rw [State.hasMark_eq, Option.any_eq_true] at h
  obtain ⟨r, hr, hrm⟩ := h
  exact ⟨r, hr, by simpa using hrm⟩

theorem State.markCheck_at {s : State} {i : Slot} {r : Record} (hr : s.at i = some r) (m : CheckMark) (j : Slot) :
    (s.markCheck i m).at j = if j = i then some { r with check := some m } else s.at j := by
  have hput : s.markCheck i m = s.putRecord { r with check := some m } := by
    rw [State.markCheck, show recordAt s.table.records i = some r from hr]
  obtain ⟨-, hslot⟩ := mem_of_recordAt hr
  rw [hput]
  refine (recordAt_updateRecord _ _ _).trans ?_
  subst hslot
  by_cases hj : j = r.slot
  · rw [if_pos hj, if_pos hj, hj, show recordAt s.table.records r.slot = some r from hr]
    rfl
  · rw [if_neg hj, if_neg hj]
    rfl

theorem State.markCheck_hasMark {s : State} {i : Slot} {r : Record} (hr : s.at i = some r) (hk : r.kind = .cliff)
    (m : CheckMark) : (s.markCheck i m).hasMark i m = true := by
  rw [State.hasMark_eq, State.markCheck_at hr, if_pos rfl]
  simp [hk]

/-! ### A started check -/

theorem resolveCheck_phase_of_room {s : State} {d : Slot} (hd : s.report.outstanding = some d)
    (hroom : s.table.fifo.length < fifoSize) : s.resolveCheck.report = s.report.resolved := by
  rw [State.resolveCheck_report hd, if_neg]
  simp [outcomeLost, hroom]

/-- A check starts with the peers it awaits, or resolves at once when there are none (R100, R104). -/
theorem State.startCheck_report_of_room {s : State} {d : Slot} {r : Record} {n : BitVec 4}
    (hd : s.report.outstanding = some d) (hr : s.at d = some r) (hn : s.report.checkId = some n)
    (hroom : s.table.fifo.length < fifoSize) : s.startCheck.report =
      if s.awaitedSet = [] then { s.report with awaited := [], answers := [], phase := .resolved, checkTimer := none }
      else { s.report with
        awaited := s.awaitedSet, answers := [], phase := .awaiting, checkTimer := some checkTime } := by
  have hbound : s.report.outstanding.bind (recordAt s.table.records) = some r := by rw [hd]; exact hr
  unfold State.startCheck
  rw [hbound, hn]
  dsimp only
  by_cases haw : s.awaitedSet = []
  · rw [if_pos haw, if_pos haw]
    refine (resolveCheck_phase_of_room (s := s.setReport { s.report with awaited := s.awaitedSet, answers := [] })
      (d := d) hd hroom).trans ?_
    rw [haw]
    rfl
  · rw [if_neg haw, if_neg haw, State.awaitAnswers, State.handing_report, State.setReport_report, State.enqueue_report]
    rfl

theorem startCheck_table_records (s : State) : s.startCheck.table.records = s.table.records := by
  unfold State.startCheck
  split
  · dsimp only
    split
    · simp
    · simp
  · rfl

/-- The state of a completion before the Clearance Unit is notified. -/
def State.beforeNotice (s : State) (v : Served) : State :=
  if v.starts || v.sorted.settleChecks.2 then (s.reportsOf v v.sorted.settleChecks.1).startCheck
  else s.reportsOf v v.sorted.settleChecks.1

theorem State.complete_eq_beforeNotice (s : State) (v : Served) :
    s.complete v = ((s.beforeNotice v).notifyTable s).takeWork := rfl

theorem State.complete_report' (s : State) (v : Served) : (s.complete v).report = (s.beforeNotice v).report := by
  rw [State.complete_eq_beforeNotice, State.takeWork_report, State.notifyTable_report]

theorem State.complete_outcomes (s : State) (v : Served) :
    (s.complete v).table.outcomes = waitingOutcomes (s.beforeNotice v).table.fifo := by
  rw [State.complete_eq_beforeNotice, State.takeWork_outcomes, State.notifyTable_table]

theorem State.complete_at (s : State) (v : Served) (i : Slot) :
    (s.complete v).at i = (s.reportsOf v v.sorted.settleChecks.1).at i := by
  have hbefore : (s.beforeNotice v).table.records = (s.reportsOf v v.sorted.settleChecks.1).table.records := by
    unfold State.beforeNotice
    split
    · exact startCheck_table_records _
    · rfl
  rw [State.at, State.complete_eq_beforeNotice, State.takeWork_table_records, State.notifyTable_table, hbefore]
  rfl

theorem State.complete_hasMark (s : State) (v : Served) (i : Slot) (m : CheckMark) :
    (s.complete v).hasMark i m = v.sorted.settleChecks.1.hasMark i m := by
  rw [← (reportsOf_reportsMade s v v.sorted.settleChecks.1).hasMark, State.hasMark_eq, State.hasMark_eq,
    State.complete_at]

theorem State.awaitedSet_congr {s t : State} (hpeers : t.peers = s.peers) (hpos : t.startup.pos = s.startup.pos) :
    t.awaitedSet = s.awaitedSet := by
  unfold State.awaitedSet
  rw [hpeers, hpos]

theorem State.reportsOf_peers (s : State) (v : Served) (u : State) : (s.reportsOf v u).peers = u.peers := by
  simp [State.reportsOf]

/-- No check starts: a completion leaves the settled check (R72). -/
theorem State.complete_report_of_quiet {s : State} {v : Served}
    (hstart : (v.starts || v.sorted.settleChecks.2) = false) :
    ∃ ages, (s.complete v).report = { v.sorted.settleChecks.1.report with ages := ages } := by
  rw [State.complete_report', State.beforeNotice, hstart]
  exact ⟨_, (reportsOf_reportsMade s v v.sorted.settleChecks.1).report⟩

/-- A check that took its record starts at the completion (R100). -/
theorem State.complete_report_of_start {s : State} {v : Served} {d : Slot} {r : Record} {n : BitVec 4}
    (hstart : (v.starts || v.sorted.settleChecks.2) = true)
    (hd : v.sorted.settleChecks.1.report.outstanding = some d) (hr : v.sorted.settleChecks.1.at d = some r)
    (hn : v.sorted.settleChecks.1.report.checkId = some n)
    (hroom : v.sorted.settleChecks.1.table.fifo.length < fifoSize) : ∃ ages, (s.complete v).report =
      { v.sorted.settleChecks.1.report with
        ages := ages, answers := []
        awaited := v.sorted.settleChecks.1.awaitedSet
        phase := if v.sorted.settleChecks.1.awaitedSet = [] then .resolved else .awaiting
        checkTimer := if v.sorted.settleChecks.1.awaitedSet = [] then none else some checkTime } := by
  have hmade := reportsOf_reportsMade s v v.sorted.settleChecks.1
  have hawaited : (s.reportsOf v v.sorted.settleChecks.1).awaitedSet = v.sorted.settleChecks.1.awaitedSet :=
    State.awaitedSet_congr (State.reportsOf_peers ..) (reportsOf_steady s v _).2.2
  obtain ⟨r', hr'⟩ := Option.isSome_iff_exists.1 ((hmade.at_isSome d).trans (by rw [hr]; rfl))
  have hreport := State.startCheck_report_of_room (s := s.reportsOf v v.sorted.settleChecks.1)
    (by rw [hmade.report]; exact hd) hr' (by rw [hmade.report]; exact hn) (by rw [hmade.table.fifo]; exact hroom)
  rw [hawaited, hmade.report] at hreport
  refine ⟨(s.reportsOf v v.sorted.settleChecks.1).report.ages, ?_⟩
  rw [State.complete_report', State.beforeNotice, hstart, if_pos rfl, hreport]
  by_cases haw : v.sorted.settleChecks.1.awaitedSet = []
  · rw [if_pos haw, if_pos haw, if_pos haw, haw]
  · rw [if_neg haw, if_neg haw, if_neg haw]

theorem length_filter_le_of_lt {α : Type} {l : List α} {n : Nat} (h : l.length < n) (p : α → Bool) :
    (l.filter p).length < n := (List.length_filter_le p l).trans_lt h

/-- A check whose record a service cleared or changed ends, and a candidate that stands is promoted and started (R72,
R106, R108, R109). -/
theorem State.complete_checkEnds {s : State} {v : Served} (hv : v.state.Sound) (hreport : v.state.report = s.report)
    (htable : RecordsOnly s v.state) (hpeers : v.state.peers = s.peers) (hpos : v.state.startup.pos = s.startup.pos)
    (hstarts : v.starts = false) {o : Slot} (hphase : s.report.phase ≠ .idle) (ho : s.report.outstanding = some o)
    (hgone : v.state.hasMark o .pending = false) :
    CheckEnds (fun d => v.state.hasMark d .deferred) s (s.complete v) := by
  have hsorted : v.sorted.report = s.report := hreport
  have hcheckGone : v.sorted.checkGone = true := by
    rw [State.checkGone, hsorted, ho]
    simp [ReportHandler.isChecking, hphase, Served.sorted_hasMark hv, hgone]
  have hsettled := State.settleChecks_of_gone hcheckGone
  have hmark (d : Slot) : v.sorted.hasMark d .deferred = v.state.hasMark d .deferred := Served.sorted_hasMark hv d _
  refine ⟨fun hnone => ?_, fun d hd hstill hroom => ?_⟩
  · have hdropped : v.sorted.dropDeferral.report.deferred = none := by
      rw [State.dropDeferral_report, hsorted]
      cases hdef : s.report.deferred with
      | none => simp [hdef]
      | some d => simp [hmark, hnone d hdef]
    rw [State.cancelCheck_promote_of_none hdropped] at hsettled
    have hquiet : (v.starts || v.sorted.settleChecks.2) = false := by rw [hsettled, hstarts]; rfl
    obtain ⟨ages, hend⟩ := State.complete_report_of_quiet (s := s) hquiet
    have hcancelled : v.sorted.settleChecks.1.report = v.sorted.dropDeferral.report.endCheck := by
      rw [hsettled]
      exact State.endCheck_report _
    refine ⟨?_, ?_⟩
    · rw [hend, hcancelled]
      exact ⟨rfl, rfl, rfl, rfl, rfl, rfl, hdropped⟩
    · rw [State.complete_outcomes, State.beforeNotice, hquiet, if_neg Bool.false_ne_true,
        (reportsOf_reportsMade s v _).table.fifo, hsettled, State.cancelCheck, (endCheck_recordsOnly _).fifo]
      simp [waitingOutcomes, List.filter_filter]
  · have hkept : v.sorted.dropDeferral = v.sorted := by
      unfold State.dropDeferral
      rw [if_neg]
      rw [hsorted, hd]
      simp [hmark, hstill]
    rw [hkept] at hsettled
    have hcancelled : v.sorted.cancelCheck.report = s.report.endCheck := by
      rw [State.cancelCheck, State.endCheck_report]
      exact congrArg ReportHandler.endCheck hsorted
    have hcancelledRecords : v.sorted.cancelCheck.table.records = v.sorted.table.records := by
      simp [State.cancelCheck, State.endCheck]
    have hcancelledMark : v.sorted.cancelCheck.hasMark d .deferred = true := by
      rw [State.hasMark_eq, State.at, hcancelledRecords]
      exact (State.hasMark_eq v.sorted d .deferred).symm.trans ((hmark d).trans hstill)
    rw [State.promote_of_stands (by rw [hcancelled]; exact hd) hcancelledMark] at hsettled
    obtain ⟨r, hr, hk, -⟩ := State.hasMark_at hcancelledMark
    have hr' : (v.sorted.cancelCheck.setReport
        ({ v.sorted.cancelCheck.report with deferred := none }.takeCheck d)).at d = some r := hr
    have hroom' : v.sorted.settleChecks.1.table.fifo.length < fifoSize := by
      rw [hsettled, (markCheck_recordsOnly _ _ _).fifo, State.setReport_table, State.cancelCheck,
        (endCheck_recordsOnly _).fifo]
      refine length_filter_le_of_lt ?_ _
      exact htable.fifo ▸ hroom
    have htaken : v.sorted.settleChecks.1.report = { s.report.endCheck with deferred := none }.takeCheck d := by
      rw [hsettled, State.markCheck_report, State.setReport_report, hcancelled]
    have hawaited : v.sorted.settleChecks.1.awaitedSet = s.awaitedSet :=
      (State.awaitedSet_congr (by simp [Served.sorted]) (settleChecks_steady v.sorted).2.2).trans
        (State.awaitedSet_congr hpeers hpos)
    obtain ⟨ages, hend⟩ := State.complete_report_of_start (s := s) (d := d) (r := { r with check := some .pending })
      (n := s.report.nextId) (by rw [hsettled]; simp) (by rw [htaken]; rfl)
      (by rw [hsettled, State.markCheck_at hr', if_pos rfl]) (by rw [htaken]; rfl) hroom'
    rw [hawaited, htaken] at hend
    refine ⟨?_, ?_⟩
    · rw [State.complete_hasMark, hsettled]
      exact State.markCheck_hasMark hr' hk .pending
    · rw [hend]
      exact ⟨rfl, rfl, rfl, rfl, rfl⟩

end Sys2Proof.Machine
end

section
/-! PROOFS. A completion does not read the item in service (R50, R55): what follows the records is the same whichever item
stands in service, as an UPDATE that is handled as an ADD shows (R64). -/

namespace Sys2Proof.Machine

open Sys2Proof

/-- The state with the Table Manager at other work. -/
def State.withWork (w : Work) (s : State) : State := s.setTable { s.table with work := w }

section
variable (w : Work) (s : State)

/-! ### What reads no work -/

@[simp] theorem withWork_link : (s.withWork w).link = s.link := rfl
@[simp] theorem withWork_startup : (s.withWork w).startup = s.startup := rfl
@[simp] theorem withWork_clear : (s.withWork w).clear = s.clear := rfl
@[simp] theorem withWork_report : (s.withWork w).report = s.report := rfl
@[simp] theorem withWork_records : (s.withWork w).table.records = s.table.records := rfl
@[simp] theorem withWork_fifo : (s.withWork w).table.fifo = s.table.fifo := rfl
@[simp] theorem withWork_tag : (s.withWork w).table.tag = s.table.tag := rfl
@[simp] theorem withWork_running : (s.withWork w).running = s.running := rfl
@[simp] theorem withWork_setLink (l : Link) : (s.withWork w).setLink l = (s.setLink l).withWork w := rfl
@[simp] theorem withWork_setStartup (u : Startup) : (s.withWork w).setStartup u = (s.setStartup u).withWork w := rfl
@[simp] theorem withWork_setClear (c : Clearance) : (s.withWork w).setClear c = (s.setClear c).withWork w := rfl
@[simp] theorem withWork_setReport (r : ReportHandler) : (s.withWork w).setReport r = (s.setReport r).withWork w := rfl
@[simp] theorem withWork_setRecords (rs : List Record) : (s.withWork w).setRecords rs = (s.setRecords rs).withWork w :=
  rfl
@[simp] theorem withWork_putRecord (r : Record) : (s.withWork w).putRecord r = (s.putRecord r).withWork w := rfl
@[simp] theorem withWork_count (i : CountId) : (s.withWork w).count i = (s.count i).withWork w := rfl

/-! ### Frames and recomputes -/

@[simp] theorem withWork_bootEnded (e : TxEntry) : (s.withWork w).bootEnded e = (s.bootEnded e).withWork w := by
  unfold State.bootEnded
  rw [apply_ite (State.withWork w)]
  rfl

@[simp] theorem withWork_loseFrame (e : TxEntry) : (s.withWork w).loseFrame e = (s.loseFrame e).withWork w := by
  simp [State.loseFrame]

@[simp] theorem withWork_placeAtFull (e : TxEntry) : (s.withWork w).placeAtFull e = (s.placeAtFull e).withWork w := by
  unfold State.placeAtFull
  rw [withWork_link]
  cases youngestRoutine s.link.queue <;> simp [apply_ite (State.withWork w)]

@[simp] theorem withWork_enqueue (p : Payload) (u : Bool) :
    (s.withWork w).enqueue p u = (s.enqueue p u).withWork w := by
  unfold State.enqueue
  dsimp only
  rw [withWork_link, withWork_setLink, withWork_setLink, withWork_link, withWork_setLink, withWork_placeAtFull]
  rw [← apply_ite (State.withWork w), ← apply_ite (State.withWork w)]

@[simp] theorem withWork_sendReport (a : Action) (r : Record) (c : Bool) :
    (s.withWork w).sendReport a r c = (s.sendReport a r c).withWork w := by
  simp [State.sendReport]

@[simp] theorem withWork_sendAnswer (d : Pos) (i : BitVec 4) (a : Answer) (c : Nat) :
    (s.withWork w).sendAnswer d i a c = (s.sendAnswer d i a c).withWork w := by
  simp [State.sendAnswer]

@[simp] theorem withWork_judgeVerdict : (s.withWork w).judgeVerdict = s.judgeVerdict.withWork w := by
  have hsend : (s.withWork w).verdictToSend = s.verdictToSend := rfl
  have hnow : (s.withWork w).verdictNow = s.verdictNow := rfl
  unfold State.judgeVerdict
  rw [hsend, hnow]
  cases s.verdictToSend <;> simp

@[simp] theorem withWork_recompute : (s.withWork w).recompute = s.recompute.withWork w := by
  have hclear : (s.withWork w).reclear = s.reclear.withWork w := rfl
  simp [State.recompute, hclear, apply_ite (State.withWork w)]

@[simp] theorem withWork_notify (b : State) (c : Bool) :
    (s.withWork w).notify (b.withWork w) c = (s.notify b c).withWork w := by
  have hs : (s.withWork w).handed = s.handed := rfl
  have hb : (b.withWork w).handed = b.handed := rfl
  simp [State.notify, hs, hb, apply_ite (State.withWork w)]

theorem withWork_handing {f : State → State} (h : f (s.withWork w) = (f s).withWork w) :
    (s.withWork w).handing f = (s.handing f).withWork w := by
  rw [State.handing, h, withWork_notify]
  rfl

/-! ### The check -/

@[simp] theorem withWork_hasMark (i : Slot) (m : CheckMark) : (s.withWork w).hasMark i m = s.hasMark i m := rfl

@[simp] theorem withWork_awaitedSet : (s.withWork w).awaitedSet = s.awaitedSet := rfl

@[simp] theorem withWork_markCheck (i : Slot) (m : CheckMark) :
    (s.withWork w).markCheck i m = (s.markCheck i m).withWork w := by
  unfold State.markCheck
  rw [withWork_records]
  cases recordAt s.table.records i <;> simp

@[simp] theorem withWork_promote :
    (s.withWork w).promote = (s.promote.1.withWork w, s.promote.2) := by
  unfold State.promote
  rw [withWork_report]
  cases s.report.deferred with
  | none => rfl
  | some d => by_cases h : s.hasMark d .deferred = true <;> simp [h]

@[simp] theorem withWork_endCheck : (s.withWork w).endCheck = s.endCheck.withWork w := withWork_handing w s rfl

@[simp] theorem withWork_cancelCheck : (s.withWork w).cancelCheck = s.cancelCheck.withWork w :=
  withWork_endCheck w (s.setTable { s.table with fifo := s.table.fifo.filter fun i => !i.isOutcome })

@[simp] theorem withWork_dropDeferral : (s.withWork w).dropDeferral = s.dropDeferral.withWork w := by
  unfold State.dropDeferral
  rw [apply_ite (State.withWork w)]
  rfl

@[simp] theorem withWork_checkGone : (s.withWork w).checkGone = s.checkGone := rfl

@[simp] theorem withWork_settleChecks :
    (s.withWork w).settleChecks = (s.settleChecks.1.withWork w, s.settleChecks.2) := by
  unfold State.settleChecks
  dsimp only
  rw [withWork_dropDeferral, withWork_checkGone]
  by_cases h : s.dropDeferral.checkGone = true <;> simp [h]

@[simp] theorem withWork_pushItem (i : Item) : (s.withWork w).pushItem i = (s.pushItem i).withWork w := by
  have hover : (s.withWork w).pushOverNonCliff i = (s.pushOverNonCliff i).withWork w := by
    have hroom : (s.withWork w).setTable { (s.withWork w).table with fifo := dropNonCliff s.table.fifo ++ [i] } =
        (s.setTable { s.table with fifo := dropNonCliff s.table.fifo ++ [i] }).withWork w := rfl
    unfold State.pushOverNonCliff
    rw [withWork_fifo, hroom]
    simp [apply_ite (State.withWork w)]
  have hroom : (s.withWork w).setTable { (s.withWork w).table with fifo := s.table.fifo ++ [i] } =
      (s.setTable { s.table with fifo := s.table.fifo ++ [i] }).withWork w := rfl
  unfold State.pushItem
  rw [withWork_fifo, hroom, hover]
  cases i <;> simp [apply_ite (State.withWork w)]

@[simp] theorem withWork_resolveCheck : (s.withWork w).resolveCheck = s.resolveCheck.withWork w := by
  unfold State.resolveCheck
  rw [withWork_report]
  cases s.report.outstanding with
  | none => rfl
  | some d =>
    dsimp only
    rw [withWork_handing w s (f := State.markResolved) rfl, withWork_handing w _ (withWork_pushItem w _ _)]

@[simp] theorem withWork_awaitAnswers : (s.withWork w).awaitAnswers = s.awaitAnswers.withWork w :=
  withWork_handing w s rfl

@[simp] theorem withWork_startCheck : (s.withWork w).startCheck = s.startCheck.withWork w := by
  unfold State.startCheck
  rw [withWork_report, withWork_records]
  cases s.report.outstanding.bind (recordAt s.table.records) with
  | none => rfl
  | some r =>
    cases s.report.checkId with
    | none => rfl
    | some n => by_cases h : s.awaitedSet = [] <;> simp [h]

/-! ### The report frames and the completion -/

@[simp] theorem withWork_eventAt (before : State) (rs : List Record) (a : Option Slot) (i : Slot) :
    State.eventAt before rs a (s.withWork w) i = (State.eventAt before rs a s i).withWork w := by
  have hwithdrawn : (s.withWork w).withdrawAt rs i = (s.withdrawAt rs i).withWork w := by
    unfold State.withdrawAt
    cases recordAt rs i <;> simp
  rw [State.eventAt_eq, State.eventAt_eq, hwithdrawn]
  unfold State.announceAt
  rw [withWork_records]
  cases recordAt (s.withdrawAt rs i).table.records i with
  | none => rfl
  | some r =>
    dsimp only
    cases eventOf before.table.records a r with
    | none => rfl
    | some b => by_cases h : b = .add <;> simp [h]

theorem withWork_foldl_eventAt (before : State) (rs : List Record) (a : Option Slot) (slots : List Slot) (s : State) :
    slots.foldl (State.eventAt before rs a) (s.withWork w) =
      (slots.foldl (State.eventAt before rs a) s).withWork w := by
  induction slots generalizing s with
  | nil => rfl
  | cons i slots ih => rw [List.foldl_cons, withWork_eventAt, ih, List.foldl_cons]

@[simp] theorem withWork_refresh (before : State) (m : Option Slot) :
    State.refresh before m (s.withWork w) = (State.refresh before m s).withWork w := by
  unfold State.refresh
  rw [withWork_records]
  cases m.bind fun m => recordAt s.table.records m with
  | none => rfl
  | some r =>
    dsimp only
    rw [apply_ite (State.withWork w), ← withWork_sendReport]
    rfl

theorem withWork_reportsOf (v : Served) (u : State) :
    s.reportsOf v (u.withWork w) = (s.reportsOf v u).withWork w := by
  unfold State.reportsOf State.emitEvents
  rw [withWork_foldl_eventAt, withWork_refresh]

theorem withWork_notifyTable (before : State) :
    (s.withWork w).notifyTable before = (s.notifyTable before).withWork w := by
  have hfull : (s.withWork w).table.full = s.table.full := rfl
  unfold State.notifyTable
  rw [withWork_records, hfull, withWork_recompute, apply_ite (State.withWork w)]

theorem withWork_takeWork : (s.withWork w).takeWork = s.takeWork := by
  unfold State.takeWork
  dsimp only
  rw [withWork_fifo]
  cases s.table.fifo <;> rfl

/-- A completion is the same whichever item stood in service. -/
theorem State.complete_withWork (before : State) (v : Served) :
    before.complete { v with state := v.state.withWork w } = before.complete v := by
  have hsorted : (Served.sorted { v with state := v.state.withWork w }) = v.sorted.withWork w := rfl
  have hreports (u : State) : before.reportsOf { v with state := v.state.withWork w } (u.withWork w) =
      (before.reportsOf v u).withWork w := withWork_reportsOf w before v u
  rw [State.complete_eq_beforeNotice, State.complete_eq_beforeNotice]
  unfold State.beforeNotice
  rw [hsorted, withWork_settleChecks]
  dsimp only
  rw [hreports, withWork_startCheck, ← apply_ite (State.withWork w), withWork_notifyTable, withWork_takeWork]

/-! ### The service of an ADD -/

@[simp] theorem withWork_placeRecord (r : Record) :
    ((s.withWork w).placeRecord r).1 = (s.placeRecord r).1.withWork w := by
  have hfree : (s.withWork w).freeSlot = s.freeSlot := rfl
  unfold State.placeRecord
  rw [hfree, withWork_records]
  cases s.freeSlot with
  | some i => rfl
  | none =>
    dsimp only
    cases (victim s.table.records).filter fun v => r.range < v.range with
    | some v => rfl
    | none =>
      dsimp only
      rw [withWork_handing w s (f := fun t => t.setTable { t.table with full := true }) rfl, withWork_count]

theorem withWork_addPeer (r : PeerReport) (rc : Recon) :
    (s.withWork w).addPeer r rc = (s.addPeer r rc).withWork w := by
  unfold State.addPeer
  dsimp only
  rw [withWork_records, withWork_setRecords, withWork_records, withWork_count]
  cases mergeTarget (s.setRecords (removeKey s.table.records r.key)).table.records r.kind (rc.point r.x r.y).1
      (rc.point r.x r.y).2 <;> simp [apply_ite (State.withWork w)]

theorem withWork_serveAdd (r : PeerReport) :
    (s.withWork w).serveAdd r = { s.serveAdd r with state := (s.serveAdd r).state.withWork w } := by
  have hrecon : (s.withWork w).reconcile r.tag = s.reconcile r.tag := rfl
  unfold State.serveAdd
  dsimp only
  rw [hrecon, withWork_count, withWork_addPeer, apply_ite (State.withWork w)]

end

end Sys2Proof.Machine
end

section
/-! PROOFS. The frames of a completion in the transmit queue (R66, R93, R96, R100): which slots send one, that each waits
in the queue while it has room, and that nothing takes it out again before the completion is over. -/

namespace Sys2Proof.Machine

open Sys2Proof

/-! ### The load of the queue -/

/-- The entries other than verdicts, and the place of the verdict, taken or kept free for one (R170, R171). -/
def queueLoad (q : List TxEntry) : Nat :=
  (q.filter fun e => !e.payload.isVerdict).length + max 1 (q.filter fun e => e.payload.isVerdict).length

theorem length_le_queueLoad (q : List TxEntry) : q.length ≤ queueLoad q := by
  have hsplit := List.length_eq_length_filter_add (l := q) fun e => e.payload.isVerdict
  unfold queueLoad
  omega

theorem queueLoad_le (q : List TxEntry) : queueLoad q ≤ q.length + 1 := by
  have hsplit := List.length_eq_length_filter_add (l := q) fun e => e.payload.isVerdict
  unfold queueLoad
  omega

theorem queueLoad_perm {q r : List TxEntry} (h : q.Perm r) : queueLoad q = queueLoad r := by
  rw [queueLoad, queueLoad, (h.filter _).length_eq, (h.filter _).length_eq]

theorem queueLoad_cons_of_not_verdict {e : TxEntry} (he : e.payload.isVerdict = false) (q : List TxEntry) :
    queueLoad (e :: q) = queueLoad q + 1 := by
  simp only [queueLoad, List.filter_cons, he]
  simp
  omega

/-- A verdict that finds none takes the place kept for it. -/
theorem queueLoad_cons_verdict {e : TxEntry} (he : e.payload.isVerdict = true) {q : List TxEntry}
    (hq : ∀ x ∈ q, x.payload.isVerdict = false) : queueLoad (e :: q) = queueLoad q := by
  have hnone : (q.filter fun x => x.payload.isVerdict) = [] :=
    List.filter_eq_nil_iff.2 fun x hx => by simp [hq x hx]
  simp only [queueLoad, List.filter_cons, he, hnone]
  simp

theorem queueLoad_replaceContent (q : List TxEntry) (p : Payload) : queueLoad (replaceContent q p) = queueLoad q := by
  have hsame (x : Payload) (h : x.coalesces p = true) : x.isVerdict = p.isVerdict := Payload.isVerdict_eq_of_coalesces h
  rw [queueLoad, queueLoad, length_filter_replaceContent (k := Payload.isVerdict) hsame,
    length_filter_replaceContent (k := fun x => !x.isVerdict) fun x h => by rw [hsame x h]]

theorem mem_replaceContent_of_mem {q : List TxEntry} {p : Payload} {e : TxEntry} (he : e ∈ q)
    (hlike : e.payload.coalesces p = false) : e ∈ replaceContent q p :=
  List.mem_map.2 ⟨e, he, if_neg (by simp [hlike])⟩

/-- A verdict in the place of another leaves the other entries. -/
theorem replaceQueued_verdict {q : List TxEntry} {p : Payload} (hp : p.isVerdict = true) (u : Bool) :
    queueLoad (replaceQueued q p u) ≤ queueLoad q ∧
    ∀ e ∈ q, e.payload.isVerdict = false → e ∈ replaceQueued q p u := by
  have hodometry : p.isOdometry = false := by cases p <;> simp_all [Payload.isVerdict, Payload.isOdometry]
  have hlike (x : TxEntry) : x.payload.coalesces p = x.payload.isVerdict := by
    simp [Payload.coalesces, hp, hodometry]
  have hcontent {e : TxEntry} (he : e ∈ q) (hv : e.payload.isVerdict = false) : e ∈ replaceContent q p :=
    mem_replaceContent_of_mem he ((hlike e).trans hv)
  have hkept : queueLoad (replaceContent q p) ≤ queueLoad q ∧
      ∀ e ∈ q, e.payload.isVerdict = false → e ∈ replaceContent q p :=
    ⟨(queueLoad_replaceContent q p).le, fun e he hv => hcontent he hv⟩
  unfold replaceQueued
  split
  · obtain hsame | ⟨x, hx, hxp, hraised⟩ := raiseQueued_cases (replaceContent q p) p
    · rw [hsame]
      exact hkept
    · have hxv : x.payload.isVerdict = true := (hlike x).symm.trans hxp
      have hrest : ∀ y ∈ (replaceContent q p).filter fun y => !y.payload.coalesces p, y.payload.isVerdict = false := by
        intro y hy
        simpa [hlike] using (List.mem_filter.1 hy).2
      rw [hraised]
      refine ⟨?_, fun e he hv => (mem_placeNew ..).2 (.inr (List.mem_filter.2 ⟨hcontent he hv, ?_⟩))⟩
      · rw [queueLoad_perm (placeNew_perm _ _), queueLoad_cons_verdict (e := { x with urgent := true }) hxv hrest,
          ← queueLoad_replaceContent q p]
        have hfewer := ((List.filter_sublist (l := replaceContent q p)
          (p := fun y => !y.payload.coalesces p)).filter fun e => !e.payload.isVerdict).length_le
        have hnone : (((replaceContent q p).filter fun y => !y.payload.coalesces p).filter
            fun y => y.payload.isVerdict) = [] := List.filter_eq_nil_iff.2 fun y hy => by simp [hrest y hy]
        simp only [queueLoad, hnone, List.length_nil]
        omega
      · simp [hlike, hv]
  · exact hkept

/-! ### What leaves the waiting frames in place -/

/-- With room for `n` frames more, at most `n` come, and all that wait but verdicts stay. -/
def Keeps (n : Nat) (s t : State) : Prop :=
  queueLoad s.link.queue + n ≤ txQueueSize →
    queueLoad t.link.queue ≤ queueLoad s.link.queue + n ∧
    ∀ e ∈ s.link.queue, e.payload.isVerdict = false → e ∈ t.link.queue

theorem Keeps.of_queue_eq {s t : State} (h : t.link.queue = s.link.queue) : Keeps 0 s t := by
  intro _
  rw [h]
  exact ⟨le_rfl, fun _ he _ => he⟩

theorem Keeps.trans {s t u : State} {m n : Nat} (h : Keeps m s t) (h' : Keeps n t u) : Keeps (m + n) s u := by
  intro hroom
  obtain ⟨hload, hmem⟩ := h (by omega)
  obtain ⟨hload', hmem'⟩ := h' (by omega)
  exact ⟨by omega, fun e he hv => hmem' e (hmem e he hv) hv⟩

theorem Keeps.mono {s t : State} {m n : Nat} (h : Keeps m s t) (hmn : m ≤ n) : Keeps n s t := by
  intro hroom
  obtain ⟨hload, hmem⟩ := h (by omega)
  exact ⟨by omega, hmem⟩

theorem Keeps.queued {s t : State} {n : Nat} (h : Keeps n s t) (hroom : queueLoad s.link.queue + n ≤ txQueueSize)
    {p : Payload} {u : Bool} (hp : p.isVerdict = false) (hq : Queued p u s) : Queued p u t := by
  obtain ⟨e, he, hpayload, hrest⟩ := hq
  exact ⟨e, (h hroom).2 e he (hpayload ▸ hp), hpayload, hrest⟩

theorem enqueue_verdict_keeps (s : State) {p : Payload} (hp : p.isVerdict = true) (u : Bool) :
    Keeps 0 s (s.enqueue p u) := by
  intro hroom
  have hodometry : p.isOdometry = false := by cases p <;> simp_all [Payload.isVerdict, Payload.isOdometry]
  by_cases hlike : (queuedLike s.link.queue p).isSome = true
  · have henqueue : s.enqueue p u = s.setLink { s.link with queue := replaceQueued s.link.queue p u } := by
      rw [State.enqueue, if_pos hlike]
    rw [henqueue]
    exact replaceQueued_verdict hp u
  · have hnone : ∀ x ∈ s.link.queue, x.payload.isVerdict = false := by
      intro x hx
      simpa [Payload.coalesces, hp, hodometry] using queuedLike_isNone hlike x hx
    rw [State.enqueue_of_room s p u (Option.not_isSome_iff_eq_none.1 hlike) ?_]
    · refine ⟨?_, fun e he _ => (mem_placeNew ..).2 (.inr he)⟩
      rw [State.setLink_link, queueLoad_perm (placeNew_perm _ _)]
      exact (queueLoad_cons_verdict hp hnone).le
    · have hload : queueLoad s.link.queue = s.link.queue.length + 1 := by
        have hverdicts : (s.link.queue.filter fun x => x.payload.isVerdict) = [] :=
          List.filter_eq_nil_iff.2 fun x hx => by simp [hnone x hx]
        have hsplit := List.length_eq_length_filter_add (l := s.link.queue) fun e => e.payload.isVerdict
        rw [hverdicts] at hsplit
        rw [queueLoad, hverdicts, hsplit]
        simp
      omega

section
variable (s : State) {p : Payload} (hv : p.isVerdict = false) (ho : p.isOdometry = false) (u : Bool)
include hv ho

/-- A frame that replaces none takes one place. -/
theorem enqueue_new_keeps : Keeps 1 s (s.enqueue p u) := by
  intro hroom
  have hlength := length_le_queueLoad s.link.queue
  rw [s.enqueue_of_room p u (queuedLike_eq_none _ _ hv ho) (by omega)]
  refine ⟨?_, fun e he _ => (mem_placeNew ..).2 (.inr he)⟩
  rw [State.setLink_link, queueLoad_perm (placeNew_perm _ _)]
  exact (queueLoad_cons_of_not_verdict hv _).le

theorem enqueue_new_queued (hroom : queueLoad s.link.queue + 1 ≤ txQueueSize) : Queued p u (s.enqueue p u) := by
  have hlength := length_le_queueLoad s.link.queue
  rw [s.enqueue_of_room p u (queuedLike_eq_none _ _ hv ho) (by omega)]
  exact ⟨newEntry p u _, mem_placeNew_self _ _, rfl, rfl, rfl, rfl, rfl⟩

end

theorem judgeVerdict_keeps (s : State) : Keeps 0 s s.judgeVerdict := by
  unfold State.judgeVerdict
  split
  · exact .of_queue_eq rfl
  · exact Keeps.trans (t := s.setClear { s.clear with last := some s.verdictNow, verdictTimer := some verdictTime })
      (.of_queue_eq rfl) (enqueue_verdict_keeps _ rfl _)

theorem recompute_keeps (s : State) : Keeps 0 s s.recompute := by
  unfold State.recompute
  split
  · exact Keeps.trans (t := s.reclear) (.of_queue_eq rfl) (judgeVerdict_keeps _)
  · exact .of_queue_eq rfl

theorem handing_keeps {s : State} {g : State → State} {n : Nat} (h : Keeps n s (g s)) : Keeps n s (s.handing g) := by
  have hnotify : Keeps 0 (g s) (s.handing g) := by
    unfold State.handing State.notify
    split
    · exact recompute_keeps _
    · exact .of_queue_eq rfl
  exact h.trans hnotify

theorem notifyTable_keeps (s before : State) : Keeps 0 s (s.notifyTable before) := by
  unfold State.notifyTable
  split
  · exact recompute_keeps s
  · exact .of_queue_eq rfl

theorem setReport_keeps (s : State) (r : ReportHandler) : Keeps 0 s (s.setReport r) := .of_queue_eq rfl

theorem endCheck_keeps (s : State) : Keeps 0 s s.endCheck := handing_keeps (setReport_keeps s _)

theorem cancelCheck_keeps (s : State) : Keeps 0 s s.cancelCheck :=
  Keeps.trans (t := s.setTable { s.table with fifo := s.table.fifo.filter fun i => !i.isOutcome }) (.of_queue_eq rfl)
    (endCheck_keeps _)

theorem awaitAnswers_keeps (s : State) : Keeps 0 s s.awaitAnswers := handing_keeps (setReport_keeps s _)

theorem promote_keeps (s : State) : Keeps 0 s s.promote.1 := .of_queue_eq (by simp)

theorem settleChecks_keeps (s : State) : Keeps 0 s s.settleChecks.1 := by
  have hdrop : Keeps 0 s s.dropDeferral := .of_queue_eq (by simp)
  unfold State.settleChecks
  dsimp only
  split
  · exact (hdrop.trans (cancelCheck_keeps _)).trans (promote_keeps _)
  · exact hdrop

theorem Served.sorted_settled_keeps (v : Served) : Keeps 0 v.state v.sorted.settleChecks.1 :=
  Keeps.trans (t := v.sorted) (.of_queue_eq rfl) (settleChecks_keeps _)

theorem pushOutcome_keeps (s : State) (o : Outcome) (slot : Slot) : Keeps 0 s (s.pushItem (.outcome o slot)) := by
  refine .of_queue_eq ?_
  unfold State.pushItem
  split
  · rfl
  · dsimp only
    unfold State.pushOverNonCliff
    split <;> rfl

theorem resolveCheck_keeps (s : State) : Keeps 0 s s.resolveCheck := by
  unfold State.resolveCheck
  split
  next slot _ =>
    have hresolved : Keeps 0 s (s.handing State.markResolved) := handing_keeps (setReport_keeps s _)
    exact hresolved.trans
      (handing_keeps (g := fun t => t.pushItem (.outcome (outcomeOf s.report.answers) slot)) (pushOutcome_keeps _ _ _))
  · exact .of_queue_eq rfl

/-- A check that starts sends one request (R100). -/
theorem startCheck_keeps (s : State) : Keeps 1 s s.startCheck := by
  unfold State.startCheck
  split
  · dsimp only
    split
    · exact (setReport_keeps s _).trans ((resolveCheck_keeps _).mono (Nat.zero_le 1))
    · exact ((setReport_keeps s _).trans (enqueue_new_keeps _ rfl rfl _)).trans (awaitAnswers_keeps _)
  · exact (Keeps.of_queue_eq rfl).mono (Nat.zero_le 1)

theorem takeWork_keeps (s : State) : Keeps 0 s s.takeWork := .of_queue_eq (by simp)

/-! ### The frame of a record -/

/-- The report frame of a record (R93). -/
def reportFrame (a : Action) (r : Record) (tag : Option Seq) : Payload :=
  .hazard { action := a, kind := r.kind, id := r.slot, x := BitVec.ofInt 16 r.x, y := BitVec.ofInt 16 r.y,
            conf := BitVec.ofNat 4 r.conf, tag := tag }

section
variable (s : State) (a : Action) (r : Record) (c : Bool)

theorem sendReport_keeps : Keeps 1 s (s.sendReport a r c) := by
  unfold State.sendReport
  exact (enqueue_new_keeps s rfl rfl _).trans (.of_queue_eq rfl)

theorem sendReport_queued (hroom : queueLoad s.link.queue + 1 ≤ txQueueSize) :
    Queued (reportFrame a r s.table.tag) (r.kind.isCliff || (a = .update && c)) (s.sendReport a r c) := by
  unfold State.sendReport
  exact enqueue_new_queued s rfl rfl _ hroom

theorem sendReport_ages (j : Slot) :
    (s.sendReport a r c).report.ages[j] = if j = r.slot then 0 else s.report.ages[j] := by
  unfold State.sendReport
  simp only [State.setReport_report]
  by_cases hj : j = r.slot
  · simp [hj]
  · rw [if_neg hj]
    exact Vector.getElem_set_ne _ _ fun h => hj (Fin.ext h.symm)

end

/-! ### The frames of one slot -/

/-- The event that the record of a slot earns (R66). -/
def State.eventHere (u before : State) (a : Option Slot) (i : Slot) : Option Action :=
  (u.at i).bind (eventOf before.table.records a)

/-- The number of frames that a slot sends: its withdrawn record's and its event's. -/
def State.framesHere (u before : State) (w : List Record) (a : Option Slot) (i : Slot) : Nat :=
  (recordAt w i).isSome.toNat + (u.eventHere before a i).isSome.toNat

section
variable (before : State) (w : List Record) (a : Option Slot) (u : State) (i : Slot)

theorem withdrawAt_at (j : Slot) : (u.withdrawAt w i).at j = u.at j := by
  unfold State.withdrawAt
  split
  · rw [State.at, State.sendReport_table]
    rfl
  · rfl

theorem withdrawAt_keeps : Keeps (recordAt w i).isSome.toNat u (u.withdrawAt w i) := by
  unfold State.withdrawAt
  split
  next r hr => rw [hr]; exact sendReport_keeps _ _ _ _
  next hnone => rw [hnone]; exact .of_queue_eq rfl

theorem announceAt_of_none (h : u.eventHere before a i = none) : u.announceAt before a i = u := by
  unfold State.announceAt
  cases hr : recordAt u.table.records i with
  | none => rfl
  | some r =>
    have hevent : eventOf before.table.records a r = none := by
      rw [State.eventHere, show u.at i = some r from hr] at h
      exact h
    dsimp only
    rw [hevent]

/-- The state that sends the frame of an event: an add has set the record's reported mark (R66). -/
def State.announcing (u : State) (b : Action) (r : Record) : State :=
  if b = .add then u.putRecord { r with reported := true } else u

theorem announceAt_of_some {r : Record} {b : Action} (hr : u.at i = some r)
    (hb : eventOf before.table.records a r = some b) : u.announceAt before a i =
      (u.announcing b r).sendReport b r ((before.at i).any fun o => o.kind.isCliff) := by
  unfold State.announceAt
  rw [show recordAt u.table.records i = some r from hr]
  dsimp only
  rw [hb]
  rfl

theorem announcing_link (b : Action) (r : Record) : (u.announcing b r).link = u.link := by
  unfold State.announcing
  split <;> rfl

theorem announcing_tag (b : Action) (r : Record) : (u.announcing b r).table.tag = u.table.tag := by
  unfold State.announcing
  split <;> rfl

theorem announcing_report (b : Action) (r : Record) : (u.announcing b r).report = u.report := by
  unfold State.announcing
  split <;> rfl

/-- The record of a slot after its event: an add has set its reported mark. -/
def Record.announced (b : Action) (r : Record) : Record := if b = .add then { r with reported := true } else r

theorem announcing_at {b : Action} {r : Record} (hr : u.at i = some r) (j : Slot) :
    (u.announcing b r).at j = if j = i then some (r.announced b) else u.at j := by
  obtain ⟨-, hslot⟩ := mem_of_recordAt hr
  have hrest (hj : j ≠ i) : recordAt (updateRecord u.table.records { r with reported := true }) j = u.at j := by
    rw [recordAt_updateRecord]
    exact if_neg (hslot ▸ hj)
  unfold State.announcing Record.announced
  by_cases hb : b = .add
  · rw [if_pos hb, if_pos hb]
    split
    next hj =>
      refine (recordAt_updateRecord _ _ _).trans ?_
      rw [hj, if_pos hslot.symm, show recordAt u.table.records i = some r from hr]
      rfl
    next hj => exact hrest hj
  · rw [if_neg hb, if_neg hb]
    split
    next hj => rw [hj, hr]
    · rfl

/-- A record after its slot's event, if it earns one. -/
def Record.afterEvent (before : State) (a : Option Slot) (r : Record) : Record :=
  match eventOf before.table.records a r with
  | some b => r.announced b
  | none => r

theorem Record.afterEvent_of_some {r : Record} {b : Action} (h : eventOf before.table.records a r = some b) :
    r.afterEvent before a = r.announced b := by rw [Record.afterEvent, h]

theorem Record.afterEvent_of_none {r : Record} (h : eventOf before.table.records a r = none) :
    r.afterEvent before a = r := by rw [Record.afterEvent, h]

/-- Only the slot's own record changes, by the reported mark of an add. -/
theorem eventAt_at (j : Slot) : (State.eventAt before w a u i).at j =
    if j = i then (u.at i).map (Record.afterEvent before a) else u.at j := by
  rw [State.eventAt_eq]
  have hhere : (u.withdrawAt w i).at i = u.at i := withdrawAt_at w u i i
  cases hr : u.at i with
  | none =>
    rw [announceAt_of_none before a _ i (by rw [State.eventHere, hhere, hr]; rfl), withdrawAt_at]
    split
    next hj => rw [hj, hr]; rfl
    · rfl
  | some r =>
    cases hb : eventOf before.table.records a r with
    | none =>
      rw [announceAt_of_none before a _ i (by rw [State.eventHere, hhere, hr]; exact hb), withdrawAt_at]
      split
      next hj => rw [hj, hr, Option.map_some, Record.afterEvent_of_none before a hb]
      · rfl
    | some b =>
      rw [announceAt_of_some before a _ i (hhere.trans hr) hb, State.at, State.sendReport_table]
      refine (announcing_at (u.withdrawAt w i) i (hhere.trans hr) j).trans ?_
      split
      · rw [Option.map_some, Record.afterEvent_of_some before a hb]
      · exact withdrawAt_at w u i j

theorem eventHere_withdrawAt : (u.withdrawAt w i).eventHere before a i = u.eventHere before a i := by
  rw [State.eventHere, State.eventHere, withdrawAt_at]

theorem announceAt_keeps : Keeps (u.eventHere before a i).isSome.toNat u (u.announceAt before a i) := by
  cases h : u.eventHere before a i with
  | none =>
    rw [announceAt_of_none before a u i h]
    exact .of_queue_eq rfl
  | some b =>
    obtain ⟨r, hr, hb⟩ := Option.bind_eq_some_iff.1 h
    rw [announceAt_of_some before a u i hr hb]
    exact Keeps.trans (m := 0) (t := u.announcing b r) (.of_queue_eq (by rw [announcing_link]))
      (sendReport_keeps _ _ _ _)

theorem eventAt_keeps : Keeps (u.framesHere before w a i) u (State.eventAt before w a u i) := by
  have hannounced := announceAt_keeps before a (u.withdrawAt w i) i
  rw [eventHere_withdrawAt] at hannounced
  rw [State.eventAt_eq]
  exact (withdrawAt_keeps w u i).trans hannounced

theorem eventAt_tag : (State.eventAt before w a u i).table.tag = u.table.tag :=
  (eventAt_recordsOnly u before w a i).tag

/-- A slot that sends nothing is passed over. -/
theorem eventAt_of_quiet (hw : recordAt w i = none) (hevent : u.eventHere before a i = none) :
    State.eventAt before w a u i = u := by
  have hwithdrawn : u.withdrawAt w i = u := by rw [State.withdrawAt, hw]
  rw [State.eventAt_eq, hwithdrawn, announceAt_of_none before a u i hevent]

/-- The event's frame waits in the queue (R66, R93). -/
theorem eventAt_queued {r : Record} {b : Action} (hr : u.at i = some r) (hb : eventOf before.table.records a r = some b)
    (hroom : queueLoad u.link.queue + u.framesHere before w a i ≤ txQueueSize) :
    Queued (reportFrame b r u.table.tag)
      (r.kind.isCliff || (b = .update && (before.at i).any fun o => o.kind.isCliff)) (State.eventAt before w a u i) := by
  have hevent : u.eventHere before a i = some b := by rw [State.eventHere, hr]; exact hb
  have hframes : u.framesHere before w a i = (recordAt w i).isSome.toNat + 1 := by
    rw [State.framesHere, hevent]
    rfl
  rw [hframes] at hroom
  have htag : ((u.withdrawAt w i).announcing b r).table.tag = u.table.tag := by
    rw [announcing_tag]
    unfold State.withdrawAt
    split <;> simp
  rw [State.eventAt_eq, announceAt_of_some before a _ i ((withdrawAt_at w u i i).trans hr) hb, ← htag]
  refine sendReport_queued _ _ _ _ ?_
  rw [announcing_link]
  have hload := (withdrawAt_keeps w u i (by omega)).1
  omega

/-- The withdrawn record's frame waits in the queue (R66, R93). -/
theorem eventAt_withdrawn_queued {r : Record} (hr : recordAt w i = some r)
    (hroom : queueLoad u.link.queue + u.framesHere before w a i ≤ txQueueSize) :
    Queued (reportFrame .withdraw r u.table.tag) r.kind.isCliff (State.eventAt before w a u i) := by
  have hframes : u.framesHere before w a i = 1 + (u.eventHere before a i).isSome.toNat := by
    rw [State.framesHere, hr]
    rfl
  rw [hframes] at hroom
  have hsent : u.withdrawAt w i = u.sendReport .withdraw r true := by rw [State.withdrawAt, hr]
  have hannounced := announceAt_keeps before a (u.withdrawAt w i) i
  rw [eventHere_withdrawAt] at hannounced
  rw [State.eventAt_eq]
  refine hannounced.queued ?_ rfl ?_
  · have hload := (sendReport_keeps u .withdraw r true (by omega)).1
    rw [hsent]
    omega
  · rw [hsent]
    have hqueued := sendReport_queued u .withdraw r true (by omega)
    simpa using hqueued

/-- A slot that sends a frame has its report age at 0, and the others keep theirs (R96). -/
theorem eventAt_ages (hi : ∀ r, recordAt w i = some r → r.slot = i) (j : Slot) :
    (State.eventAt before w a u i).report.ages[j] =
      if j = i ∧ 0 < u.framesHere before w a i then 0 else u.report.ages[j] := by
  have hwithdrawn : (u.withdrawAt w i).report.ages[j] =
      if j = i ∧ (recordAt w i).isSome then 0 else u.report.ages[j] := by
    unfold State.withdrawAt
    cases hr : recordAt w i with
    | none => simp
    | some r =>
      obtain rfl := hi r hr
      exact (sendReport_ages u .withdraw r true j).trans (if_congr (by simp) rfl rfl)
  rw [State.eventAt_eq]
  cases hevent : u.eventHere before a i with
  | none =>
    have hloud : 0 < u.framesHere before w a i ↔ (recordAt w i).isSome = true := by
      rw [State.framesHere, hevent]
      cases (recordAt w i).isSome <;> decide
    rw [announceAt_of_none before a _ i (by rw [eventHere_withdrawAt, hevent]), hwithdrawn]
    exact if_congr (by rw [hloud]) rfl rfl
  | some b =>
    obtain ⟨r, hr, hb⟩ := Option.bind_eq_some_iff.1 hevent
    obtain ⟨-, rfl⟩ := mem_of_recordAt hr
    rw [announceAt_of_some before a _ _ ((withdrawAt_at w u _ _).trans hr) hb, sendReport_ages, announcing_report,
      hwithdrawn]
    by_cases hj : j = r.slot
    · simp [hj, State.framesHere, hevent]
    · simp [hj]

end

/-! ### The frames of all slots -/

section
variable (before : State) (w : List Record) (a : Option Slot)

theorem framesHere_congr {u u' : State} {i : Slot} (h : u'.at i = u.at i) :
    u'.framesHere before w a i = u.framesHere before w a i := by
  rw [State.framesHere, State.framesHere, State.eventHere, State.eventHere, h]

/-- Slots that are passed keep what their own event made, and the rest is as it was. -/
theorem foldl_eventAt_at_of_not_mem {slots : List Slot} (u : State) {j : Slot} (hj : j ∉ slots) :
    (slots.foldl (State.eventAt before w a) u).at j = u.at j := by
  induction slots generalizing u with
  | nil => rfl
  | cons i slots ih =>
    rw [List.mem_cons, not_or] at hj
    rw [List.foldl_cons, ih _ hj.2, eventAt_at, if_neg hj.1]

theorem foldl_eventAt_keeps {slots : List Slot} (hslots : slots.Nodup) (u : State) :
    Keeps (slots.map (u.framesHere before w a)).sum u (slots.foldl (State.eventAt before w a) u) := by
  induction slots generalizing u with
  | nil => exact .of_queue_eq rfl
  | cons i slots ih =>
    obtain ⟨hi, hslots⟩ := List.nodup_cons.1 hslots
    have hrest := ih hslots (State.eventAt before w a u i)
    have hsame : slots.map ((State.eventAt before w a u i).framesHere before w a) =
        slots.map (u.framesHere before w a) := by
      refine List.map_congr_left fun j hj => framesHere_congr before w a ?_
      rw [eventAt_at, if_neg fun h : j = i => hi (h ▸ hj)]
    rw [hsame] at hrest
    rw [List.map_cons, List.sum_cons]
    exact (eventAt_keeps before w a u i).trans hrest

theorem foldl_eventAt_tag (slots : List Slot) (u : State) :
    (slots.foldl (State.eventAt before w a) u).table.tag = u.table.tag := by
  induction slots generalizing u with
  | nil => rfl
  | cons i slots ih => rw [List.foldl_cons, ih, eventAt_tag]

/-- What holds of a slot's own event in any state that shows the slot alike, and stays while frames are added, holds
after all the events. -/
theorem emitEvents_of_eventAt {P : State → Prop} (u : State) (i : Slot)
    (hroom : queueLoad u.link.queue + ∑ j, u.framesHere before w a j ≤ txQueueSize)
    (here : ∀ u', u'.at i = u.at i → u'.table.tag = u.table.tag →
      queueLoad u'.link.queue + u'.framesHere before w a i ≤ txQueueSize → P (State.eventAt before w a u' i))
    (kept : ∀ n u' t, queueLoad u'.link.queue + n ≤ txQueueSize → Keeps n u' t → P u' → P t) :
    P (State.emitEvents before w a u) := by
  have hsum : ∑ j, u.framesHere before w a j = ((List.finRange 24).map (u.framesHere before w a)).sum :=
    Fin.sum_univ_def _
  have hnodup := List.nodup_finRange 24
  unfold State.emitEvents
  rw [hsum] at hroom
  obtain ⟨l, r, hlr⟩ := List.append_of_mem (List.mem_finRange i)
  rw [hlr] at hnodup hroom ⊢
  obtain ⟨hl, hir, hdisjoint⟩ := List.nodup_append.1 hnodup
  obtain ⟨hi, hr⟩ := List.nodup_cons.1 hir
  have hil : i ∉ l := fun h => hdisjoint i h i (List.mem_cons_self ..) rfl
  rw [List.map_append, List.sum_append, List.map_cons, List.sum_cons] at hroom
  rw [List.foldl_append, List.foldl_cons]
  have hbefore := foldl_eventAt_keeps before w a hl u (by omega)
  have hat := foldl_eventAt_at_of_not_mem before w a u hil
  have hframes := framesHere_congr before w a hat
  have hhere := here _ hat (foldl_eventAt_tag before w a l u) (by rw [hframes]; omega)
  have hload := (eventAt_keeps before w a (l.foldl (State.eventAt before w a) u) i (by rw [hframes]; omega)).1
  have hafter := foldl_eventAt_keeps before w a hr (State.eventAt before w a (l.foldl (State.eventAt before w a) u) i)
  have hsame : r.map ((State.eventAt before w a (l.foldl (State.eventAt before w a) u) i).framesHere before w a) =
      r.map (u.framesHere before w a) := by
    refine List.map_congr_left fun j hj => framesHere_congr before w a ?_
    rw [eventAt_at, if_neg fun h : j = i => hi (h ▸ hj)]
    exact foldl_eventAt_at_of_not_mem before w a u fun h => hdisjoint j h j (List.mem_cons_of_mem _ hj) rfl
  rw [hsame] at hafter
  exact kept _ _ _ (by omega) hafter hhere

theorem emitEvents_keeps (u : State) :
    Keeps (∑ j, u.framesHere before w a j) u (State.emitEvents before w a u) := by
  have hsum : ∑ j, u.framesHere before w a j = ((List.finRange 24).map (u.framesHere before w a)).sum :=
    Fin.sum_univ_def _
  rw [hsum]
  exact foldl_eventAt_keeps before w a (List.nodup_finRange 24) u

theorem foldl_eventAt_at_of_mem {slots : List Slot} (hslots : slots.Nodup) (u : State) {j : Slot} (hj : j ∈ slots) :
    (slots.foldl (State.eventAt before w a) u).at j = (State.eventAt before w a u j).at j := by
  induction slots generalizing u with
  | nil => exact absurd hj List.not_mem_nil
  | cons i slots ih =>
    obtain ⟨hi, hslots⟩ := List.nodup_cons.1 hslots
    rw [List.foldl_cons]
    obtain rfl | hmem := List.mem_cons.1 hj
    · exact foldl_eventAt_at_of_not_mem before w a _ hi
    · have hji : j ≠ i := fun h => hi (h ▸ hmem)
      have hat : (State.eventAt before w a u i).at j = u.at j := by rw [eventAt_at, if_neg hji]
      rw [ih hslots _ hmem, eventAt_at before w a _ j, eventAt_at before w a u j, hat]

/-- The record of each slot after the events: an add has set its reported mark (R66). -/
theorem emitEvents_at (u : State) (j : Slot) :
    (State.emitEvents before w a u).at j = (u.at j).map (Record.afterEvent before a) := by
  refine (foldl_eventAt_at_of_mem before w a (List.nodup_finRange 24) u (List.mem_finRange j)).trans ?_
  rw [eventAt_at, if_pos rfl]

theorem foldl_eventAt_ages_of_not_mem (hw : ∀ i r, recordAt w i = some r → r.slot = i) {slots : List Slot} (u : State)
    {j : Slot} (hj : j ∉ slots) : (slots.foldl (State.eventAt before w a) u).report.ages[j] = u.report.ages[j] := by
  induction slots generalizing u with
  | nil => rfl
  | cons i slots ih =>
    rw [List.mem_cons, not_or] at hj
    rw [List.foldl_cons, ih _ hj.2, eventAt_ages before w a u i (hw i), if_neg fun h => hj.1 h.1]

theorem foldl_eventAt_ages_of_mem (hw : ∀ i r, recordAt w i = some r → r.slot = i) {slots : List Slot}
    (hslots : slots.Nodup) (u : State) {j : Slot} (hj : j ∈ slots) :
    (slots.foldl (State.eventAt before w a) u).report.ages[j] = (State.eventAt before w a u j).report.ages[j] := by
  induction slots generalizing u with
  | nil => exact absurd hj List.not_mem_nil
  | cons i slots ih =>
    obtain ⟨hi, hslots⟩ := List.nodup_cons.1 hslots
    rw [List.foldl_cons]
    obtain rfl | hmem := List.mem_cons.1 hj
    · exact foldl_eventAt_ages_of_not_mem before w a hw _ hi
    · have hji : j ≠ i := fun h => hi (h ▸ hmem)
      have hat : (State.eventAt before w a u i).at j = u.at j := by rw [eventAt_at, if_neg hji]
      rw [ih hslots _ hmem, eventAt_ages before w a _ j (hw j), eventAt_ages before w a _ j (hw j),
        eventAt_ages before w a u i (hw i), framesHere_congr before w a hat, if_neg fun h : j = i ∧ _ => hji h.1]

/-- The report ages after the events: 0 in each slot that sent a frame (R96). -/
theorem emitEvents_ages (u : State) (j : Slot) : (State.emitEvents before w a u).report.ages[j] =
    if 0 < u.framesHere before w a j then 0 else u.report.ages[j] := by
  have hw (i : Slot) (r : Record) (h : recordAt w i = some r) : r.slot = i := (mem_of_recordAt h).2
  refine (foldl_eventAt_ages_of_mem before w a hw (List.nodup_finRange 24) u (List.mem_finRange j)).trans ?_
  rw [eventAt_ages before w a u j (hw j)]
  simp

/-- With no slot that sends a frame, nothing happens. -/
theorem emitEvents_of_quiet (u : State) (h : ∀ i, recordAt w i = none ∧ u.eventHere before a i = none) :
    State.emitEvents before w a u = u := by
  have hfold (slots : List Slot) : slots.foldl (State.eventAt before w a) u = u := by
    induction slots with
    | nil => rfl
    | cons i slots ih =>
      obtain ⟨hw, hevent⟩ := h i
      rw [List.foldl_cons, eventAt_of_quiet before w a u i hw hevent, ih]
  exact hfold _

end

/-! ### The frames of a completion -/

theorem refresh_keeps (before : State) (m : Option Slot) (u : State) :
    Keeps m.isSome.toNat u (State.refresh before m u) := by
  unfold State.refresh
  cases m with
  | none => exact .of_queue_eq rfl
  | some i =>
    dsimp only [Option.bind_some]
    split
    · split
      · exact sendReport_keeps _ _ _ _
      · exact (Keeps.of_queue_eq rfl).mono (Nat.zero_le 1)
    · exact (Keeps.of_queue_eq rfl).mono (Nat.zero_le 1)

/-- What follows the report frames sends at most the request of a check that starts (R100). -/
theorem complete_keeps_reports (s : State) (v : Served) :
    Keeps (v.starts || v.sorted.settleChecks.2).toNat (s.reportsOf v v.sorted.settleChecks.1) (s.complete v) := by
  have hstarted : Keeps (v.starts || v.sorted.settleChecks.2).toNat (s.reportsOf v v.sorted.settleChecks.1)
      (s.beforeNotice v) := by
    unfold State.beforeNotice
    split
    next h => rw [h]; exact startCheck_keeps _
    next h => exact (Keeps.of_queue_eq rfl).mono (Nat.zero_le _)
  rw [State.complete_eq_beforeNotice]
  exact (hstarted.trans (notifyTable_keeps _ s)).trans (takeWork_keeps _)

/-- The number of frames that a completion may send. -/
def State.framesOf (s : State) (v : Served) : Nat :=
  ∑ j, v.sorted.settleChecks.1.framesHere s v.withdrawn v.applied j + v.merged.isSome.toNat +
    (v.starts || v.sorted.settleChecks.2).toNat

/-- A frame that a slot's event leaves in the queue is there at the end of the completion. -/
theorem State.complete_queued_of_eventAt {s : State} {v : Served} {p : Payload} {c : Bool} (hp : p.isVerdict = false)
    (i : Slot) (hroom : queueLoad v.state.link.queue + s.framesOf v ≤ txQueueSize)
    (here : ∀ u', u'.at i = v.sorted.settleChecks.1.at i → u'.table.tag = v.sorted.settleChecks.1.table.tag →
      queueLoad u'.link.queue + u'.framesHere s v.withdrawn v.applied i ≤ txQueueSize →
      Queued p c (State.eventAt s v.withdrawn v.applied u' i)) : Queued p c (s.complete v) := by
  unfold State.framesOf at hroom
  have hsettled := (v.sorted_settled_keeps (by omega)).1
  have hevents := emitEvents_of_eventAt s v.withdrawn v.applied (P := Queued p c) v.sorted.settleChecks.1 i (by omega)
    here fun n u' t hroom' hkeeps hq => hkeeps.queued hroom' hp hq
  have hemitted := (emitEvents_keeps s v.withdrawn v.applied v.sorted.settleChecks.1 (by omega)).1
  have hrest := (refresh_keeps s v.merged _).trans (complete_keeps_reports s v)
  exact hrest.queued (by omega) hp hevents

/-- The frame of a record's event waits in the queue at the end of the completion (R66, R93). -/
theorem State.complete_event_queued {s : State} {v : Served} {i : Slot} {r : Record} {b : Action}
    (hroom : queueLoad v.state.link.queue + s.framesOf v ≤ txQueueSize)
    (hr : v.sorted.settleChecks.1.at i = some r) (hb : eventOf s.table.records v.applied r = some b) :
    Queued (reportFrame b r v.state.table.tag) (r.kind.isCliff || (b = .update && (s.at i).any fun o => o.kind.isCliff))
      (s.complete v) := by
  refine State.complete_queued_of_eventAt rfl i hroom fun u' hat htag hroom' => ?_
  have htag' : u'.table.tag = v.state.table.tag := htag.trans (settleChecks_tag_full _).1
  rw [← htag']
  exact eventAt_queued s v.withdrawn v.applied u' i (hat.trans hr) hb hroom'

/-- The frame of a withdrawn record waits in the queue at the end of the completion (R66, R93). -/
theorem State.complete_withdraw_queued {s : State} {v : Served} {i : Slot} {r : Record}
    (hroom : queueLoad v.state.link.queue + s.framesOf v ≤ txQueueSize) (hr : recordAt v.withdrawn i = some r) :
    Queued (reportFrame .withdraw r v.state.table.tag) r.kind.isCliff (s.complete v) := by
  refine State.complete_queued_of_eventAt rfl i hroom fun u' _ htag hroom' => ?_
  have htag' : u'.table.tag = v.state.table.tag := htag.trans (settleChecks_tag_full _).1
  rw [← htag']
  exact eventAt_withdrawn_queued s v.withdrawn v.applied u' i hr hroom'

end Sys2Proof.Machine
end

section
/-! PROOFS. What a peer's UPDATE and WITHDRAW make of the record that holds the key, and of the check (R64, R65, R72,
R108). -/

namespace Sys2Proof.Machine

open Sys2Proof

/-! ### A completion without a change -/

theorem Hazard.sameShade_self (k : Hazard) : k.sameShade k = true := by simp [Hazard.sameShade]

/-- A record that stands as before earns no event (R66). -/
theorem eventOf_of_unchanged {before : List Record} {r : Record} (h : recordAt before r.slot = some r) :
    eventOf before none r = none := by
  have hsame : (!r.confirmed && r.confirmed) = false := Bool.not_and_self _
  unfold eventOf
  dsimp only
  rw [h]
  dsimp only
  rw [Hazard.sameShade_self, Bool.and_assoc, hsame]
  cases r.own.isSome <;> cases r.reported <;> simp

/-- A slot that shows what it showed sends nothing (R66). -/
theorem eventHere_of_at_eq {u before : State} {i : Slot} (h : u.at i = before.at i) :
    u.eventHere before none i = none := by
  cases hr : u.at i with
  | none => rw [State.eventHere, hr]; rfl
  | some r =>
    obtain ⟨-, rfl⟩ := mem_of_recordAt hr
    rw [State.eventHere, hr]
    exact eventOf_of_unchanged (h.symm.trans hr)

/-- With nothing changed and no check gone, a completion takes the next work and drops a candidate that does not stand
(R50, R55). -/
theorem State.complete_of_unchanged {s : State} (hord : s.table.Ordered) (hgone : s.checkGone = false) :
    s.complete { state := s } = s.dropDeferral.takeWork := by
  have hsorted : Served.sorted { state := s } = s := by
    have hkept : sortRecords s.table.records = s.table.records := List.Pairwise.insertionSort_eq hord
    unfold Served.sorted
    dsimp only
    rw [hkept]
    rfl
  have hquiet : State.emitEvents s [] none s.dropDeferral = s.dropDeferral :=
    emitEvents_of_quiet s [] none _ fun i =>
      ⟨rfl, eventHere_of_at_eq (by rw [State.at, State.dropDeferral_table]; rfl)⟩
  have hreports : s.reportsOf { state := s } s.dropDeferral = s.dropDeferral := hquiet
  have hnotice : s.dropDeferral.notifyTable s = s.dropDeferral := by
    unfold State.notifyTable
    rw [if_neg (by simp)]
  rw [State.complete_eq_beforeNotice, State.beforeNotice, hsorted, State.settleChecks_of_stays hgone]
  dsimp only
  rw [hreports, Bool.or_false, if_neg Bool.false_ne_true, hnotice]

theorem State.dropDeferral_of_stands {s : State} (h : ∀ d, s.report.deferred = some d → s.hasMark d .deferred = true) :
    s.dropDeferral = s := by
  unfold State.dropDeferral
  rw [if_neg]
  cases hd : s.report.deferred with
  | none => simp
  | some d => simp [h d hd]

/-! ### The holder of a key -/

theorem keyHolder_eq_some {s : State} (h : s.Sound) {q : Record} {k : Key} (hq : q ∈ s.table.records)
    (hk : k ∈ q.keys) : keyHolder s.table.records k = some q := by
  cases hholder : keyHolder s.table.records k with
  | none => exact absurd hk (by simpa using List.find?_eq_none.1 hholder q hq)
  | some t =>
    obtain ⟨ht, hkt⟩ := mem_of_keyHolder hholder
    rw [h.eq_of_key ht hq hkt hk]

theorem keyHolder_eq_none {rs : List Record} {k : Key} (h : ∀ q ∈ rs, k ∉ q.keys) : keyHolder rs k = none :=
  List.find?_eq_none.2 fun q hq => by simpa using h q hq

/-! ### The service of an UPDATE -/

/-- An UPDATE ends the record's check with its kind and retires it beyond the range limit (R72). -/
def Record.endsWith (q : Record) (kind : Hazard) : Bool := q.checking && !kind.isCliff && q.endsFar

theorem Record.endsWith_iff (q : Record) (kind : Hazard) : q.endsWith kind = true ↔
    q.checking = true ∧ kind ≠ .cliff ∧ 1500 < max q.x.natAbs q.y.natAbs := by
  have hfar : q.endsFar = true ↔ 1500 < max q.x.natAbs q.y.natAbs := decide_eq_true_iff
  unfold Record.endsWith
  rw [Bool.and_eq_true, Bool.and_eq_true, hfar, Bool.not_eq_true', ← Bool.not_eq_true, Hazard.isCliff_iff, and_assoc]

/-- The core of an updated record (R64). -/
theorem Record.updatePeer_core (q : Record) (kind : Hazard) (c : Nat) : (q.updatePeer kind c).core =
    (kind, (q.x, q.y), (max q.conf (c - 1), 0), q.own, q.keys,
      if kind = .obstacle ∧ q.own = some .wall then some (q.clearRun.getD 0) else none) := by
  have hrun : (q.updatePeer kind c).clearRun =
      if kind = .obstacle ∧ q.own = some .wall then some (q.clearRun.getD 0) else none :=
    if_congr (by simp [Record.isOwnWall, Hazard.isObstacle_iff]) rfl rfl
  rw [Record.core, hrun]
  rfl

section
variable {s : State} {r : PeerReport}

theorem State.serveUpdate_of_failed (h : s.reconcile r.tag = .failed) :
    s.serveUpdate r = { state := s.count .staleReport } := if_pos h

/-- An UPDATE without a holder is served as an ADD (R64). -/
theorem State.serveUpdate_of_no_holder (h : ∀ q ∈ s.table.records, r.key ∉ q.keys) :
    s.serveUpdate r = s.serveAdd r := by
  unfold State.serveUpdate State.serveAdd
  dsimp only
  split
  · rfl
  · rw [keyHolder_eq_none h]

variable {q : Record} (h : s.Sound) (hq : q ∈ s.table.records) (hk : r.key ∈ q.keys) (hrc : s.reconcile r.tag ≠ .failed)
include h hq hk hrc

theorem State.serveUpdate_of_holder : s.serveUpdate r =
    { state := if q.endsWith r.kind then s.setRecords (removeSlot s.table.records q.slot)
        else s.putRecord (q.updatePeer r.kind (r.conf' (s.reconcile r.tag))) } := by
  have hgone := removeSlot_updateRecord s.table.records (q.updatePeer r.kind (r.conf' (s.reconcile r.tag)))
  unfold State.serveUpdate
  dsimp only
  rw [if_neg hrc, keyHolder_eq_some h hq hk]
  dsimp only
  split
  next hends =>
    rw [if_pos (show q.endsWith r.kind = true from hends)]
    exact congrArg (fun rs => ({ state := s.setRecords rs } : Served)) hgone
  next hends => rw [if_neg (show ¬ q.endsWith r.kind = true from hends)]

/-- The slots after an UPDATE (R64, R72). -/
theorem State.serveUpdate_at (j : Slot) : (s.serveUpdate r).state.at j =
    if j = q.slot then
      if q.endsWith r.kind then none else some (q.updatePeer r.kind (r.conf' (s.reconcile r.tag)))
    else s.at j := by
  have hhere : recordAt s.table.records q.slot = some q := (recordAt_eq_some_iff h.slots _ _).2 ⟨hq, rfl⟩
  rw [State.serveUpdate_of_holder h hq hk hrc]
  dsimp only
  by_cases hends : q.endsWith r.kind = true
  · rw [if_pos hends, if_pos hends]
    exact recordAt_removeSlot _ _ _
  · rw [if_neg hends, if_neg hends]
    refine (recordAt_updateRecord _ _ _).trans ?_
    by_cases hj : j = q.slot
    · rw [if_pos hj, hj, hhere]
      exact if_pos rfl
    · rw [if_neg hj]
      exact if_neg hj

theorem State.serveUpdate_coreAt (j : Slot) : (s.serveUpdate r).state.coreAt j =
    if j = q.slot then
      if q.checking = true ∧ r.kind ≠ .cliff ∧ 1500 < max q.x.natAbs q.y.natAbs then none
      else some (r.kind, (q.x, q.y), (max q.conf (r.conf' (s.reconcile r.tag) - 1), 0), q.own, q.keys,
        if r.kind = .obstacle ∧ q.own = some .wall then some (q.clearRun.getD 0) else none)
    else s.coreAt j := by
  rw [State.coreAt, State.serveUpdate_at h hq hk hrc]
  by_cases hj : j = q.slot
  · rw [if_pos hj, if_pos hj]
    by_cases hends : q.endsWith r.kind = true
    · rw [if_pos hends, if_pos ((q.endsWith_iff _).1 hends)]
      rfl
    · rw [if_neg hends, if_neg fun hall => hends ((q.endsWith_iff _).2 hall), ← Record.updatePeer_core]
      rfl
  · rw [if_neg hj, if_neg hj]
    rfl

/-- An UPDATE to another kind leaves the holder under no check (R64, R72). -/
theorem State.serveUpdate_hasMark (hkind : r.kind ≠ .cliff) (d : Slot) (m : CheckMark) :
    (s.serveUpdate r).state.hasMark d m = decide (d ≠ q.slot ∧ s.hasMark d m) := by
  have hcliff : r.kind.isCliff = false := by rwa [← Bool.not_eq_true, Hazard.isCliff_iff]
  rw [State.hasMark_eq, State.serveUpdate_at h hq hk hrc]
  by_cases hd : d = q.slot
  · rw [if_pos hd]
    by_cases hends : q.endsWith r.kind = true
    · rw [if_pos hends]
      simp [hd]
    · rw [if_neg hends]
      simp [hd, Record.updatePeer, hcliff]
  · rw [if_neg hd, ← State.hasMark_eq]
    simp [hd]

end

theorem State.servePeerUpdate_of_serving {s : State} {r : PeerReport} (hrun : s.running = true)
    (ha : r.action = .update) (hwork : s.table.work = .serving (.report r)) :
    s.servePeerUpdate = s.complete (s.serveUpdate r) := by
  unfold State.servePeerUpdate
  rw [hwork]
  exact if_pos (by simp [hrun, ha])

/-- An UPDATE without a holder is handled as the ADD of the same report (R64). -/
theorem servePeerAdd_of_update {s : State} {r : PeerReport} (hrun : s.running = true)
    (h : ∀ q ∈ s.table.records, r.key ∉ q.keys) :
    exec .servePeerAdd (s.setTable { s.table with work := .serving (.report { r with action := .add }) }) =
      .next (s.complete (s.serveUpdate r)) := by
  have hserved : (s.withWork (.serving (.report { r with action := .add }))).servePeerAdd =
      (s.withWork (.serving (.report { r with action := .add }))).complete
        ((s.withWork (.serving (.report { r with action := .add }))).serveAdd { r with action := .add }) :=
    State.servePeerAdd_of_serving hrun rfl rfl
  have hadd : s.serveAdd { r with action := .add } = s.serveAdd r := rfl
  refine congrArg Host.Outcome.next (hserved.trans ?_)
  rw [withWork_serveAdd, State.complete_withWork, hadd, ← State.serveUpdate_of_no_holder h]
  rfl

/-! ### The service of a WITHDRAW -/

theorem State.serveWithdraw_eq {s : State} (h : s.Sound) (r : PeerReport) :
    s.serveWithdraw r = { state := s.withoutKey r.key } := by
  rw [State.serveWithdraw, State.removeKey_eq h]
  rfl

theorem State.withoutKey_at {s : State} (h : s.Sound) (k : Key) (i : Slot) :
    (s.withoutKey k).at i = (s.at i).bind (Record.without k) :=
  recordAt_filterMap (fun _ _ => Record.slot_of_without) h.slots i

/-- With no holder the records are as they were (R65). -/
theorem State.withoutKey_of_no_holder {s : State} {k : Key} (h : ∀ q ∈ s.table.records, k ∉ q.keys) :
    s.withoutKey k = s := by
  have hkept : s.table.records.filterMap (Record.without k) = s.table.records := by
    have hsome : ∀ q ∈ s.table.records, Record.without k q = some q := fun q hq => if_neg (h q hq)
    rw [List.filterMap_congr hsome]
    exact List.filterMap_some
  unfold State.withoutKey
  rw [hkept]
  rfl

theorem Record.without_of_only {q : Record} {k : Key} (hk : k ∈ q.keys) (hown : q.own = none)
    (honly : ∀ m ∈ q.keys, m = k) : q.without k = none := by
  unfold Record.without
  rw [if_pos hk, if_pos ⟨hown, List.filter_eq_nil_iff.2 fun m hm => by simp [honly m hm]⟩]

theorem State.servePeerWithdraw_of_serving {s : State} {r : PeerReport} (hrun : s.running = true)
    (ha : r.action = .withdraw) (hwork : s.table.work = .serving (.report r)) :
    s.servePeerWithdraw = s.complete (s.serveWithdraw r) := by
  unfold State.servePeerWithdraw
  rw [hwork]
  exact if_pos (by simp [hrun, ha])

/-- The UPDATE part of O44: the holder takes the report or goes, and a check it stood under ends. -/
theorem servePeerUpdate_acts {s : State} {r : PeerReport} (hrun : s.running = true) (hupdate : r.action = .update)
    (hwork : s.table.work = .serving (.report r)) (htable : s.TableOk) : Completes .servePeerUpdate s fun t =>
      (s.reconcile r.tag = .failed →
        t.link.counts.staleReport = satInc s.link.counts.staleReport ∧ ∀ i, t.coreAt i = s.coreAt i) ∧
      (∀ q ∈ s.table.records, r.key ∈ q.keys → s.reconcile r.tag ≠ .failed →
        let c := (s.reconcile r.tag).lower r.conf
        t.coreAt q.slot =
          (if q.checking = true ∧ r.kind ≠ .cliff ∧ 1500 < max q.x.natAbs q.y.natAbs then none
           else some (r.kind, (q.x, q.y), (max q.conf (c - 1), 0), q.own, q.keys,
             if r.kind = .obstacle ∧ q.own = some .wall then some (q.clearRun.getD 0) else none)) ∧
        (s.report.phase ≠ .idle → s.report.outstanding = some q.slot → q.kind = .cliff → q.check = some .pending →
          r.kind ≠ .cliff → CheckEnds (fun d => d ≠ q.slot ∧ s.hasMark d .deferred) s t) ∧
        ∀ j, j ≠ q.slot → t.coreAt j = s.coreAt j) ∧
      ((∀ q ∈ s.table.records, r.key ∉ q.keys) →
        exec .servePeerAdd (s.setTable { s.table with work := .serving (.report { r with action := .add }) }) =
          .next t) ∧
      t.table.tag = s.table.tag ∧ t.table.Ordered ∧
      UnchangedBut [.table, .report, .link, .clear, .startup] s t := by
  have hok := htable.recordsOk
  have hsound := State.serveUpdate_sound hok.sound hok.ordered (htable.report_conf hwork)
  have hcounts := complete_steady s (s.serveUpdate r)
  refine ⟨_, congrArg Host.Outcome.next (State.servePeerUpdate_of_serving hrun hupdate hwork), fun hfail => ⟨?_, fun i => ?_⟩,
    fun q hq hk hrc => ?_, fun hnone => servePeerAdd_of_update hrun hnone, ?_, State.complete_ordered hsound, ?_⟩
  · rw [hcounts.1, State.serveUpdate_of_failed hfail]
    rfl
  · rw [State.complete_coreAt hsound, State.serveUpdate_of_failed hfail]
    rfl
  · have hcore (j : Slot) := (State.complete_coreAt (s := s) hsound j).trans
      (State.serveUpdate_coreAt hok.sound hq hk hrc j)
    refine ⟨(hcore q.slot).trans (if_pos rfl), fun hphase ho _ _ hkind => ?_, fun j hj => (hcore j).trans (if_neg hj)⟩
    have hmark := State.serveUpdate_hasMark hok.sound hq hk hrc hkind
    have hends := State.complete_checkEnds (s := s) hsound (s.serveUpdate_report r) (serveUpdate_recordsOnly s r)
      (s.serveUpdate_peers r) ?_ (s.serveUpdate_starts r) hphase ho (by rw [hmark]; simp)
    · rw [funext fun d => hmark d .deferred] at hends
      exact hends
    · rw [State.serveUpdate_of_holder hok.sound hq hk hrc]
      dsimp only
      split <;> rfl
  · rw [(s.complete_tag_full _).1]
    exact (serveUpdate_recordsOnly s r).tag
  · refine UnchangedBut.trans (fun b hb => ?_) (s.complete_unchanged _)
    cases b <;> simp [Block.same] at hb ⊢

/-- Settles O44: an UPDATE and a WITHDRAW act on the one record that holds the key; without one an UPDATE is the ADD of
the same report, and a WITHDRAW leaves everything but the work. -/
theorem peerUpdatesAndWithdrawsActOnTheirKey : Obligations.PeerUpdatesAndWithdrawsActOnTheirKey := by
  refine ⟨fun s r hrun hupdate hwork htable => servePeerUpdate_acts hrun hupdate hwork htable,
    fun s r hrun hwithdraw hwork htable => ?_⟩
  have hok := htable.recordsOk
  have hserved := State.serveWithdraw_eq hok.sound r
  have hsound := State.withoutKey_sound hok.sound r.key
  have hcore (i : Slot) : (s.complete { state := s.withoutKey r.key }).coreAt i =
      ((s.at i).bind (Record.without r.key)).map Record.core := by
    rw [State.complete_coreAt hsound]
    exact congrArg (Option.map Record.core) (State.withoutKey_at hok.sound r.key i)
  refine ⟨_, congrArg Host.Outcome.next ((State.servePeerWithdraw_of_serving hrun hwithdraw hwork).trans
    (congrArg s.complete hserved)), hcore, fun i q hq hk hown honly => ?_, fun hnone hgone => ?_, ?_,
    State.complete_ordered hsound, ?_⟩
  · have hempty := hcore i
    rw [hq, Option.bind_some, Record.without_of_only (k := r.key) hk hown honly] at hempty
    exact Option.map_eq_none_iff.1 hempty
  · rw [State.withoutKey_of_no_holder (k := r.key) hnone, State.complete_of_unchanged hok.ordered hgone]
    refine ⟨by simp, fun hstands => ?_⟩
    rw [State.dropDeferral_of_stands hstands]
    simp
  · exact (complete_steady s _).1
  · exact UnchangedBut.trans (fun b hb => by cases b <;> simp [Block.same] at hb ⊢ <;> rfl) (s.complete_unchanged _)

end Sys2Proof.Machine
end

section
/-! PROOFS. What a check outcome makes of its record and of the check (R71, R72, R106). -/

namespace Sys2Proof.Machine

open Sys2Proof

/-! ### The events of records that stand as before -/

theorem eventOf_of_not_applied {a : Option Slot} {r : Record} (h : a ≠ some r.slot) (before : List Record) :
    eventOf before a r = eventOf before none r := by
  unfold eventOf
  simp [h]

theorem eventHere_of_not_applied {u before : State} {a : Option Slot} {i : Slot} (hat : u.at i = before.at i)
    (ha : a ≠ some i) : u.eventHere before a i = none := by
  rw [← eventHere_of_at_eq hat]
  refine Option.bind_congr fun r hr => ?_
  obtain ⟨-, rfl⟩ := mem_of_recordAt hr
  exact eventOf_of_not_applied ha _

/-- At most so many frames as slots that send one. -/
theorem sum_framesHere_le {u before : State} {a : Option Slot} (slots : Finset Slot)
    (h : ∀ j, j ∉ slots → u.eventHere before a j = none) : ∑ j, u.framesHere before [] a j ≤ slots.card := by
  have hquiet (j : Slot) (hj : j ∉ slots) : u.framesHere before [] a j = 0 := by rw [State.framesHere, h j hj]; rfl
  have hone (j : Slot) : u.framesHere before [] a j ≤ 1 := by
    change (none : Option Record).isSome.toNat + _ ≤ 1
    simpa using Bool.toNat_le _
  rw [← Finset.sum_subset (Finset.subset_univ slots) fun j _ hj => hquiet j hj]
  simpa using Finset.sum_le_card_nsmul slots _ 1 fun j _ => hone j

/-! ### A check that has ended -/

/-- With the Report Handler idle and no candidate, nothing is settled (R72). -/
theorem State.settleChecks_of_idle {s : State} (hphase : s.report.phase = .idle) (hdeferred : s.report.deferred = none) :
    s.settleChecks = (s, false) := by
  have hkept : s.dropDeferral = s := State.dropDeferral_of_stands fun d hd => by rw [hdeferred] at hd; cases hd
  rw [State.settleChecks_of_stays, hkept]
  simp [State.checkGone, ReportHandler.isChecking, hphase]

theorem promote_report_phase (s : State) :
    s.promote.1.report.phase = s.report.phase ∧ s.promote.1.report.deferred = none := by
  unfold State.promote
  split
  next h => exact ⟨rfl, h⟩
  · dsimp only
    split
    · simp [ReportHandler.takeCheck]
    · exact ⟨rfl, rfl⟩

/-- A candidate that does not stand is dropped (R109). -/
theorem State.promote_of_falls {s : State} (h : ∀ d, s.report.deferred = some d → s.hasMark d .deferred = false) :
    s.promote = (s.setReport { s.report with deferred := none }, false) := by
  unfold State.promote
  cases hd : s.report.deferred with
  | none =>
    dsimp only
    rw [← hd]
    rfl
  | some d =>
    dsimp only
    rw [if_neg (by simp [h d hd])]

/-! ### The record an outcome acts on -/

/-- The core of the record an outcome leaves (R71). -/
theorem Record.applyOutcome_core {r : Record} (h : r.FieldsOk) (hk : r.kind = .cliff) (o : Outcome) :
    (r.applyOutcome o).core = (if o = .overrule then .rug .dark else .cliff, (r.x, r.y), (max r.conf 8, r.age), r.own,
      r.keys, none) := by
  obtain ⟨-, -, -, -, hwall, -⟩ := h
  have hrun : r.clearRun = none := by
    refine Option.not_isSome_iff_eq_none.1 fun hsome => ?_
    simpa [Record.isOwnWall, hk, Hazard.isObstacle] using hwall.1 hsome
  cases o with
  | confirm =>
    rw [Record.core, ← hrun, if_neg (by decide), ← hk]
    rfl
  | overrule => rfl

theorem Record.applyOutcome_check (r : Record) (o : Outcome) :
    (r.applyOutcome o).check = if o = .overrule then none else some .none := by
  cases o <;> rfl

theorem Record.applyOutcome_kind {r : Record} (hk : r.kind = .cliff) (o : Outcome) :
    (r.applyOutcome o).kind = if o = .overrule then .rug .dark else .cliff := by
  cases o with
  | confirm => exact hk
  | overrule => rfl

theorem Record.applyOutcome_reported (r : Record) (o : Outcome) : (r.applyOutcome o).reported = r.reported := by
  cases o <;> rfl

section
variable {s : State} {slot : Slot}

theorem State.applyAt_of_dropped (h : s.hasMark slot .pending = false) (o : Outcome) : s.applyAt o slot = s := by
  unfold State.applyAt
  split
  · exact if_neg (by simp [h])
  · rfl

theorem State.applyAt_of_acts {r : Record} (hr : s.at slot = some r) (h : s.hasMark slot .pending = true) (o : Outcome) :
    s.applyAt o slot = s.outcomeOn o slot r := by
  unfold State.applyAt
  rw [show recordAt s.table.records slot = some r from hr]
  exact if_pos h

/-- The slots after an outcome on its record (R71, R72). -/
theorem State.outcomeOn_at {r : Record} (hr : s.at slot = some r) (o : Outcome) (j : Slot) :
    (s.outcomeOn o slot r).at j = if j = slot then if r.endsFar then none else some (r.applyOutcome o) else s.at j := by
  obtain ⟨-, rfl⟩ := mem_of_recordAt hr
  rw [State.at, State.outcomeOn_table]
  dsimp only
  by_cases hfar : r.endsFar = true
  · rw [if_pos hfar, if_pos hfar]
    exact recordAt_removeSlot _ _ _
  · rw [if_neg hfar, if_neg hfar, recordAt_updateRecord, r.applyOutcome_slot]
    by_cases hj : j = r.slot
    · rw [if_pos hj, if_pos hj, hj, show recordAt s.table.records r.slot = some r from hr]
      rfl
    · rw [if_neg hj, if_neg hj]
      rfl

theorem State.applyAt_at_of_ne (o : Outcome) {j : Slot} (hj : j ≠ slot) : (s.applyAt o slot).at j = s.at j := by
  cases hmark : s.hasMark slot .pending with
  | false => rw [State.applyAt_of_dropped hmark]
  | true =>
    obtain ⟨r, hr, -⟩ := State.hasMark_at hmark
    rw [State.applyAt_of_acts hr hmark, State.outcomeOn_at hr, if_neg hj]

/-- An outcome leaves its record without a check that could be promoted (R71). -/
theorem State.applyAt_hasMark_deferred (o : Outcome) (d : Slot) :
    (s.applyAt o slot).hasMark d .deferred = s.hasMark d .deferred := by
  cases hmark : s.hasMark slot .pending with
  | false => rw [State.applyAt_of_dropped hmark]
  | true =>
    obtain ⟨r, hr, hk, hc⟩ := State.hasMark_at hmark
    by_cases hd : d = slot
    · have hbefore : s.hasMark d .deferred = false := by
        rw [State.hasMark_eq, hd, hr]
        simp [hc]
      rw [hbefore, State.hasMark_eq, State.applyAt_of_acts hr hmark, State.outcomeOn_at hr, if_pos hd]
      by_cases hfar : r.endsFar = true
      · simp [hfar]
      · simp only [hfar, Bool.false_eq_true, if_false, Option.any_some, r.applyOutcome_check]
        split <;> simp
    · rw [State.hasMark_eq, State.hasMark_eq, State.applyAt_at_of_ne o hd]

theorem endCheck_steady (s : State) : Steady s s.endCheck := handing_steady (setReport_steady s _)

theorem outcomeOn_steady (s : State) (o : Outcome) (slot : Slot) (r : Record) : Steady s (s.outcomeOn o slot r) := by
  have hput : Steady s (if r.endsFar then (s.putRecord (r.applyOutcome o)).setRecords
      (removeSlot (s.putRecord (r.applyOutcome o)).table.records slot) else s.putRecord (r.applyOutcome o)) := by
    split <;> exact .of_eq rfl rfl
  unfold State.outcomeOn
  dsimp only
  split
  · exact hput.trans (handing_steady (.of_eq rfl rfl))
  · exact hput

theorem applyAt_steady (s : State) (o : Outcome) (slot : Slot) : Steady s (s.applyAt o slot) := by
  unfold State.applyAt
  split
  · split
    · exact outcomeOn_steady s o slot _
    · exact .refl s
  · exact .refl s

theorem overruleClass_keeps (s : State) : Keeps 0 s s.overruleClass :=
  handing_keeps (g := fun t => t.setFloor t.floor.writeDarkRug) (.of_queue_eq rfl)

theorem outcomeOn_keeps (s : State) (o : Outcome) (slot : Slot) (r : Record) : Keeps 0 s (s.outcomeOn o slot r) := by
  have hput : Keeps 0 s (if r.endsFar then (s.putRecord (r.applyOutcome o)).setRecords
      (removeSlot (s.putRecord (r.applyOutcome o)).table.records slot) else s.putRecord (r.applyOutcome o)) := by
    split <;> exact .of_queue_eq rfl
  unfold State.outcomeOn
  dsimp only
  split
  · exact hput.trans (overruleClass_keeps _)
  · exact hput

theorem applyAt_keeps (s : State) (o : Outcome) (slot : Slot) : Keeps 0 s (s.applyAt o slot) := by
  unfold State.applyAt
  split
  · split
    · exact outcomeOn_keeps s o slot _
    · exact .of_queue_eq rfl
  · exact .of_queue_eq rfl

@[simp] theorem State.outcomeOn_report (s : State) (o : Outcome) (slot : Slot) (r : Record) :
    (s.outcomeOn o slot r).report = s.report := by
  unfold State.outcomeOn
  dsimp only
  split <;> split <;> simp

@[simp] theorem State.applyAt_report (s : State) (o : Outcome) (slot : Slot) :
    (s.applyAt o slot).report = s.report := by
  unfold State.applyAt
  split
  · split <;> simp
  · rfl

theorem State.outcomeOn_floor (s : State) (o : Outcome) (slot : Slot) (r : Record) :
    (s.outcomeOn o slot r).floor = if o = .overrule then s.floor.writeDarkRug else s.floor := by
  unfold State.outcomeOn
  dsimp only
  split <;> split <;> simp [State.overruleClass]

/-! ### The service of an outcome -/

variable (s slot) (o : Outcome)

/-- The state after the outcome and the end of the check (R71, R106). -/
def State.checkEnded : State := (s.applyAt o slot).endCheck

theorem checkEnded_at (j : Slot) : (s.checkEnded slot o).at j = (s.applyAt o slot).at j := by
  rw [State.at, State.checkEnded, State.endCheck, State.handing_table]
  rfl

theorem checkEnded_report : (s.checkEnded slot o).report = s.report.endCheck := by
  rw [State.checkEnded, State.endCheck_report, State.applyAt_report]

theorem checkEnded_hasMark_deferred (d : Slot) : (s.checkEnded slot o).hasMark d .deferred = s.hasMark d .deferred := by
  rw [← State.applyAt_hasMark_deferred (s := s) (slot := slot) o d, State.hasMark_eq, State.hasMark_eq, checkEnded_at]

theorem serveOutcome_eq_promote : s.serveOutcome o slot =
    { state := (s.checkEnded slot o).promote.1
      applied := if s.hasMark slot .pending then some slot else none
      starts := (s.checkEnded slot o).promote.2 } := rfl

variable {s slot}

/-- The candidate that stands takes the check over (R106). -/
theorem checkEnded_promote_of_stands {d : Slot} (hd : s.report.deferred = some d) (hmark : s.hasMark d .deferred = true) :
    (s.checkEnded slot o).promote =
      (((s.checkEnded slot o).setReport ({ s.report.endCheck with deferred := none }.takeCheck d)).markCheck d .pending,
        true) := by
  rw [State.promote_of_stands (by rw [checkEnded_report]; exact hd) (by rw [checkEnded_hasMark_deferred, hmark]),
    checkEnded_report]

theorem checkEnded_promote_of_falls (h : ∀ d, s.report.deferred = some d → s.hasMark d .deferred = false) :
    (s.checkEnded slot o).promote = ((s.checkEnded slot o).setReport { s.report.endCheck with deferred := none }, false) := by
  rw [State.promote_of_falls, checkEnded_report]
  intro d hd
  rw [checkEnded_report] at hd
  rw [checkEnded_hasMark_deferred]
  exact h d hd

/-- Nothing is left to settle when an outcome has been served. -/
theorem serveOutcome_settled : (s.serveOutcome o slot).sorted.settleChecks = ((s.serveOutcome o slot).sorted, false) := by
  obtain ⟨hphase, hdeferred⟩ := promote_report_phase (s.checkEnded slot o)
  have hidle : (s.checkEnded slot o).report.phase = .idle := by rw [checkEnded_report]; rfl
  exact State.settleChecks_of_idle (hphase.trans hidle) hdeferred

/-- The slots when an outcome has been served: all but the candidate that takes the check over. -/
theorem serveOutcome_at {j : Slot} (hj : ∀ d, s.report.deferred = some d → s.hasMark d .deferred = true → j ≠ d) :
    (s.serveOutcome o slot).state.at j = (s.applyAt o slot).at j := by
  rw [serveOutcome_eq_promote, ← checkEnded_at]
  dsimp only
  by_cases h : ∃ d, s.report.deferred = some d ∧ s.hasMark d .deferred = true
  · obtain ⟨d, hd, hmark⟩ := h
    obtain ⟨r, hr, -⟩ := State.hasMark_at ((checkEnded_hasMark_deferred s slot o d).trans hmark)
    rw [checkEnded_promote_of_stands o hd hmark]
    exact (State.markCheck_at (s := (s.checkEnded slot o).setReport
      ({ s.report.endCheck with deferred := none }.takeCheck d)) hr .pending j).trans (if_neg (hj d hd hmark))
  · have hfalls (d : Slot) (hd : s.report.deferred = some d) : s.hasMark d .deferred = false :=
      Bool.eq_false_iff.2 fun hmark => h ⟨d, hd, hmark⟩
    rw [checkEnded_promote_of_falls o hfalls]
    rfl

theorem serveOutcome_coreAt (hs : s.Sound) (j : Slot) :
    (s.serveOutcome o slot).state.coreAt j = (s.applyAt o slot).coreAt j := by
  have hsound : (s.checkEnded slot o).Sound := by
    rw [State.Sound, State.checkEnded, State.endCheck, State.handing_table]
    exact State.applyAt_sound hs o slot
  refine ((promote_remarks _).coreAt hsound j).trans ?_
  rw [State.coreAt, checkEnded_at]
  rfl

theorem serveOutcome_keeps : Keeps 0 s (s.serveOutcome o slot).state :=
  ((applyAt_keeps s o slot).trans (endCheck_keeps _)).trans (promote_keeps _)

/-- What an outcome leaves of the record whose PENDING check it ends (R71, R72). -/
theorem complete_serveOutcome_of_acts (hs : s.Sound) {r : Record} (hr : s.at slot = some r) (hk : r.kind = .cliff)
    (hc : r.check = some .pending) :
    let t := s.complete (s.serveOutcome o slot)
    t.coreAt slot = (if 1500 < max r.x.natAbs r.y.natAbs then none
      else some (if o = .overrule then .rug .dark else .cliff, (r.x, r.y), (max r.conf 8, r.age), r.own, r.keys, none)) ∧
    (t.at slot).bind Record.check =
      (if 1500 < max r.x.natAbs r.y.natAbs ∨ o = .overrule then none else some .none) ∧
    t.floor = (if o = .overrule then
      { s.floor with accepted := .darkRug, runClass := none, runCount := 0, repeats := 0 } else s.floor) ∧
    (r.reported = true → max r.x.natAbs r.y.natAbs ≤ 1500 → s.link.queue.length < 3 →
      ∃ e ∈ t.link.queue, e.urgent = true ∧ ∃ d, e.payload = .hazard d ∧ d.action = .update ∧ d.id = slot ∧
        d.kind = if o = .overrule then .rug .dark else .cliff) := by
  have hmark : s.hasMark slot .pending = true := by
    rw [State.hasMark_eq, hr]
    simp [hk, hc]
  obtain ⟨hmem, hslot⟩ := mem_of_recordAt hr
  have hsound := State.serveOutcome_sound hs o slot
  have hother (d : Slot) (hd : s.hasMark d .deferred = true) : slot ≠ d := by
    rintro rfl
    rw [State.hasMark_eq, hr] at hd
    simp [hc] at hd
  have hfar : r.endsFar = true ↔ 1500 < max r.x.natAbs r.y.natAbs := decide_eq_true_iff
  have happlied := State.applyAt_of_acts hr hmark o
  have hat : (s.serveOutcome o slot).state.at slot = if r.endsFar then none else some (r.applyOutcome o) := by
    rw [serveOutcome_at o fun d _ hd => hother d hd, happlied, State.outcomeOn_at hr, if_pos rfl]
  have hsettled : (s.serveOutcome o slot).sorted.settleChecks.1.at slot =
      if r.endsFar then none else some (r.applyOutcome o) := by
    rw [serveOutcome_settled, Served.sorted_at hsound, hat]
  refine ⟨?_, ?_, ?_, fun hreported hnear hqueue => ?_⟩
  · rw [State.complete_coreAt hsound, State.coreAt, hat]
    by_cases hgone : r.endsFar = true
    · rw [if_pos hgone, if_pos (hfar.1 hgone)]
      rfl
    · rw [if_neg hgone, if_neg (mt hfar.2 hgone), ← Record.applyOutcome_core (hs.fields r hmem) hk]
      rfl
  · rw [State.complete_at, (reportsOf_reportsMade s _ _).check, hsettled]
    by_cases hgone : r.endsFar = true
    · rw [if_pos hgone, if_pos (.inl (hfar.1 hgone))]
      rfl
    · rw [if_neg hgone, Option.bind_some, r.applyOutcome_check]
      exact if_congr (by rw [← hfar]; simp [hgone]) rfl rfl
  · have hfloor : (s.serveOutcome o slot).state.floor = (s.applyAt o slot).floor := by
      rw [serveOutcome_eq]
      simp
    rw [State.complete_floor, hfloor, happlied, State.outcomeOn_floor]
    rfl
  · have hstays : ¬ r.endsFar = true := fun h => absurd (hfar.1 h) (not_lt.2 hnear)
    rw [if_neg hstays] at hsettled
    have happlied : (s.serveOutcome o slot).applied = some slot := by
      rw [serveOutcome_eq]
      exact if_pos hmark
    have hevent : eventOf s.table.records (s.serveOutcome o slot).applied (r.applyOutcome o) = some .update := by
      have hold : recordAt s.table.records (r.applyOutcome o).slot = some r := by rw [r.applyOutcome_slot, hslot]; exact hr
      unfold eventOf
      dsimp only
      rw [hold, happlied, r.applyOutcome_reported, hreported, r.applyOutcome_slot, hslot]
      simp
    have hroom : queueLoad (s.serveOutcome o slot).state.link.queue + s.framesOf (s.serveOutcome o slot) ≤
        txQueueSize := by
      have hlength := queueLoad_le s.link.queue
      have hload := (serveOutcome_keeps (s := s) (slot := slot) o (by
        have hsize : txQueueSize = 6 := rfl
        omega)).1
      have hstarts := Bool.toNat_le ((s.serveOutcome o slot).starts || (s.serveOutcome o slot).sorted.settleChecks.2)
      have hsum : ∑ j, (s.serveOutcome o slot).sorted.settleChecks.1.framesHere s (s.serveOutcome o slot).withdrawn
          (s.serveOutcome o slot).applied j ≤ ({slot, s.report.deferred.getD slot} : Finset Slot).card := by
        refine sum_framesHere_le _ fun j hj => ?_
        rw [Finset.mem_insert, Finset.mem_singleton, not_or] at hj
        obtain ⟨hjslot, hjd⟩ := hj
        refine eventHere_of_not_applied ?_ fun h => hjslot (by simpa [happlied] using h.symm)
        rw [serveOutcome_settled, Served.sorted_at hsound,
          serveOutcome_at o fun d hd _ => by rintro rfl; exact hjd (by rw [hd]; rfl), State.applyAt_at_of_ne o hjslot]
      have hcard := Finset.card_le_two (a := slot) (b := s.report.deferred.getD slot)
      have hmerged : (s.serveOutcome o slot).merged = none := rfl
      have hsize : txQueueSize = 6 := rfl
      rw [State.framesOf, hmerged, hsize]
      simp only [Option.isSome_none, Bool.toNat_false]
      omega
    obtain ⟨e, he, hpayload, hurgent, -⟩ := State.complete_event_queued hroom hsettled hevent
    refine ⟨e, he, ?_, _, hpayload, rfl, (r.applyOutcome_slot o).trans hslot, Record.applyOutcome_kind hk o⟩
    rw [hurgent, hr]
    simp [hk]

/-- An outcome that is served ends the check; with no candidate that stands the Report Handler is at rest (R106). -/
theorem complete_serveOutcome_of_falls (h : ∀ d, s.report.deferred = some d → s.hasMark d .deferred = false) :
    ∃ ages, (s.complete (s.serveOutcome o slot)).report = { s.report.endCheck with deferred := none, ages := ages } := by
  have hpromote := checkEnded_promote_of_falls (slot := slot) o h
  have hquiet : ((s.serveOutcome o slot).starts || (s.serveOutcome o slot).sorted.settleChecks.2) = false := by
    rw [serveOutcome_settled, serveOutcome_eq_promote, hpromote]
    rfl
  obtain ⟨ages, hreport⟩ := State.complete_report_of_quiet (s := s) hquiet
  refine ⟨ages, hreport.trans ?_⟩
  rw [serveOutcome_settled]
  have hserved : (s.serveOutcome o slot).sorted.report = { s.report.endCheck with deferred := none } := by
    rw [serveOutcome_eq_promote, hpromote]
    rfl
  rw [hserved]

/-- A candidate that stands is promoted and its check started (R100, R106). -/
theorem complete_serveOutcome_of_stands (hs : s.Sound) {d : Slot} (hd : s.report.deferred = some d)
    (hmark : s.hasMark d .deferred = true) (hroom : s.table.fifo.length < 8) :
    let t := s.complete (s.serveOutcome o slot)
    t.hasMark d .pending = true ∧ t.report.outstanding = some d ∧ t.report.deferred = none ∧
      t.report.checkId = some s.report.nextId ∧ t.report.nextId = s.report.nextId + 1 ∧
      t.report.phase = (if s.awaitedSet = [] then .resolved else .awaiting) := by
  have hpromote := checkEnded_promote_of_stands (slot := slot) o hd hmark
  have hsound := State.serveOutcome_sound hs o slot
  obtain ⟨r, hr, hk, -⟩ := State.hasMark_at ((checkEnded_hasMark_deferred s slot o d).trans hmark)
  have hr' : ((s.checkEnded slot o).setReport ({ s.report.endCheck with deferred := none }.takeCheck d)).at d = some r := hr
  have hstate : (s.serveOutcome o slot).state =
      ((s.checkEnded slot o).setReport ({ s.report.endCheck with deferred := none }.takeCheck d)).markCheck d .pending :=
    congrArg Prod.fst hpromote
  have hsettled := serveOutcome_settled (s := s) (slot := slot) o
  have hserved : (s.serveOutcome o slot).sorted.report = { s.report.endCheck with deferred := none }.takeCheck d := by
    refine Eq.trans (b := (s.serveOutcome o slot).state.report) rfl ?_
    rw [hstate, State.markCheck_report]
    rfl
  have hat : (s.serveOutcome o slot).sorted.at d = some { r with check := some .pending } := by
    rw [Served.sorted_at hsound, hstate, State.markCheck_at hr', if_pos rfl]
  have hawaited : (s.serveOutcome o slot).sorted.awaitedSet = s.awaitedSet := by
    refine State.awaitedSet_congr ?_ ?_
    · exact (s.serveOutcome_peers o slot)
    · have hsteady := ((applyAt_steady s o slot).trans (endCheck_steady _)).trans (promote_steady _)
      exact hsteady.2.2
  have hstart : ((s.serveOutcome o slot).starts || (s.serveOutcome o slot).sorted.settleChecks.2) = true := by
    rw [serveOutcome_eq_promote, hpromote]
    rfl
  obtain ⟨ages, hreport⟩ := State.complete_report_of_start (s := s) (v := s.serveOutcome o slot) (d := d)
    (r := { r with check := some .pending }) (n := s.report.nextId) hstart (by rw [hsettled, hserved]; rfl)
    (by rw [hsettled, hat]) (by rw [hsettled, hserved]; rfl)
    (by rw [hsettled]; exact (serveOutcome_recordsOnly s o slot).fifo ▸ hroom)
  rw [hsettled] at hreport
  dsimp only at hreport
  rw [hawaited, hserved] at hreport
  refine ⟨?_, ?_⟩
  · rw [State.complete_hasMark, hsettled, State.hasMark_eq, hat]
    simp [hk]
  · rw [hreport]
    exact ⟨rfl, rfl, rfl, rfl, rfl⟩

end

theorem State.serveCheckOutcome_of_serving {s : State} {o : Outcome} {slot : Slot} (hrun : s.running = true)
    (hwork : s.table.work = .serving (.outcome o slot)) :
    s.serveCheckOutcome = s.complete (s.serveOutcome o slot) := by
  unfold State.serveCheckOutcome
  rw [hwork]
  exact if_pos hrun

/-- Settles O45: an outcome acts on the record whose check is PENDING and is dropped otherwise; the check ends, and the
candidate that stands takes it over. -/
theorem checkOutcomesAreApplied : Obligations.CheckOutcomesAreApplied := by
  intro s o slot hrun hwork htable
  have hok := htable.recordsOk
  have hsound := State.serveOutcome_sound hok.sound o slot
  have hcore (j : Slot) : (s.complete (s.serveOutcome o slot)).coreAt j = (s.applyAt o slot).coreAt j :=
    (State.complete_coreAt hsound j).trans (serveOutcome_coreAt o hok.sound j)
  refine ⟨_, congrArg Host.Outcome.next (State.serveCheckOutcome_of_serving hrun hwork),
    fun r hr hk hc => complete_serveOutcome_of_acts o hok.sound hr hk hc, fun hdropped => ⟨?_, ?_⟩, fun j hj => ?_,
    fun hfalls => ?_, fun d hd hmark hroom => complete_serveOutcome_of_stands o hok.sound hd hmark hroom,
    State.complete_ordered hsound, ?_⟩
  · rw [hcore, State.applyAt_of_dropped hdropped]
  · have hfloor : (s.serveOutcome o slot).state.floor = (s.applyAt o slot).floor := by
      rw [serveOutcome_eq]
      simp
    rw [State.complete_floor, hfloor, State.applyAt_of_dropped hdropped]
  · rw [hcore, State.coreAt, State.applyAt_at_of_ne o hj]
    rfl
  · obtain ⟨ages, hreport⟩ := complete_serveOutcome_of_falls (slot := slot) o hfalls
    rw [hreport]
    exact ⟨rfl, rfl, rfl, rfl, rfl, rfl⟩
  · refine UnchangedBut.trans (fun b hb => ?_) ((s.complete_unchanged _).mono ?_)
    · cases b <;> simp [Block.same] at hb ⊢
    · simp

end Sys2Proof.Machine
end

section
/-! PROOFS. What own clearing makes of the records it reaches, and of the check (R61, R62, R72, R108, R109). -/

namespace Sys2Proof.Machine

open Sys2Proof

/-! ### The checks of records that a creation does not touch -/

/-- A record that is placed takes no CLIFF under check away, and leaves the others' checks (R67). -/
theorem State.placeRecord_hasMark {s : State} (h : s.Sound) (hord : s.table.Ordered) {r : Record}
    {m : CheckMark} (hk : (r.kind.isCliff && r.check = some m) = false) (hm : m = .pending ∨ m = .deferred) (d : Slot) :
    (s.placeRecord r).1.hasMark d m = s.hasMark d m := by
  obtain ⟨i, hi, heq⟩ | ⟨-, heq⟩ := State.placeRecord_cases h.slots hord r
  · have hat (j : Slot) : (s.placeRecord r).1.at j = if j = i then some { r with slot := i } else s.at j := by
      rw [heq]
      exact recordAt_placed _ _ _ _
    rw [State.hasMark_eq, State.hasMark_eq, hat]
    split
    next hd =>
      subst hd
      have hfree : ((s.at d).any fun q => q.kind.isCliff && q.check = some m) = false := by
        obtain ⟨hfree, -⟩ | ⟨-, v, ⟨hv, hunprotected, -⟩, rfl, -⟩ := hi
        · have hnone : s.at d = none := (recordAt_eq_none_iff _ _).2 ((freeIn_iff _ _ _).1 hfree).2
          rw [hnone]
          rfl
        · have hhere : s.at v.slot = some v := (recordAt_eq_some_iff h.slots _ _).2 ⟨hv, rfl⟩
          rw [hhere, Option.any_some, Bool.eq_false_iff]
          intro hmark
          obtain ⟨hcliff, hcheck⟩ := Bool.and_eq_true_iff.1 hmark
          have hchecking : v.checking = true := by
            obtain rfl | rfl := hm
            · simp [Record.checking, of_decide_eq_true hcheck]
            · simp [Record.checking, of_decide_eq_true hcheck]
          simp [Record.protected, hcliff, hchecking] at hunprotected
      rw [hfree]
      exact hk
    · rfl
  · have htable := congrArg (fun t : TableManager => recordAt t.records d) s.refused_table
    have hat : (s.placeRecord r).1.at d = s.at d := by
      rw [heq]
      exact htable
    rw [State.hasMark_eq, State.hasMark_eq, hat]

theorem placeRecord_steady (s : State) (r : Record) : Steady s (s.placeRecord r).1 := by
  unfold State.placeRecord
  split
  · exact .of_eq rfl rfl
  · split
    · exact .of_eq rfl rfl
    · exact Steady.trans (t := s.handing fun t => t.setTable { t.table with full := true })
        (handing_steady (.of_eq rfl rfl)) ⟨rfl, rfl, rfl⟩

theorem mergeOrCreate_steady (s : State) (kind : Hazard) (o : Origin) (p : Int × Int) (rc : Recon) :
    Steady s (s.mergeOrCreate kind o p rc).state := by
  unfold State.mergeOrCreate
  split
  · exact .of_eq rfl rfl
  · exact placeRecord_steady _ _

theorem Record.mergeOwn_check_of_not_cliff {kind : Hazard} (hk : kind.isCliff = false) (r : Record) (o : Origin)
    (p : Int × Int) (rc : Recon) : (r.mergeOwn kind o p rc).kind = kind ∧ (r.mergeOwn kind o p rc).check = none :=
  ⟨rfl, if_neg (by rw [hk]; exact Bool.false_ne_true)⟩

/-- An observation of another kind than CLIFF leaves the marks of the checks (R56, R58). -/
theorem State.mergeOrCreate_hasMark {s : State} (h : s.Sound) (hord : s.table.Ordered) {kind : Hazard}
    (hk : kind.isCliff = false) (o : Origin) (p : Int × Int) (rc : Recon) {m : CheckMark}
    (hm : m = .pending ∨ m = .deferred) (d : Slot) : (s.mergeOrCreate kind o p rc).state.hasMark d m = s.hasMark d m := by
  unfold State.mergeOrCreate
  split
  next r hr =>
    obtain ⟨hmem, hkind⟩ := mem_of_nearest hr
    have hcliff : r.kind.isCliff = false := by
      rw [Bool.eq_false_iff]
      intro hrk
      rw [Hazard.isCliff_iff] at hrk
      simp [hrk, Hazard.sameKind, hk, Hazard.isRug, Hazard.isObstacle, Hazard.isDock] at hkind
    obtain ⟨hkind', -⟩ := Record.mergeOwn_check_of_not_cliff hk r o p rc
    have hat : (s.putRecord (r.mergeOwn kind o p rc)).at d =
        if d = r.slot then some (r.mergeOwn kind o p rc) else s.at d := by
      refine (recordAt_updateRecord _ _ _).trans ?_
      by_cases hd : d = r.slot
      · rw [if_pos hd, hd, (recordAt_eq_some_iff h.slots _ _).2 ⟨hmem, rfl⟩]
        exact if_pos rfl
      · rw [if_neg hd]
        exact if_neg hd
    rw [State.hasMark_eq, State.hasMark_eq, hat]
    split
    next hd =>
      have hhere : s.at d = some r := (recordAt_eq_some_iff h.slots _ _).2 ⟨hmem, hd.symm⟩
      rw [hhere, Option.any_some, Option.any_some, hkind', hk, hcliff, Bool.false_and, Bool.false_and]
    · rfl
  · exact State.placeRecord_hasMark h hord (r := ownRecord kind o p rc)
      (by rw [show (ownRecord kind o p rc).kind.isCliff = false from hk, Bool.false_and]) hm d

/-! ### The service of floor evidence -/

/-- The records that floor evidence at a point leaves (R61). -/
def State.floorCleared (s : State) (p : Int × Int) : State :=
  s.setRecords (s.table.records.filter fun r => !clearedBy p r)

section
variable {s : State} (p : Int × Int)

theorem State.floorCleared_sound (h : s.Sound) : (s.floorCleared p).Sound := h.sublist List.filter_sublist

theorem State.floorCleared_ordered (h : s.table.Ordered) : (s.floorCleared p).table.Ordered :=
  h.sublist List.filter_sublist

/-- A record that stands after floor evidence is the one that stood before (R61). -/
theorem State.floorCleared_at_of_some (h : s.Sound) {i : Slot} {r : Record} (hr : (s.floorCleared p).at i = some r) :
    s.at i = some r := by
  obtain ⟨hmem, hslot⟩ := mem_of_recordAt hr
  exact (recordAt_eq_some_iff h.slots _ _).2 ⟨List.mem_of_mem_filter hmem, hslot⟩

end

/-- The state that floor evidence leaves, with the observation's RUG merged or created (R61). -/
def State.evidenced (s : State) (rug : Option Hazard) (o : Origin) (p : Int × Int) (rc : Recon) : Served :=
  match rug with
  | some kind => if rangeLimit < rangeOf p.1 p.2 then { state := s.floorCleared p }
      else (s.floorCleared p).mergeOrCreate kind o p rc
  | none => { state := s.floorCleared p }

theorem State.evidenced_of_far {p : Int × Int} (hp : rangeLimit < rangeOf p.1 p.2) (s : State) (kind : Hazard)
    (o : Origin) (rc : Recon) : s.evidenced (some kind) o p rc = { state := s.floorCleared p } := if_pos hp

theorem State.evidenced_of_near {p : Int × Int} (hp : rangeOf p.1 p.2 ≤ rangeLimit) (s : State) (kind : Hazard)
    (o : Origin) (rc : Recon) : s.evidenced (some kind) o p rc = (s.floorCleared p).mergeOrCreate kind o p rc :=
  if_neg (not_lt.2 hp)

theorem State.serveEvidence_state (s : State) (rug : Option Hazard) (o : Origin) (x y : Int) (tag : Option Seq) :
    (s.serveEvidence rug o x y tag).state =
      (s.evidenced rug o ((s.reconcile tag).point x y) (s.reconcile tag)).state := by
  unfold State.serveEvidence State.evidenced
  dsimp only
  cases rug with
  | none => rfl
  | some kind =>
    dsimp only
    split <;> rfl

section
variable {s : State} (h : s.Sound) (hord : s.table.Ordered) {rug : Option Hazard}
  (hrug : ∀ kind, rug = some kind → kind.isCliff = false) (o : Origin) (x y : Int) (tag : Option Seq)
include h hord hrug

/-- Floor evidence leaves the check of each CLIFF it does not retire (R61, R67). -/
theorem State.serveEvidence_hasMark {m : CheckMark} (hm : m = .pending ∨ m = .deferred) (d : Slot) :
    (s.serveEvidence rug o x y tag).state.hasMark d m = (s.floorCleared ((s.reconcile tag).point x y)).hasMark d m := by
  rw [State.serveEvidence_state]
  unfold State.evidenced
  cases rug with
  | none => rfl
  | some kind =>
    dsimp only
    split
    · rfl
    · exact State.mergeOrCreate_hasMark (State.floorCleared_sound _ h) (State.floorCleared_ordered _ hord) (hrug kind rfl)
        o _ _ hm d

omit h hord hrug in
theorem State.serveEvidence_steady : Steady s (s.serveEvidence rug o x y tag).state := by
  rw [State.serveEvidence_state]
  unfold State.evidenced
  cases rug with
  | none => exact .of_eq rfl rfl
  | some kind =>
    dsimp only
    split
    · exact .of_eq rfl rfl
    · exact Steady.trans (t := s.floorCleared ((s.reconcile tag).point x y)) (.of_eq rfl rfl) (mergeOrCreate_steady _ _ _ _ _)

/-- A check whose record floor evidence retires ends, and the candidate takes it over or is dropped (R61, R72, R108). -/
theorem complete_serveEvidence_ends {c : Slot} (hphase : s.report.phase ≠ .idle) (hc : s.report.outstanding = some c)
    (hgone : (s.floorCleared ((s.reconcile tag).point x y)).at c = none) :
    CheckEnds (fun d => (s.floorCleared ((s.reconcile tag).point x y)).hasMark d .deferred) s
      (s.complete (s.serveEvidence rug o x y tag)) := by
  have hends := State.complete_checkEnds (s := s) (State.serveEvidence_sound h hord rug o x y tag) (by simp)
    (serveEvidence_recordsOnly s rug o x y tag) (by simp) (State.serveEvidence_steady o x y tag).2.2
    (State.serveEvidence_starts s rug o x y tag) hphase hc (by
      rw [State.serveEvidence_hasMark h hord hrug o x y tag (.inl rfl), State.hasMark_eq, hgone]
      rfl)
  rw [funext fun d => State.serveEvidence_hasMark h hord hrug o x y tag (m := .deferred) (.inr rfl) d] at hends
  exact hends

/-- A candidate that floor evidence retires is dropped, and the check it waited for goes on (R72, R109). -/
theorem complete_serveEvidence_drops {c d : Slot} (hc : s.report.outstanding = some c)
    (hd : s.report.deferred = some d) (hpending : (s.floorCleared ((s.reconcile tag).point x y)).hasMark c .pending = true)
    (hfalls : (s.floorCleared ((s.reconcile tag).point x y)).hasMark d .deferred = false) :
    let t := s.complete (s.serveEvidence rug o x y tag)
    t.report.deferred = none ∧ t.report.outstanding = some c ∧ t.report.phase = s.report.phase := by
  have hsound := State.serveEvidence_sound h hord rug o x y tag
  have hreport : (s.serveEvidence rug o x y tag).sorted.report = s.report := by
    refine Eq.trans (b := (s.serveEvidence rug o x y tag).state.report) rfl ?_
    simp
  have hmark {m : CheckMark} (hm : m = .pending ∨ m = .deferred) (d : Slot) :
      (s.serveEvidence rug o x y tag).sorted.hasMark d m =
        (s.floorCleared ((s.reconcile tag).point x y)).hasMark d m :=
    (Served.sorted_hasMark hsound d m).trans (State.serveEvidence_hasMark h hord hrug o x y tag hm d)
  have hstays : (s.serveEvidence rug o x y tag).sorted.checkGone = false := by
    rw [State.checkGone, hreport, hc, Option.any_some, hmark (.inl rfl), hpending]
    simp
  have hsettled := State.settleChecks_of_stays hstays
  obtain ⟨ages, hquiet⟩ := State.complete_report_of_quiet (s := s) (v := s.serveEvidence rug o x y tag) (by
    rw [hsettled, State.serveEvidence_starts]
    rfl)
  have hdropped : (s.serveEvidence rug o x y tag).sorted.settleChecks.1.report = { s.report with deferred := none } := by
    rw [hsettled, State.dropDeferral_report, hreport, hd, Option.any_some, hmark (.inr rfl), hfalls]
    rfl
  dsimp only
  rw [hquiet, hdropped]
  exact ⟨rfl, hc, rfl⟩

/-- What floor evidence makes of the check, whether its record or the candidate's goes (R72, R108, R109). -/
theorem complete_serveEvidence_checks (hrs : (s.floorCleared ((s.reconcile tag).point x y)).table.records =
      s.table.records.filter fun r => !(r.kind.isCliff &&
        decide (cheb r.x r.y ((s.reconcile tag).point x y).1 ((s.reconcile tag).point x y).2 ≤ 30))) :
    let p := (s.reconcile tag).point x y
    let rs := s.table.records.filter fun r => !(r.kind.isCliff && decide (cheb r.x r.y p.1 p.2 ≤ 30))
    let still := fun d : Slot => (recordAt rs d).any fun q => q.kind = .cliff ∧ q.check = some .deferred
    let t := s.complete (s.serveEvidence rug o x y tag)
    (∀ c, s.report.phase ≠ .idle → s.report.outstanding = some c → s.hasMark c .pending = true →
      recordAt rs c = none → CheckEnds still s t) ∧
    (∀ c d, s.report.outstanding = some c → s.report.deferred = some d → recordAt rs c ≠ none →
      s.hasMark c .pending = true → still d = false →
      t.report.deferred = none ∧ t.report.outstanding = some c ∧ t.report.phase = s.report.phase) := by
  dsimp only
  rw [← hrs]
  have hstill (d : Slot) : ((recordAt (s.floorCleared ((s.reconcile tag).point x y)).table.records d).any fun q =>
      q.kind = .cliff ∧ q.check = some .deferred) =
      (s.floorCleared ((s.reconcile tag).point x y)).hasMark d .deferred := by
    rw [State.hasMark_eq]
    refine congrArg (fun f => Option.any f _) (funext fun q => ?_)
    rw [Bool.eq_iff_iff]
    simp
  refine ⟨fun c hphase hc _ hgone => ?_, fun c d hc hd hstands hpending hfalls => ?_⟩
  · rw [funext hstill]
    exact complete_serveEvidence_ends h hord hrug o x y tag hphase hc hgone
  · refine complete_serveEvidence_drops h hord hrug o x y tag hc hd ?_ ((hstill d).symm.trans hfalls)
    obtain ⟨q, hq⟩ := Option.ne_none_iff_exists'.1 hstands
    have hbefore := State.floorCleared_at_of_some _ h (show (s.floorCleared _).at c = some q from hq)
    rw [State.hasMark_eq, show (s.floorCleared ((s.reconcile tag).point x y)).at c = some q from hq, ← hbefore,
      ← State.hasMark_eq, hpending]

end

/-! ### The service of a wall-clear observation -/

/-- What a clear sample makes of one record (R62). -/
theorem Record.clearedOnce_eq {r : Record} (h : r.FieldsOk) (mx my ax ay : Int) : r.clearedOnce mx my ax ay =
    let p := roundDiv ((r.x - mx) * ax + (r.y - my) * ay) 16384
    let q := roundDiv ((r.y - my) * ax - (r.x - mx) * ay) 16384
    if r.kind = .obstacle ∧ r.own = some .wall ∧ 20 ≤ p ∧ p ≤ 600 ∧ q.natAbs ≤ 40 then
      if r.clearRun = some 2 then none else some { r with clearRun := r.clearRun.map (· + 1) }
    else some r := by
  obtain ⟨-, -, -, -, hwall, hmax, -⟩ := h
  have hin : (r.isOwnWall && inBeam mx my ax ay r) = true ↔ r.kind = .obstacle ∧ r.own = some .wall ∧
      20 ≤ roundDiv ((r.x - mx) * ax + (r.y - my) * ay) 16384 ∧
      roundDiv ((r.x - mx) * ax + (r.y - my) * ay) 16384 ≤ 600 ∧
      (roundDiv ((r.y - my) * ax - (r.x - mx) * ay) 16384).natAbs ≤ 40 := by
    simp [Record.isOwnWall, inBeam, Hazard.isObstacle_iff, and_assoc]
  have hsize : clearRunMax = 3 := rfl
  dsimp only
  by_cases hbeam : (r.isOwnWall && inBeam mx my ax ay r) = true
  · have hown := (Bool.and_eq_true_iff.1 hbeam).1
    obtain ⟨n, hn⟩ := Option.isSome_iff_exists.1 (hwall.2 hown)
    have honce : r.clearOnce mx my ax ay = { r with clearRun := some (n + 1) } := by
      rw [Record.clearOnce, if_pos hbeam, hn]
      rfl
    have hout : ({ r with clearRun := some (n + 1) } : Record).clearedOut = decide (3 ≤ n + 1) :=
      (congrArg (· && _) hown).trans (Bool.true_and _)
    have hlast := hmax n hn
    rw [if_pos (hin.1 hbeam), Record.clearedOnce, honce, hout, hn]
    by_cases htwo : n = 2
    · rw [if_pos (by simp [htwo]), if_pos (by rw [htwo])]
    · rw [if_neg (by simp; omega), if_neg (by simpa using htwo)]
      rfl
  · have honce : r.clearOnce mx my ax ay = r := if_neg hbeam
    have hin' : r.clearedOut = false := by
      cases hrun : r.clearRun with
      | none => simp [Record.clearedOut, hrun, hsize]
      | some n =>
        have hlast := hmax n hrun
        simp [Record.clearedOut, hrun, hsize]
        omega
    rw [if_neg (mt hin.2 hbeam), Record.clearedOnce, honce, hin']
    rfl

theorem State.serveClear_at {s : State} (h : s.Sound) (mx my ax ay : Int) (i : Slot) :
    (s.serveClear mx my ax ay).state.at i = (s.at i).bind (Record.clearedOnce mx my ax ay) := by
  rw [State.serveClear_records]
  exact recordAt_filterMap (fun _ _ => Record.slot_of_clearedOnce) h.slots i

theorem Hazard.sameKind_rug (shade : Shade) (k : Hazard) : k.sameKind (.rug shade) = k.isRug := by
  cases k <;> rfl

/-- The wall part of O42. -/
theorem serveWallClear_acts {s : State} {mx my ax ay : Int} {tag : Option Seq} (hrun : s.running = true)
    (htable : s.TableOk) (hwork : s.table.work = .serving (.wallClear mx my ax ay tag)) :
    Completes .serveWallClear s fun t =>
      (∀ i, t.coreAt i = ((s.at i).bind fun r =>
        let p := roundDiv ((r.x - mx) * ax + (r.y - my) * ay) 16384
        let q := roundDiv ((r.y - my) * ax - (r.x - mx) * ay) 16384
        if r.kind = .obstacle ∧ r.own = some .wall ∧ 20 ≤ p ∧ p ≤ 600 ∧ q.natAbs ≤ 40 then
          if r.clearRun = some 2 then none else some { r with clearRun := r.clearRun.map (· + 1) }
        else some r).map Record.core) ∧
      t.table.tag = s.table.tag ∧ t.table.Ordered ∧
      UnchangedBut [.table, .report, .link, .clear, .startup] s t := by
  have hok := htable.recordsOk
  have hsound := State.serveClear_sound hok.sound mx my ax ay
  have hserved : s.serveWallClear = s.complete (s.serveClear mx my ax ay) := by
    unfold State.serveWallClear
    rw [hwork]
    exact if_pos hrun
  refine ⟨_, congrArg Host.Outcome.next hserved, fun i => ?_, ?_, State.complete_ordered hsound, ?_⟩
  · rw [State.complete_coreAt hsound, State.coreAt, State.serveClear_at hok.sound]
    refine congrArg (Option.map Record.core) (Option.bind_congr fun r hr => ?_)
    exact Record.clearedOnce_eq (hok.sound.fields r (mem_of_recordAt hr).1) mx my ax ay
  · rw [(s.complete_tag_full _).1, State.serveClear_records]
    rfl
  · exact UnchangedBut.trans (fun b hb => by cases b <;> simp [Block.same] at hb ⊢) (s.complete_unchanged _)

/-- Settles O42: floor evidence retires the CLIFFs near its point, with what that makes of the check, and a clear wall
sample ends the records whose clear run reaches 3. -/
theorem ownClearingRetiresRecords : Obligations.OwnClearingRetiresRecords := by
  refine ⟨fun s x y tag hrun htable => ⟨fun hwork => ?_, fun shade origin _ hwork => ?_⟩,
    fun s mx my ax ay tag hrun htable hwork => serveWallClear_acts hrun htable hwork⟩
  · have hok := htable.recordsOk
    have hsound := State.serveEvidence_sound hok.sound hok.ordered none .floor x y tag
    have hserved : s.serveFloorEvidence = s.complete (s.serveEvidence none .floor x y tag) := by
      unfold State.serveFloorEvidence
      rw [hwork]
      exact if_pos hrun
    refine ⟨_, congrArg Host.Outcome.next hserved, fun i => ?_, State.complete_ordered hsound,
      complete_serveEvidence_checks hok.sound hok.ordered (by simp) .floor x y tag rfl, ?_⟩
    · rw [State.complete_coreAt hsound]
      rfl
    · exact UnchangedBut.trans (fun b hb => by cases b <;> simp [Block.same] at hb ⊢) (s.complete_unchanged _)
  · have hok := htable.recordsOk
    have hsound := State.serveEvidence_sound hok.sound hok.ordered (some (.rug shade)) origin x y tag
    have hserved : s.serveFloorEvidence = s.complete (s.serveEvidence (some (.rug shade)) origin x y tag) := by
      unfold State.serveFloorEvidence
      rw [hwork]
      exact if_pos (by simp [hrun, Hazard.isRug])
    have hcleared := State.floorCleared_sound ((s.reconcile tag).point x y) hok.sound
    have hstate := s.serveEvidence_state (some (.rug shade)) origin x y tag
    have hkind : (fun q : Record => q.kind.sameKind (.rug shade)) = fun q => q.kind.isRug :=
      funext fun q => Hazard.sameKind_rug shade q.kind
    refine ⟨_, congrArg Host.Outcome.next hserved, fun hp i => ?_, fun hp => ⟨fun r hr => ?_, fun hnone => ?_⟩,
      State.complete_ordered hsound,
      complete_serveEvidence_checks hok.sound hok.ordered (by simp [Hazard.isCliff]) origin x y tag rfl, ?_⟩
    · rw [State.complete_coreAt hsound, hstate, State.evidenced_of_far hp]
      rfl
    · refine Merged.complete hsound ?_
      rw [hstate, State.evidenced_of_near hp]
      exact State.mergeOrCreate_merged hcleared (by rw [hkind]; exact hr) (by simp)
    · refine Created.complete hsound ?_
      rw [hstate, State.evidenced_of_near hp]
      have hconf : ownCreateConf (.rug shade) origin = 3 := by simp_all [ownCreateConf, Hazard.isDock]
      rw [← hconf]
      exact State.mergeOrCreate_created hcleared (State.floorCleared_ordered _ hok.ordered) rfl (by rw [hkind]; exact hnone)
    · exact UnchangedBut.trans (fun b hb => by cases b <;> simp [Block.same] at hb ⊢) (s.complete_unchanged _)

end Sys2Proof.Machine
end

section
/-! PROOFS. What an own CLIFF observation makes of its record and of the check (R59, R99, R100). -/

namespace Sys2Proof.Machine

open Sys2Proof

/-! ### The decision on a created CLIFF -/

/-- The created CLIFF under the decision on its check (R59, R99). -/
def Record.decided (q : Record) : Decision → Record
  | .start => { q with check := some .pending }
  | .defer => { q with check := some .deferred }
  | .force => { q with conf := max q.conf confirmedAt }

theorem Record.decided_slot (q : Record) (d : Decision) : (q.decided d).slot = q.slot := by cases d <;> rfl

theorem ReportHandler.decide_eq_start_iff (r : ReportHandler) : r.decide = .start ↔ r.phase = .idle := by
  unfold ReportHandler.decide
  by_cases hphase : r.phase = .idle
  · simp [hphase]
  · by_cases hd : r.deferred = none <;> simp [hphase, hd]

theorem ReportHandler.decide_eq_defer_iff (r : ReportHandler) :
    r.decide = .defer ↔ r.phase ≠ .idle ∧ r.deferred = none := by
  unfold ReportHandler.decide
  by_cases hphase : r.phase = .idle
  · simp [hphase]
  · by_cases hd : r.deferred = none <;> simp [hphase, hd]

theorem ReportHandler.decide_eq_force_iff (r : ReportHandler) :
    r.decide = .force ↔ r.phase ≠ .idle ∧ r.deferred ≠ none := by
  unfold ReportHandler.decide
  by_cases hphase : r.phase = .idle
  · simp [hphase]
  · by_cases hd : r.deferred = none <;> simp [hphase, hd]

section
variable {u : State} {i : Slot} {q : Record} (hq : u.at i = some q)
include hq

theorem State.decideCheck_at (j : Slot) :
    (u.decideCheck i).at j = if j = i then some (q.decided u.report.decide) else u.at j := by
  unfold State.decideCheck
  cases hdec : u.report.decide with
  | start => exact State.markCheck_at (s := u.setReport (u.report.takeCheck i)) hq .pending j
  | defer => exact State.markCheck_at (s := u.setReport { u.report with deferred := some i }) hq .deferred j
  | force =>
    obtain ⟨-, hslot⟩ := mem_of_recordAt hq
    dsimp only
    rw [show recordAt u.table.records i = some q from hq]
    refine (recordAt_updateRecord _ _ _).trans ?_
    subst hslot
    by_cases hj : j = q.slot
    · rw [if_pos hj, hj, show recordAt u.table.records q.slot = some q from hq]
      exact (if_pos rfl).symm
    · rw [if_neg hj]
      exact (if_neg hj).symm

omit hq in
theorem State.decideCheck_report : (u.decideCheck i).report =
    match u.report.decide with
    | .start => u.report.takeCheck i
    | .defer => { u.report with deferred := some i }
    | .force => u.report := by
  unfold State.decideCheck
  cases u.report.decide with
  | start => exact State.markCheck_report _ _ _
  | defer => exact State.markCheck_report _ _ _
  | force =>
    dsimp only
    split <;> rfl

omit hq in
theorem State.decideCheck_queue_startup :
    (u.decideCheck i).link.queue = u.link.queue ∧ (u.decideCheck i).startup = u.startup := by
  unfold State.decideCheck
  cases u.report.decide with
  | start => exact ⟨by simp, by simp⟩
  | defer => exact ⟨by simp, by simp⟩
  | force =>
    dsimp only
    split <;> exact ⟨rfl, rfl⟩

omit hq in
/-- A forced confirmation is counted (R99, R176). -/
theorem State.decideCheck_checkForced (hforce : u.report.decide = .force) :
    (u.decideCheck i).link.counts.checkForced = satInc u.link.counts.checkForced := by
  unfold State.decideCheck
  rw [hforce]
  dsimp only
  split <;> rfl

end

/-! ### The service of an own CLIFF -/

section
variable (s : State) (o : Origin) (p : Int × Int) (rc : Recon) (i : Slot)

/-- The state with a CLIFF created in a slot (R58). -/
def State.cliffCreated : State := s.setRecords (placed s.table.records i (ownRecord .cliff o p rc))

/-- The CLIFF created in a slot, before the decision on its check. -/
def cliffIn : Record := { ownRecord .cliff o p rc with slot := i }

theorem cliffCreated_at (j : Slot) :
    (s.cliffCreated o p rc i).at j = if j = i then some (cliffIn o p rc i) else s.at j := recordAt_placed _ _ _ _

theorem cliffCreated_at_self : (s.cliffCreated o p rc i).at i = some (cliffIn o p rc i) := by
  rw [cliffCreated_at, if_pos rfl]

/-- The service that created a CLIFF in a slot and decided on its check (R59, R99). -/
def State.cliffDecided : Served :=
  { state := (s.cliffCreated o p rc i).decideCheck i, starts := s.report.decide = .start }

theorem cliffDecided_at (j : Slot) : (s.cliffDecided o p rc i).state.at j =
    if j = i then some ((cliffIn o p rc i).decided s.report.decide) else s.at j := by
  refine (State.decideCheck_at (cliffCreated_at_self s o p rc i) j).trans ?_
  rw [cliffCreated_at]
  by_cases hj : j = i
  · rw [if_pos hj, if_pos hj]
    rfl
  · rw [if_neg hj, if_neg hj, if_neg hj]

theorem cliffDecided_report : (s.cliffDecided o p rc i).state.report =
    match s.report.decide with
    | .start => s.report.takeCheck i
    | .defer => { s.report with deferred := some i }
    | .force => s.report := State.decideCheck_report

end

section
variable {s : State} (o : Origin) {x y : Int} {tag : Option Seq}

theorem serveCliff_of_far (hp : rangeLimit < rangeOf ((s.reconcile tag).point x y).1 ((s.reconcile tag).point x y).2) :
    s.serveCliff o x y tag = { state := s } := if_pos hp

variable (hp : rangeOf ((s.reconcile tag).point x y).1 ((s.reconcile tag).point x y).2 ≤ rangeLimit)
include hp

theorem serveCliff_of_rug {r : Record} (hr : overruleTarget s.table.records ((s.reconcile tag).point x y).1
      ((s.reconcile tag).point x y).2 = some r) : s.serveCliff o x y tag =
    { state := (s.putRecord (r.mergeOwn (.rug .dark) .floor ((s.reconcile tag).point x y)
        (s.reconcile tag))).overruleClass, merged := some r.slot } := by
  unfold State.serveCliff
  dsimp only
  rw [if_neg (not_lt.2 hp), hr]

variable (hrug : overruleTarget s.table.records ((s.reconcile tag).point x y).1 ((s.reconcile tag).point x y).2 = none)
include hrug

theorem serveCliff_of_cliff {r : Record} (hr : mergeTarget s.table.records .cliff ((s.reconcile tag).point x y).1
      ((s.reconcile tag).point x y).2 = some r) : s.serveCliff o x y tag =
    { state := s.putRecord (r.mergeOwn .cliff o ((s.reconcile tag).point x y) (s.reconcile tag))
      merged := some r.slot } := by
  unfold State.serveCliff
  dsimp only
  rw [if_neg (not_lt.2 hp), hrug]
  dsimp only
  rw [hr]

variable (hcliff : mergeTarget s.table.records .cliff ((s.reconcile tag).point x y).1 ((s.reconcile tag).point x y).2 =
  none)
include hcliff

theorem serveCliff_of_refused (h : s.Sound) (hord : s.table.Ordered) (hrefused : IsRefused s.table.good s.table.records
      (rangeOf ((s.reconcile tag).point x y).1 ((s.reconcile tag).point x y).2)) :
    s.serveCliff o x y tag = { state := s.refused } := by
  obtain ⟨i, hi, -⟩ | ⟨-, heq⟩ := State.placeRecord_cases h.slots hord
    (ownRecord .cliff o ((s.reconcile tag).point x y) (s.reconcile tag))
  · exact absurd hrefused hi.not_refused
  · unfold State.serveCliff
    dsimp only
    rw [if_neg (not_lt.2 hp), hrug]
    dsimp only
    rw [hcliff]
    dsimp only
    rw [heq]

theorem serveCliff_of_slot (h : s.Sound) (hord : s.table.Ordered) {i : Slot} (hi : TakesSlot s.table.good s.table.records
      (rangeOf ((s.reconcile tag).point x y).1 ((s.reconcile tag).point x y).2) i) :
    s.serveCliff o x y tag = s.cliffDecided o ((s.reconcile tag).point x y) (s.reconcile tag) i := by
  obtain ⟨j, hj, heq⟩ | ⟨hrefused, -⟩ := State.placeRecord_cases h.slots hord
    (ownRecord .cliff o ((s.reconcile tag).point x y) (s.reconcile tag))
  · obtain rfl := hi.unique h.slots hj
    unfold State.serveCliff
    dsimp only
    rw [if_neg (not_lt.2 hp), hrug]
    dsimp only
    rw [hcliff]
    dsimp only
    rw [heq]
    rfl
  · exact absurd hrefused hi.not_refused

end

/-! ### The created CLIFF at the completion -/

theorem refresh_table (before : State) (m : Option Slot) (u : State) : (State.refresh before m u).table = u.table := by
  unfold State.refresh
  split
  · split
    · exact State.sendReport_table _ _ _ _
    · rfl
  · rfl

/-- The record of each slot after the report frames (R66). -/
theorem reportsOf_at (s : State) (v : Served) (u : State) (j : Slot) :
    (s.reportsOf v u).at j = (u.at j).map (Record.afterEvent s v.applied) := by
  rw [← emitEvents_at s v.withdrawn v.applied u j, State.reportsOf, State.at, refresh_table]
  rfl

section
variable {s : State} (h : s.Sound) {o : Origin} {p : Int × Int} {rc : Recon} {i : Slot}
  (hi : TakesSlot s.table.good s.table.records (rangeOf p.1 p.2) i)
include h hi

/-- The slot that a creation takes holds no CLIFF under check (R67). -/
theorem TakesSlot.no_mark {m : CheckMark} (hm : m = .pending ∨ m = .deferred) : s.hasMark i m = false := by
  rw [State.hasMark_eq]
  obtain ⟨hfree, -⟩ | ⟨-, v, ⟨hv, hunprotected, -⟩, rfl, -⟩ := hi
  · rw [show s.at i = none from (recordAt_eq_none_iff _ _).2 ((freeIn_iff _ _ _).1 hfree).2]
    rfl
  · rw [show s.at v.slot = some v from (recordAt_eq_some_iff h.slots _ _).2 ⟨hv, rfl⟩, Option.any_some, Bool.eq_false_iff]
    intro hmark
    obtain ⟨hcliff, hcheck⟩ := Bool.and_eq_true_iff.1 hmark
    have hchecking : v.checking = true := by
      obtain rfl | rfl := hm
      · simp [Record.checking, of_decide_eq_true hcheck]
      · simp [Record.checking, of_decide_eq_true hcheck]
    simp [Record.protected, hcliff, hchecking] at hunprotected

/-- The created record is not what its slot held. -/
theorem TakesSlot.at_ne {q : Record} (hq : q.range = rangeOf p.1 p.2) : s.at i ≠ some q := by
  obtain ⟨hfree, -⟩ | ⟨-, v, ⟨hv, -⟩, rfl, hfar⟩ := hi
  · rw [show s.at i = none from (recordAt_eq_none_iff _ _).2 ((freeIn_iff _ _ _).1 hfree).2]
    exact nofun
  · rw [show s.at v.slot = some v from (recordAt_eq_some_iff h.slots _ _).2 ⟨hv, rfl⟩]
    rintro ⟨rfl⟩
    exact absurd hq.le (not_le.2 hfar)

omit h hi in
theorem decided_created (d : Decision) : ((cliffIn o p rc i).decided d).range = rangeOf p.1 p.2 ∧
    ((cliffIn o p rc i).decided d).kind = .cliff ∧ ((cliffIn o p rc i).decided d).own = some o ∧
    ((cliffIn o p rc i).decided d).reported = false := by
  cases d <;> exact ⟨rfl, rfl, rfl, rfl⟩

/-- A created CLIFF earns an ADD (R66). -/
theorem eventOf_decided (d : Decision) :
    eventOf s.table.records none ((cliffIn o p rc i).decided d) = some .add := by
  obtain ⟨hrange, hkind, hown, hreported⟩ := decided_created (o := o) (p := p) (rc := rc) (i := i) d
  have hslot : ((cliffIn o p rc i).decided d).slot = i := Record.decided_slot _ _
  have hnew := TakesSlot.at_ne h hi hrange
  unfold eventOf
  dsimp only
  rw [hslot, hown, hreported, hkind]
  rw [State.at] at hnew
  simp [hnew, Hazard.isCliff]

variable (o p rc) (hgone : s.checkGone = false)
include hgone

/-- The check that is outstanding goes on when a CLIFF is created (R67, R99). -/
theorem cliffDecided_checkGone (hsound : (s.cliffDecided o p rc i).state.Sound) :
    (s.cliffDecided o p rc i).sorted.checkGone = false := by
  have hreport : (s.cliffDecided o p rc i).sorted.report = (s.cliffDecided o p rc i).state.report := rfl
  have hmark (c : Slot) (hc : s.hasMark c .pending = true) :
      (s.cliffDecided o p rc i).sorted.hasMark c .pending = true := by
    have hci : c ≠ i := by
      rintro rfl
      rw [TakesSlot.no_mark h hi (.inl rfl)] at hc
      cases hc
    rw [Served.sorted_hasMark hsound, State.hasMark_eq, cliffDecided_at, if_neg hci, ← State.hasMark_eq, hc]
  have hstays (hphase : s.report.phase ≠ .idle) : (s.report.outstanding.any fun c => s.hasMark c .pending) = true := by
    have hchecking : s.report.isChecking = true := decide_eq_true hphase
    rw [State.checkGone, hchecking, Bool.true_and, Bool.not_eq_false'] at hgone
    exact hgone
  have hkept (hphase : s.report.phase ≠ .idle) : (s.report.outstanding.any fun c =>
      (s.cliffDecided o p rc i).sorted.hasMark c .pending) = true := by
    obtain ⟨c, hc, hpending⟩ := (Option.any_eq_true _ _).1 (hstays hphase)
    exact (Option.any_eq_true _ _).2 ⟨c, hc, hmark c hpending⟩
  rw [State.checkGone, hreport, cliffDecided_report]
  cases hdec : s.report.decide with
  | start =>
    have hphase := (ReportHandler.decide_eq_start_iff _).1 hdec
    simp [ReportHandler.takeCheck, ReportHandler.isChecking, hphase]
  | defer =>
    have hphase := ((ReportHandler.decide_eq_defer_iff _).1 hdec).1
    dsimp only
    rw [hkept hphase, Bool.not_true, Bool.and_false]
  | force =>
    have hphase := ((ReportHandler.decide_eq_force_iff _).1 hdec).1
    dsimp only
    rw [hkept hphase, Bool.not_true, Bool.and_false]

/-- The slots when the checks have been settled. -/
theorem cliffDecided_settled_at (hsound : (s.cliffDecided o p rc i).state.Sound) (j : Slot) :
    (s.cliffDecided o p rc i).sorted.settleChecks.1.at j =
      if j = i then some ((cliffIn o p rc i).decided s.report.decide) else s.at j := by
  rw [State.settleChecks_of_stays (cliffDecided_checkGone h o p rc hi hgone hsound), ← cliffDecided_at,
    ← Served.sorted_at hsound]
  exact congrArg (fun t : TableManager => recordAt t.records j) (State.dropDeferral_table _)

/-- The created CLIFF at the completion: reported, with the mark of the decision (R66, R99). -/
theorem complete_cliffDecided_at (hsound : (s.cliffDecided o p rc i).state.Sound) :
    (s.complete (s.cliffDecided o p rc i)).at i =
      some { (cliffIn o p rc i).decided s.report.decide with reported := true } := by
  have hsettled := cliffDecided_settled_at h o p rc hi hgone hsound i
  rw [if_pos rfl] at hsettled
  have happlied : (s.cliffDecided o p rc i).applied = none := rfl
  rw [State.complete_at, reportsOf_at, hsettled, Option.map_some, happlied,
    Record.afterEvent_of_some s none (eventOf_decided h hi _)]
  exact congrArg some (if_pos rfl)

/-- The ADD frame of the created CLIFF waits in the queue (R66, R93, R94). -/
theorem complete_cliffDecided_queued (hsound : (s.cliffDecided o p rc i).state.Sound) (hqueue : s.link.queue.length < 4) :
    Queued (reportFrame .add ((cliffIn o p rc i).decided s.report.decide) s.table.tag) true
      (s.complete (s.cliffDecided o p rc i)) := by
  have hsettled := cliffDecided_settled_at h o p rc hi hgone hsound
  have hroom : queueLoad (s.cliffDecided o p rc i).state.link.queue + s.framesOf (s.cliffDecided o p rc i) ≤
      txQueueSize := by
    have hsum : ∑ j, (s.cliffDecided o p rc i).sorted.settleChecks.1.framesHere s [] none j ≤
        ({i} : Finset Slot).card := by
      refine sum_framesHere_le _ fun j hj => ?_
      refine eventHere_of_at_eq ((hsettled j).trans (if_neg ?_))
      simpa using hj
    have hload := queueLoad_le s.link.queue
    have hsize : txQueueSize = 6 := rfl
    have hstarts := Bool.toNat_le
      ((s.cliffDecided o p rc i).starts || (s.cliffDecided o p rc i).sorted.settleChecks.2)
    have hqueue' : (s.cliffDecided o p rc i).state.link.queue = s.link.queue := State.decideCheck_queue_startup.1
    have hmerged : (s.cliffDecided o p rc i).merged = none := rfl
    rw [Finset.card_singleton] at hsum
    rw [hqueue', State.framesOf, hmerged, hsize]
    simp only [Option.isSome_none, Bool.toNat_false]
    change _ + (∑ j, (s.cliffDecided o p rc i).sorted.settleChecks.1.framesHere s [] none j + 0 + _) ≤ 6
    omega
  have hqueued := State.complete_event_queued hroom ((hsettled i).trans (if_pos rfl)) (eventOf_decided h hi _)
  have htag : (s.cliffDecided o p rc i).state.table.tag = s.table.tag := (decideCheck_recordsOnly _ i).tag
  rw [htag, (decided_created _).2.1] at hqueued
  exact hqueued

/-- The started check of the created CLIFF (R100). -/
theorem complete_cliffDecided_starts (hsound : (s.cliffDecided o p rc i).state.Sound)
    (hphase : s.report.phase = .idle) (hroom : s.table.fifo.length < fifoSize) :
    let t := s.complete (s.cliffDecided o p rc i)
    t.report.outstanding = some i ∧ t.report.checkId = some s.report.nextId ∧
    t.report.nextId = s.report.nextId + 1 ∧ t.report.awaited = s.awaitedSet ∧
    t.report.phase = (if s.awaitedSet = [] then .resolved else .awaiting) ∧
    t.report.checkTimer = if s.awaitedSet = [] then none else some checkTime := by
  have hdec := (ReportHandler.decide_eq_start_iff _).2 hphase
  have hsettled := State.settleChecks_of_stays (cliffDecided_checkGone h o p rc hi hgone hsound)
  have hat := cliffDecided_settled_at h o p rc hi hgone hsound i
  rw [if_pos rfl] at hat
  have hserved : (s.cliffDecided o p rc i).sorted.report = s.report.takeCheck i := by
    refine (cliffDecided_report s o p rc i).trans ?_
    rw [hdec]
  have hreport : (s.cliffDecided o p rc i).sorted.settleChecks.1.report = s.report.takeCheck i ∨
      (s.cliffDecided o p rc i).sorted.settleChecks.1.report = { s.report.takeCheck i with deferred := none } := by
    rw [hsettled, State.dropDeferral_report, hserved]
    split
    · exact .inr rfl
    · exact .inl rfl
  have htaken : (s.cliffDecided o p rc i).sorted.settleChecks.1.report.outstanding = some i ∧
      (s.cliffDecided o p rc i).sorted.settleChecks.1.report.checkId = some s.report.nextId ∧
      (s.cliffDecided o p rc i).sorted.settleChecks.1.report.nextId = s.report.nextId + 1 := by
    obtain hr | hr := hreport
    · rw [hr]
      exact ⟨rfl, rfl, rfl⟩
    · rw [hr]
      exact ⟨rfl, rfl, rfl⟩
  have hfifo : (s.cliffDecided o p rc i).sorted.settleChecks.1.table.fifo.length < fifoSize := by
    have hkept : (s.cliffDecided o p rc i).sorted.settleChecks.1.table.fifo = s.table.fifo := by
      rw [hsettled, State.dropDeferral_table]
      exact (decideCheck_recordsOnly _ i).fifo
    rw [hkept]
    exact hroom
  have hawaited : (s.cliffDecided o p rc i).sorted.settleChecks.1.awaitedSet = s.awaitedSet := by
    refine State.awaitedSet_congr ?_ ?_
    · rw [hsettled, State.dropDeferral_peers]
      exact State.decideCheck_peers _ i
    · rw [hsettled, State.dropDeferral_startup]
      exact congrArg Startup.pos (State.decideCheck_queue_startup (u := s.cliffCreated o p rc i) (i := i)).2
  obtain ⟨ages, hend⟩ := State.complete_report_of_start (s := s) (v := s.cliffDecided o p rc i) (by
    rw [hsettled]
    simp [State.cliffDecided, hdec]) htaken.1 hat htaken.2.1 hfifo
  dsimp only
  rw [hend, hawaited]
  exact ⟨htaken.1, htaken.2.1, htaken.2.2, rfl, rfl, rfl⟩

/-- The deferred check of the created CLIFF waits as the candidate (R99). -/
theorem complete_cliffDecided_defers (hsound : (s.cliffDecided o p rc i).state.Sound)
    (hdec : s.report.decide = .defer) : (s.complete (s.cliffDecided o p rc i)).report.deferred = some i := by
  have hsettled := State.settleChecks_of_stays (cliffDecided_checkGone h o p rc hi hgone hsound)
  have hserved : (s.cliffDecided o p rc i).sorted.report = { s.report with deferred := some i } := by
    refine (cliffDecided_report s o p rc i).trans ?_
    rw [hdec]
  have hkept : (s.cliffDecided o p rc i).sorted.dropDeferral = (s.cliffDecided o p rc i).sorted := by
    refine State.dropDeferral_of_stands fun d hd => ?_
    rw [hserved] at hd
    cases hd
    rw [Served.sorted_hasMark hsound, State.hasMark_eq, cliffDecided_at, if_pos rfl, hdec]
    rfl
  obtain ⟨ages, hend⟩ := State.complete_report_of_quiet (s := s) (v := s.cliffDecided o p rc i) (by
    rw [hsettled]
    simp [State.cliffDecided, hdec])
  rw [hend, hsettled, hkept, hserved]

end

/-- Confidence 8 when the confirmation is forced, and that of the observation otherwise (R58, R99). -/
theorem decided_conf (r : ReportHandler) (o : Origin) (ho : o ≠ .bump) (p : Int × Int) (rc : Recon) (i : Slot) :
    ((cliffIn o p rc i).decided r.decide).conf =
      if (decide (r.phase ≠ .idle ∧ r.deferred ≠ none)) then 8 else rc.lower 3 := by
  have hconf : (cliffIn o p rc i).conf = rc.lower 3 := by
    refine congrArg rc.lower ?_
    rw [ownCreateConf, if_neg ho]
    rfl
  cases hdec : r.decide with
  | start =>
    have hphase := (ReportHandler.decide_eq_start_iff _).1 hdec
    rw [if_neg (by simp [hphase])]
    exact hconf
  | defer =>
    obtain ⟨-, hdeferred⟩ := (ReportHandler.decide_eq_defer_iff _).1 hdec
    rw [if_neg (by simp [hdeferred])]
    exact hconf
  | force =>
    rw [if_pos (by simpa using (ReportHandler.decide_eq_force_iff _).1 hdec)]
    refine (congrArg (max · confirmedAt) hconf).trans (max_eq_right ?_)
    exact (rc.lower_le 3).trans (by decide)

theorem decided_core (r : ReportHandler) (o : Origin) (ho : o ≠ .bump) (p : Int × Int) (rc : Recon) (i : Slot) :
    ((cliffIn o p rc i).decided r.decide).core =
      ownCreated .cliff o p (if (decide (r.phase ≠ .idle ∧ r.deferred ≠ none)) then 8 else rc.lower 3) := by
  rw [← decided_conf r o ho p rc i]
  cases r.decide <;> rfl

/-! ### The obligation -/

theorem overruleTarget_eq (rs : List Record) (x y : Int) : overruleTarget rs x y =
    nearest rs (fun q => decide (q.kind = .rug .dark ∧ 8 ≤ q.conf)) x y 30 := by
  have hpass : (fun q : Record => decide (q.kind = .rug .dark) && q.confirmed) =
      fun q : Record => decide (q.kind = .rug .dark ∧ 8 ≤ q.conf) := funext fun q => (Bool.decide_and _ _).symm
  exact congrArg (fun pass => nearest rs pass x y 30) hpass

theorem Hazard.sameKind_cliff (k : Hazard) : k.sameKind .cliff = k.isCliff := by
  cases k <;> rfl

theorem mergeTarget_cliff_eq (rs : List Record) (x y : Int) :
    mergeTarget rs .cliff x y = nearest rs (fun q => q.kind.isCliff) x y 30 := by
  have hpass : (fun q : Record => q.kind.sameKind .cliff) = fun q => q.kind.isCliff :=
    funext fun q => Hazard.sameKind_cliff q.kind
  exact congrArg (fun pass => nearest rs pass x y 30) hpass

section
variable {s : State} (h : s.Sound) {o : Origin} {x y : Int} {tag : Option Seq}
  (hp : rangeOf ((s.reconcile tag).point x y).1 ((s.reconcile tag).point x y).2 ≤ rangeLimit)
  (hsound : (s.serveCliff o x y tag).state.Sound)
include h hp hsound

/-- The own overrule of R59: the dark RUG takes the observation. -/
theorem complete_serveCliff_of_rug {r : Record} (hmem : r ∈ s.table.records)
    (hr : overruleTarget s.table.records ((s.reconcile tag).point x y).1 ((s.reconcile tag).point x y).2 = some r) :
    Merged (ownMerged (.rug .dark) .floor ((s.reconcile tag).point x y) ((s.reconcile tag).lower 3) r) r s.table.records
      (s.complete (s.serveCliff o x y tag)) ∧
    (s.complete (s.serveCliff o x y tag)).floor = s.floor.writeDarkRug := by
  have hmerged := State.putRecord_merged h hmem
    (show (r.mergeOwn (.rug .dark) .floor ((s.reconcile tag).point x y) (s.reconcile tag)).slot = r.slot from rfl)
  rw [Record.mergeOwn_core _ _ (by simp)] at hmerged
  refine ⟨Merged.complete hsound ?_, ?_⟩
  · rw [serveCliff_of_rug o hp hr]
    refine hmerged.of_coreAt fun i => ?_
    rw [State.coreAt, State.at, State.overruleClass_table]
    rfl
  · rw [State.complete_floor, serveCliff_of_rug o hp hr]
    simp [State.overruleClass]

variable (hrug : overruleTarget s.table.records ((s.reconcile tag).point x y).1 ((s.reconcile tag).point x y).2 = none)
include hrug

omit h hp hsound in
theorem complete_serveCliff_floor : (s.complete (s.serveCliff o x y tag)).floor = s.floor := by
  rw [State.complete_floor]
  unfold State.serveCliff
  dsimp only
  rw [hrug]
  split
  · rfl
  · dsimp only
    split
    · rfl
    · split <;> simp

theorem complete_serveCliff_of_cliff {r : Record} (hmem : r ∈ s.table.records)
    (hr : mergeTarget s.table.records .cliff ((s.reconcile tag).point x y).1 ((s.reconcile tag).point x y).2 = some r) :
    Merged (ownMerged .cliff o ((s.reconcile tag).point x y) ((s.reconcile tag).lower 3) r) r s.table.records
      (s.complete (s.serveCliff o x y tag)) := by
  have hmerged := State.putRecord_merged h hmem
    (show (r.mergeOwn .cliff o ((s.reconcile tag).point x y) (s.reconcile tag)).slot = r.slot from rfl)
  rw [Record.mergeOwn_core _ _ (by simp)] at hmerged
  refine Merged.complete hsound ?_
  rw [serveCliff_of_cliff o hp hrug hr]
  exact hmerged

variable (hcliff : mergeTarget s.table.records .cliff ((s.reconcile tag).point x y).1 ((s.reconcile tag).point x y).2 =
  none) (hord : s.table.Ordered) (ho : o ≠ .bump)
include hcliff hord ho

theorem complete_serveCliff_created :
    Created (ownCreated .cliff o ((s.reconcile tag).point x y)
      (if decide (s.report.phase ≠ .idle ∧ s.report.deferred ≠ none) then 8 else (s.reconcile tag).lower 3))
      s.table.records s (s.complete (s.serveCliff o x y tag)) := by
  refine ⟨fun i hi => ?_, fun hrefused => ?_⟩
  · have hcore (j : Slot) := State.complete_coreAt (s := s) hsound j
    rw [serveCliff_of_slot o hp hrug hcliff h hord hi] at hcore ⊢
    refine ⟨?_, fun j hj => ?_⟩
    · rw [hcore, State.coreAt, cliffDecided_at, if_pos rfl, ← decided_core s.report o ho _ _ i]
      rfl
    · rw [hcore, State.coreAt, cliffDecided_at, if_neg hj]
      rfl
  · rw [serveCliff_of_refused o hp hrug hcliff h hord hrefused] at hsound ⊢
    refine ⟨(s.complete_tag_full _).2.trans (congrArg TableManager.full s.refused_table), fun j => ?_⟩
    rw [State.complete_coreAt hsound]
    have hkept := congrArg (fun t : TableManager => (recordAt t.records j).map Record.core) s.refused_table
    exact hkept

variable {i : Slot} (hi : TakesSlot s.table.good s.table.records
  (rangeOf ((s.reconcile tag).point x y).1 ((s.reconcile tag).point x y).2) i) (hgone : s.checkGone = false)
include hi hgone

/-- A created CLIFF is reported, and started, deferred or forced (R59, R93, R99, R100). -/
theorem complete_serveCliff_decided :
    let t := s.complete (s.serveCliff o x y tag)
    let forced : Bool := s.report.phase ≠ .idle ∧ s.report.deferred ≠ none
    (t.at i).map Record.reported = some true ∧
    (s.link.queue.length < 4 → ∃ e ∈ t.link.queue, e.urgent = true ∧ ∃ d, e.payload = .hazard d ∧
      d.action = .add ∧ d.kind = .cliff ∧ d.id = i ∧ d.x = BitVec.ofInt 16 ((s.reconcile tag).point x y).1 ∧
      d.y = BitVec.ofInt 16 ((s.reconcile tag).point x y).2 ∧
      d.conf.toNat = (if forced then 8 else (s.reconcile tag).lower 3) ∧ d.tag = s.table.tag) ∧
    (s.report.phase = .idle → s.table.fifo.length < 8 →
      (t.at i).bind Record.check = some .pending ∧ t.report.outstanding = some i ∧
      t.report.checkId = some s.report.nextId ∧ t.report.nextId = s.report.nextId + 1 ∧
      (s.awaitedSet ≠ [] → t.report.phase = .awaiting ∧ t.report.checkTimer = some 20000 ∧
        t.report.awaited = s.awaitedSet) ∧
      (s.awaitedSet = [] → t.report.phase = .resolved)) ∧
    (s.report.phase ≠ .idle → s.report.deferred = none →
      (t.at i).bind Record.check = some .deferred ∧ t.report.deferred = some i) ∧
    (forced = true → (t.at i).bind Record.check = some .none ∧
      t.link.counts.checkForced = satInc s.link.counts.checkForced) := by
  have hserved := serveCliff_of_slot o hp hrug hcliff h hord hi
  rw [hserved] at hsound ⊢
  have hat := complete_cliffDecided_at h o _ _ hi hgone hsound
  dsimp only
  rw [hat]
  refine ⟨rfl, fun hqueue => ?_, fun hphase hroom => ⟨?_, ?_⟩, fun hphase hdeferred => ?_, fun hforced => ⟨?_, ?_⟩⟩
  · obtain ⟨e, he, hpayload, hurgent, -⟩ := complete_cliffDecided_queued h o _ _ hi hgone hsound hqueue
    obtain ⟨-, hkind, -⟩ := decided_created (o := o) (p := (s.reconcile tag).point x y) (rc := s.reconcile tag) (i := i)
      s.report.decide
    have hconf := decided_conf s.report o ho ((s.reconcile tag).point x y) (s.reconcile tag) i
    have hsmall : ((cliffIn o ((s.reconcile tag).point x y) (s.reconcile tag) i).decided s.report.decide).conf < 2 ^ 4 := by
      have hlower := (s.reconcile tag).lower_le 3
      rw [hconf]
      split <;> omega
    refine ⟨e, he, hurgent, _, hpayload, rfl, hkind, Record.decided_slot _ _, ?_, ?_, ?_, rfl⟩
    · cases s.report.decide <;> rfl
    · cases s.report.decide <;> rfl
    · rw [← hconf]
      exact (BitVec.toNat_ofNat _ _).trans (Nat.mod_eq_of_lt hsmall)
  · rw [(ReportHandler.decide_eq_start_iff _).2 hphase]
    rfl
  · obtain ⟨hout, hid, hnext, hawaited, hstarted, htimer⟩ :=
      complete_cliffDecided_starts h o _ _ hi hgone hsound hphase hroom
    refine ⟨hout, hid, hnext, fun haw => ⟨?_, ?_, hawaited⟩, fun haw => ?_⟩
    · rw [hstarted, if_neg haw]
    · rw [htimer, if_neg haw]
      rfl
    · rw [hstarted, if_pos haw]
  · have hdec := (ReportHandler.decide_eq_defer_iff _).2 ⟨hphase, hdeferred⟩
    refine ⟨?_, complete_cliffDecided_defers h o _ _ hi hgone hsound hdec⟩
    rw [hdec]
    rfl
  · rw [(ReportHandler.decide_eq_force_iff _).2 (of_decide_eq_true hforced)]
    rfl
  · rw [(complete_steady s _).2.1]
    exact State.decideCheck_checkForced ((ReportHandler.decide_eq_force_iff _).2 (of_decide_eq_true hforced))

end

/-- Settles O41: the confirmed dark RUG, the nearest CLIFF or a created one takes the observation; the created one is
reported, and its check started, deferred or forced. -/
theorem ownCliffsAreServed : Obligations.OwnCliffsAreServed := by
  intro s origin x y tag hrun hwork htable hgone horigin
  have hok := htable.recordsOk
  have hsound := State.serveCliff_sound hok.sound hok.ordered origin x y tag
  have hserved : s.serveOwnCliff = s.complete (s.serveCliff origin x y tag) := by
    unfold State.serveOwnCliff
    rw [hwork]
    exact if_pos (by simp [hrun])
  refine ⟨_, congrArg Host.Outcome.next hserved, fun hp i => ?_, fun hp => ⟨fun r hr => ?_, fun hnone => ?_⟩,
    State.complete_ordered hsound, ?_⟩
  · rw [State.complete_coreAt hsound, serveCliff_of_far origin hp]
  · have htarget := (overruleTarget_eq ..).trans ((nearest_eq_some_iff hok.sound.slots ..).2 hr)
    exact complete_serveCliff_of_rug hok.sound hp hsound hr.1 htarget
  · have hrug := (overruleTarget_eq ..).trans ((nearest_eq_none_iff ..).2 hnone)
    refine ⟨complete_serveCliff_floor hrug, fun r hr => ?_, fun hnocliff => ?_⟩
    · have htarget := (mergeTarget_cliff_eq ..).trans ((nearest_eq_some_iff hok.sound.slots ..).2 hr)
      exact complete_serveCliff_of_cliff hok.sound hp hsound hrug hr.1 htarget
    · have hcliff := (mergeTarget_cliff_eq ..).trans ((nearest_eq_none_iff ..).2 hnocliff)
      exact ⟨complete_serveCliff_created hok.sound hp hsound hrug hcliff hok.ordered horigin,
        fun i hi => complete_serveCliff_decided hok.sound hp hsound hrug hcliff hok.ordered horigin hi hgone⟩
  · refine UnchangedBut.trans (fun b hb => ?_) ((s.complete_unchanged _).mono (by simp))
    cases b <;> simp [Block.same] at hb ⊢

end Sys2Proof.Machine
end

section
/-! PROOFS. What a completion reports (R66, R93, R96), from what its service left in the slots: which records keep their
reported mark, which are new in their slot, and which have gone. -/

namespace Sys2Proof.Machine

open Sys2Proof

/-! ### The reported marks that a service leaves -/

/-- The reported marks after a service: none is new, and one is gone from a slot with an own record only where floor
evidence has retired a CLIFF or, with no slot free, a farther record was evicted. -/
structure Marks (evidence : Prop) (s t : State) : Prop where
  marked : ∀ j q, t.at j = some q → q.reported = true → ∃ o, s.at j = some o ∧ o.reported = true
  fresh : ∀ j q o, t.at j = some q → s.at j = some o → q.own.isSome → q.reported = false → o.reported = true →
    (evidence ∧ o.kind = .cliff ∧ q.kind ≠ .cliff) ∨
      (q.range < o.range ∧ ∀ j, freeIn s.table.good s.table.records j = false)

/-- The same record but for what the marks do not read. -/
def Record.SameMarks (q o : Record) : Prop :=
  q.reported = o.reported ∧ q.own = o.own ∧ q.kind = o.kind ∧ q.range = o.range

theorem Marks.congr {e : Prop} {s t u : State} (h : Marks e s t)
    (hu : ∀ j q, u.at j = some q → ∃ o, t.at j = some o ∧ q.SameMarks o) : Marks e s u where
  marked j q hq hreported := by
    obtain ⟨o, ho, hsame, -⟩ := hu j q hq
    exact h.marked j o ho (hsame ▸ hreported)
  fresh j q o hq ho hown hnew hold := by
    obtain ⟨r, hr, hreported, hrown, hkind, hrange⟩ := hu j q hq
    rw [hkind, hrange]
    exact h.fresh j r o hr ho (hrown ▸ hown) (hreported ▸ hnew) hold

theorem Marks.of_kept {e : Prop} {s t : State}
    (h : ∀ j q, t.at j = some q → ∃ o, s.at j = some o ∧ q.reported = o.reported) : Marks e s t where
  marked j q hq hreported := by
    obtain ⟨o, ho, hsame⟩ := h j q hq
    exact ⟨o, ho, hsame ▸ hreported⟩
  fresh j q o hq ho _ hnew hold := by
    obtain ⟨o', ho', hsame⟩ := h j q hq
    rw [ho] at ho'
    cases ho'
    rw [hsame, hold] at hnew
    cases hnew

/-! ### The slots when the checks have been settled -/

/-- The candidate that takes the check over is marked; the other records stay (R106). -/
def ChecksOnly (s t : State) : Prop :=
  ∀ j, t.at j = s.at j ∨
    ∃ q, s.at j = some q ∧ q.check = some .deferred ∧ t.at j = some { q with check := some .pending }

theorem ChecksOnly.of_records_eq {s t : State} (h : t.table.records = s.table.records) : ChecksOnly s t :=
  fun j => .inl (congrArg (fun rs => recordAt rs j) h)

theorem promote_checksOnly (s : State) : ChecksOnly s s.promote.1 := by
  unfold State.promote
  split
  · exact .of_records_eq rfl
  next d _ =>
    dsimp only
    split
    next hmark =>
      obtain ⟨q, hq, -, hcheck⟩ := State.hasMark_at hmark
      intro j
      have hat := State.markCheck_at (s := s.setReport ({ s.report with deferred := none }.takeCheck d)) hq .pending j
      by_cases hj : j = d
      · subst hj
        exact .inr ⟨q, hq, hcheck, hat.trans (if_pos rfl)⟩
      · exact .inl (hat.trans (if_neg hj))
    · exact .of_records_eq rfl

theorem settleChecks_checksOnly (s : State) : ChecksOnly s s.settleChecks.1 := by
  unfold State.settleChecks
  dsimp only
  split
  · intro j
    have hkept : s.dropDeferral.cancelCheck.at j = s.at j := by
      rw [State.at, State.at]
      simp [State.cancelCheck, State.endCheck]
    rw [← hkept]
    exact promote_checksOnly _ j
  · exact .of_records_eq (by simp)

theorem ChecksOnly.marks {e : Prop} {s t u : State} (h : ChecksOnly t u) (ht : Marks e s t) : Marks e s u := by
  refine ht.congr fun j q hq => ?_
  obtain hsame | ⟨o, ho, -, hat⟩ := h j
  · exact ⟨q, hsame ▸ hq, rfl, rfl, rfl, rfl⟩
  · rw [hq] at hat
    cases hat
    exact ⟨o, ho, rfl, rfl, rfl, rfl⟩

/-! ### The report ages -/

theorem startCheck_ages (s : State) : s.startCheck.report.ages = s.report.ages := by
  have hresolved (s : State) : s.resolveCheck.report.ages = s.report.ages := by
    cases hd : s.report.outstanding with
    | none =>
      unfold State.resolveCheck
      rw [hd]
    | some d =>
      rw [State.resolveCheck_report hd]
      split <;> rfl
  unfold State.startCheck
  split
  · dsimp only
    split
    · exact hresolved _
    · rw [State.awaitAnswers, State.handing_report]
      simp
  · rfl

theorem promote_ages (s : State) : s.promote.1.report.ages = s.report.ages := by
  unfold State.promote
  split
  · rfl
  · dsimp only
    split
    · simp [ReportHandler.takeCheck]
    · rfl

theorem settleChecks_ages (s : State) : s.settleChecks.1.report.ages = s.report.ages := by
  have hdrop : s.dropDeferral.report.ages = s.report.ages := by
    rw [State.dropDeferral_report]
    split <;> rfl
  unfold State.settleChecks
  dsimp only
  split
  · rw [promote_ages, State.cancelCheck, State.endCheck_report]
    exact hdrop
  · exact hdrop

theorem complete_ages (s : State) (v : Served) :
    (s.complete v).report.ages = (s.reportsOf v v.sorted.settleChecks.1).report.ages := by
  rw [State.complete_report', State.beforeNotice]
  split
  · exact startCheck_ages _
  · rfl

theorem refresh_ages_of_zero {before u : State} {m : Option Slot} {j : Slot} (h : u.report.ages[j] = 0) :
    (State.refresh before m u).report.ages[j] = 0 := by
  unfold State.refresh
  split
  · split
    · rw [sendReport_ages, h, ite_self]
    · exact h
  · exact h

/-- A slot that sent a frame has its report age at 0 at the end (R96). -/
theorem complete_ages_of_frames {s : State} {v : Served} {j : Slot}
    (h : 0 < v.sorted.settleChecks.1.framesHere s v.withdrawn v.applied j) : (s.complete v).report.ages[j] = 0 := by
  rw [complete_ages]
  refine refresh_ages_of_zero ?_
  rw [emitEvents_ages, if_pos h]

/-! ### What a service leaves to report -/

/-- What a service leaves to report: the marks, and each record that an outcome was applied to or that own clearing
retired as the completion reads it. -/
structure Served.Traced (evidence : Prop) (s : State) (v : Served) : Prop where
  sound : v.state.Sound
  keeps : Keeps 0 s v.state
  tag : v.state.table.tag = s.table.tag
  ages : v.state.report.ages = s.report.ages
  marks : Marks evidence s v.state
  applied : ∀ j q o, v.applied = some j → v.state.at j = some q → s.at j = some o →
    q.check ≠ some .pending ∧ q.check ≠ some .deferred ∧ o.check = some .pending
  withdrawn : ∀ j w, recordAt v.withdrawn j = some w → ∃ o, s.at j = some o ∧
    reportFrame .withdraw w s.table.tag = reportFrame .withdraw o s.table.tag ∧ w.kind = o.kind ∧
    ∀ q, v.state.at j = some q → q.kind ≠ o.kind
  merged : v.merged.isSome → ∀ j w, recordAt v.withdrawn j = some w → v.state.at j = none

section
variable {e : Prop} {s : State} {v : Served} (h : v.Traced e s)
include h

theorem Served.Traced.settled_checksOnly : ChecksOnly v.state v.sorted.settleChecks.1 := by
  intro j
  rw [← Served.sorted_at h.sound]
  exact settleChecks_checksOnly _ j

theorem Served.Traced.settled_marks : Marks e s v.sorted.settleChecks.1 := h.settled_checksOnly.marks h.marks

omit h in
theorem complete_at_eq (s : State) (v : Served) (j : Slot) :
    (s.complete v).at j = (v.sorted.settleChecks.1.at j).map (Record.afterEvent s v.applied) := by
  rw [State.complete_at, reportsOf_at]

omit h in
/-- What the event of a record leaves of it. -/
theorem Record.afterEvent_same (s : State) (a : Option Slot) (q : Record) :
    (q.afterEvent s a).kind = q.kind ∧ (q.afterEvent s a).own = q.own ∧ (q.afterEvent s a).slot = q.slot ∧
    (q.afterEvent s a).conf = q.conf ∧ (q.afterEvent s a).range = q.range ∧ (q.afterEvent s a).check = q.check ∧
    ∀ b tag, reportFrame b (q.afterEvent s a) tag = reportFrame b q tag := by
  unfold Record.afterEvent Record.announced
  split
  · split <;> exact ⟨rfl, rfl, rfl, rfl, rfl, rfl, fun _ _ => rfl⟩
  · exact ⟨rfl, rfl, rfl, rfl, rfl, rfl, fun _ _ => rfl⟩

/-- A record that stands as before the item has had no outcome applied (R71). -/
theorem Served.Traced.applied_changes {j : Slot} {q o : Record} (ha : v.applied = some j)
    (hq : v.sorted.settleChecks.1.at j = some q) (ho : s.at j = some o) : q.check ≠ o.check := by
  obtain hsame | ⟨r, hr, hdeferred, -⟩ := h.settled_checksOnly j
  · obtain ⟨hpending, -, hold⟩ := h.applied j q o ha (hsame ▸ hq) ho
    rw [hold]
    exact hpending
  · exact absurd hdeferred (h.applied j r o ha hr ho).2.1

/-- A slot whose record was withdrawn does not show it any more. -/
theorem Served.Traced.withdrawn_gone {j : Slot} {w : Record} (hw : recordAt v.withdrawn j = some w) :
    (s.complete v).at j ≠ s.at j := by
  obtain ⟨o, ho, -, -, hgone⟩ := h.withdrawn j w hw
  rw [complete_at_eq, ho]
  intro hsame
  obtain ⟨q, hq, hqo⟩ := Option.map_eq_some_iff.1 hsame
  have hkind : q.kind = o.kind := by rw [← hqo, (Record.afterEvent_same s _ q).1]
  obtain hat | ⟨r, hr, -, hat⟩ := h.settled_checksOnly j
  · exact hgone q (hat ▸ hq) hkind
  · rw [hq] at hat
    cases hat
    exact hgone r hr hkind

omit h in
/-- What earns an add (R66). -/
theorem eventOf_eq_add {before : List Record} {a : Option Slot} {q : Record} (h : eventOf before a q = some .add) :
    q.own.isSome = true ∧ q.reported = false := by
  unfold eventOf at h
  dsimp only at h
  by_cases hc : (q.own.isSome && !q.reported) = true
  · simpa using hc
  · rw [if_neg hc] at h
    split at h
    · split at h
      · split at h <;> cases h
      · cases h
    · cases h

omit h in
/-- An event is an add or an update (R66). -/
theorem eventOf_eq_update {before : List Record} {a : Option Slot} {q : Record} {b : Action}
    (h : eventOf before a q = some b) (hb : b ≠ .add) : b = .update ∧ q.reported = true ∧
      ∃ o, recordAt before q.slot = some o ∧
        (q.kind.sameShade o.kind = false ∨ (o.confirmed = false ∧ q.confirmed = true) ∨ a = some q.slot) := by
  unfold eventOf at h
  dsimp only at h
  split at h
  · split at h <;> cases h
    exact absurd rfl hb
  · split at h
    next hreported =>
      split at h
      next o ho =>
        split at h
        next hc =>
          cases h
          refine ⟨rfl, hreported, o, ho, ?_⟩
          simp only [Bool.or_eq_true, Bool.and_eq_true, Bool.not_eq_true', decide_eq_true_eq] at hc
          tauto
        · cases h
      · cases h
    · cases h

/-- A slot that shows what it showed before the item sent nothing. -/
theorem Served.Traced.quiet {j : Slot} (hsame : (s.complete v).at j = s.at j) :
    v.sorted.settleChecks.1.framesHere s v.withdrawn v.applied j = 0 := by
  have hw : recordAt v.withdrawn j = none := by
    cases hw : recordAt v.withdrawn j with
    | none => rfl
    | some w => exact absurd hsame (h.withdrawn_gone hw)
  have hevent : v.sorted.settleChecks.1.eventHere s v.applied j = none := by
    cases hevent : v.sorted.settleChecks.1.eventHere s v.applied j with
    | none => rfl
    | some b =>
      obtain ⟨q, hq, hb⟩ := Option.bind_eq_some_iff.1 hevent
      have hat : s.at j = some (q.announced b) := by
        rw [← hsame, complete_at_eq, hq, Option.map_some, Record.afterEvent_of_some s _ hb]
      by_cases hadd : b = .add
      · subst hadd
        obtain ⟨hown, hreported⟩ := eventOf_eq_add hb
        obtain ⟨-, hcliff, hkind⟩ | ⟨hfar, -⟩ := h.settled_marks.fresh j q _ hq hat hown hreported rfl
        · exact absurd hcliff hkind
        · exact absurd hfar (lt_irrefl _)
      · have hkept : q.announced b = q := if_neg hadd
        rw [hkept] at hat
        obtain ⟨-, -, o, ho, hwhy⟩ := eventOf_eq_update hb hadd
        obtain ⟨-, hslot⟩ := mem_of_recordAt hq
        rw [hslot, show recordAt s.table.records j = some q from hat] at ho
        cases ho
        obtain hshade | ⟨hnot, hyes⟩ | happlied := hwhy
        · rw [Hazard.sameShade_self] at hshade
          cases hshade
        · rw [hnot] at hyes
          cases hyes
        · exact absurd rfl (h.applied_changes (happlied.trans (congrArg some hslot)) hq hat)
  rw [State.framesHere, hw, hevent]
  rfl

/-- With one slot changed at most, three frames come at most. -/
theorem Served.Traced.framesOf_le {i : Slot} (hrest : ∀ j, j ≠ i → (s.complete v).at j = s.at j) : s.framesOf v ≤ 3 := by
  have hsum : ∑ j, v.sorted.settleChecks.1.framesHere s v.withdrawn v.applied j =
      v.sorted.settleChecks.1.framesHere s v.withdrawn v.applied i :=
    Finset.sum_eq_single i (fun j _ hj => h.quiet (hrest j hj)) fun hi => absurd (Finset.mem_univ i) hi
  have hstarts := Bool.toNat_le (v.starts || v.sorted.settleChecks.2)
  have hevent := Bool.toNat_le (v.sorted.settleChecks.1.eventHere s v.applied i).isSome
  have hmerged := Bool.toNat_le v.merged.isSome
  have hhere : v.sorted.settleChecks.1.framesHere s v.withdrawn v.applied i + v.merged.isSome.toNat ≤ 2 := by
    rw [State.framesHere]
    cases hm : v.merged.isSome with
    | false =>
      have hw := Bool.toNat_le (recordAt v.withdrawn i).isSome
      rw [Bool.toNat_false]
      omega
    | true =>
      cases hw : recordAt v.withdrawn i with
      | none =>
        rw [Option.isSome_none, Bool.toNat_false, Bool.toNat_true]
        omega
      | some w =>
        have hnone := h.merged hm i w hw
        have hgone : v.sorted.settleChecks.1.at i = none := by
          obtain hat | ⟨r, hr, -⟩ := h.settled_checksOnly i
          · exact hat.trans hnone
          · rw [hnone] at hr
            cases hr
        rw [State.eventHere, hgone]
        exact Nat.le_refl 2
  rw [State.framesOf, hsum]
  omega

/-- The room that a report frame needs (R172). -/
theorem Served.Traced.room {i : Slot} (hqueue : s.link.queue.length < 3)
    (hrest : ∀ j, j ≠ i → (s.complete v).at j = s.at j) :
    queueLoad v.state.link.queue + s.framesOf v ≤ txQueueSize := by
  have hload := queueLoad_le s.link.queue
  have hsize : txQueueSize = 6 := rfl
  have hkept := (h.keeps (by omega)).1
  have hframes := h.framesOf_le hrest
  omega

omit h in
theorem Reported.intro {a : Action} {r : Record} {c : Bool} {t : State} {i : Slot} (hi : r.slot = i)
    (hages : t.report.ages[i] = 0) (hqueued : s.link.queue.length < 3 → (∀ j, j ≠ i → t.at j = s.at j) →
      Queued (reportFrame a r s.table.tag) c t) : Reported a r c s t := by
  subst hi
  exact ⟨hages, hqueued⟩

/-- The event of a record is reported (R66, R93). -/
theorem Served.Traced.reported {i : Slot} {q : Record} {b : Action} (hq : v.sorted.settleChecks.1.at i = some q)
    (hb : eventOf s.table.records v.applied q = some b) : Reported b (q.afterEvent s v.applied)
      (q.kind.isCliff || (b = .update && (s.at i).any fun o => o.kind.isCliff)) s (s.complete v) := by
  obtain ⟨-, hslot⟩ := mem_of_recordAt hq
  obtain ⟨-, -, hslot', -, -, -, hframe⟩ := Record.afterEvent_same s v.applied q
  refine Reported.intro (hslot'.trans hslot) (complete_ages_of_frames ?_) fun hqueue hrest => ?_
  · rw [State.framesHere, State.eventHere, hq, Option.bind_some, hb]
    simp
  · have hqueued := State.complete_event_queued (h.room hqueue hrest) hq hb
    rwa [h.tag, ← hframe] at hqueued

/-- A record that own clearing retired is reported (R66, R93). -/
theorem Served.Traced.reported_withdrawn {i : Slot} {o w : Record} (hw : recordAt v.withdrawn i = some w)
    (ho : s.at i = some o) : Reported .withdraw o (o.kind = .cliff) s (s.complete v) := by
  obtain ⟨-, hslot⟩ := mem_of_recordAt ho
  obtain ⟨o', ho', hframe, hkind, -⟩ := h.withdrawn i w hw
  rw [ho] at ho'
  cases ho'
  refine Reported.intro hslot (complete_ages_of_frames ?_) fun hqueue hrest => ?_
  · rw [State.framesHere, hw]
    exact Nat.add_pos_left Nat.one_pos _
  · have hqueued := State.complete_withdraw_queued (h.room hqueue hrest) hw
    have hurgent : decide (o.kind = .cliff) = w.kind.isCliff := by
      rw [hkind, Bool.eq_iff_iff]
      simp
    rw [hurgent]
    rwa [h.tag, hframe] at hqueued

/-- The first clause of O60: an own CLIFF or CONFIRMED record is reported once an item has changed it. -/
theorem Served.Traced.adds {i : Slot} {r : Record} (hr : (s.complete v).at i = some r) (hown : r.own.isSome)
    (hkind : r.kind = .cliff ∨ 8 ≤ r.conf) :
    (r.reported = true ∨ s.at i = some r) ∧
    (r.reported = true → (∀ o, s.at i = some o → o.reported = false) → Reported .add r (r.kind = .cliff) s (s.complete v)) := by
  rw [complete_at_eq] at hr
  obtain ⟨q, hq, rfl⟩ := Option.map_eq_some_iff.1 hr
  obtain ⟨-, hslot⟩ := mem_of_recordAt hq
  obtain ⟨hsamekind, hsameown, -, hsameconf, -⟩ := Record.afterEvent_same s v.applied q
  rw [hsameown] at hown
  rw [hsamekind, hsameconf] at hkind
  cases hreported : q.reported with
  | true =>
    have hkept : (q.afterEvent s v.applied).reported = true := by
      unfold Record.afterEvent Record.announced
      split
      · split
        · rfl
        · exact hreported
      · exact hreported
    refine ⟨.inl hkept, fun _ hnone => ?_⟩
    obtain ⟨o, ho, hold⟩ := h.settled_marks.marked i q hq hreported
    rw [hnone o ho] at hold
    cases hold
  | false =>
    have hworth : (q.kind.isCliff || q.confirmed) = true := by
      rw [Bool.or_eq_true, Hazard.isCliff_iff]
      exact hkind.imp_right fun h => decide_eq_true h
    by_cases hold : recordAt s.table.records q.slot = some q
    · have hevent : eventOf s.table.records v.applied q = none := by
        unfold eventOf
        simp [hown, hreported, hold]
      rw [Record.afterEvent_of_none s _ hevent]
      refine ⟨.inr (hslot ▸ hold), fun hyes _ => ?_⟩
      rw [hreported] at hyes
      cases hyes
    · have hevent : eventOf s.table.records v.applied q = some .add := by
        unfold eventOf
        simp [hown, hreported, hworth, hold]
      have hnow : (q.afterEvent s v.applied).reported = true := by
        rw [Record.afterEvent_of_some s _ hevent]
        rfl
      refine ⟨.inl hnow, fun _ _ => ?_⟩
      have hmade := h.reported hq hevent
      have hurgent : (q.kind.isCliff || (decide (Action.add = .update) && (s.at i).any fun o => o.kind.isCliff)) =
          decide ((q.afterEvent s v.applied).kind = .cliff) := by
        rw [hsamekind, Bool.eq_iff_iff]
        simp
      rwa [hurgent] at hmade

/-- The second clause of O60: a reported record that changes kind or shade, or a CLIFF that becomes CONFIRMED, earns an
UPDATE. -/
theorem Served.Traced.updates {i : Slot} {o r : Record} (ho : s.at i = some o) (hold : o.reported = true)
    (hr : (s.complete v).at i = some r) (hreported : r.reported = true)
    (hfree : ∃ j, freeIn s.table.good s.table.records j = true) (hevidence : o.kind = .cliff → ¬ e)
    (hchange : (r.kind ≠ o.kind ∧ ¬ ((∃ z, r.kind = .dock z) ∧ ∃ z, o.kind = .dock z)) ∨
      (r.kind = .cliff ∧ o.conf < 8 ∧ 8 ≤ r.conf)) :
    Reported .update r (r.kind = .cliff ∨ o.kind = .cliff) s (s.complete v) := by
  rw [complete_at_eq] at hr
  obtain ⟨q, hq, rfl⟩ := Option.map_eq_some_iff.1 hr
  obtain ⟨-, hslot⟩ := mem_of_recordAt hq
  obtain ⟨hsamekind, -, -, hsameconf, -⟩ := Record.afterEvent_same s v.applied q
  have hmarked : q.reported = true := by
    by_contra hnot
    have hno := Bool.not_eq_true _ ▸ hnot
    have hevent : eventOf s.table.records v.applied q = some .add := by
      cases hevent : eventOf s.table.records v.applied q with
      | none =>
        rw [Record.afterEvent_of_none s _ hevent] at hreported
        exact absurd hreported hnot
      | some b =>
        by_cases hadd : b = .add
        · rw [hadd]
        · exact absurd (eventOf_eq_update hevent hadd).2.1 hnot
    obtain ⟨hev, hcliff, -⟩ | ⟨-, hnone⟩ :=
      h.settled_marks.fresh i q o hq ho (eventOf_eq_add hevent).1 (eventOf_eq_add hevent).2 hold
    · exact hevidence hcliff hev
    · obtain ⟨j, hj⟩ := hfree
      rw [hnone j] at hj
      cases hj
  rw [hsamekind, hsameconf] at hchange
  have hwhy : (!q.kind.sameShade o.kind || (q.kind.isCliff && !o.confirmed && q.confirmed)) = true := by
    obtain ⟨hne, hdocks⟩ | ⟨hcliff, hbefore, hafter⟩ := hchange
    · have hshade : q.kind.sameShade o.kind = false := by
        rw [Bool.eq_false_iff]
        intro hsame
        rw [Hazard.sameShade, Bool.or_eq_true, Bool.and_eq_true, decide_eq_true_eq] at hsame
        obtain hsame | ⟨hqdock, hodock⟩ := hsame
        · exact hne hsame
        · refine hdocks ⟨?_, ?_⟩
          · cases hk : q.kind <;> simp_all [Hazard.isDock]
          · cases hk : o.kind <;> simp_all [Hazard.isDock]
      rw [hshade]
      rfl
    · have hconf : (!o.confirmed && q.confirmed) = true := by
        rw [Bool.and_eq_true, Bool.not_eq_true']
        exact ⟨decide_eq_false (not_le.2 hbefore), decide_eq_true hafter⟩
      rw [hcliff, Bool.and_assoc, hconf]
      simp [Hazard.isCliff]
  have hevent : eventOf s.table.records v.applied q = some .update := by
    have hhere : recordAt s.table.records q.slot = some o := hslot ▸ ho
    unfold eventOf
    dsimp only
    rw [hhere, hmarked]
    dsimp only
    rw [hwhy]
    simp
  have hmade := h.reported hq hevent
  have hurgent : (q.kind.isCliff || (decide (Action.update = .update) && (s.at i).any fun o => o.kind.isCliff)) =
      decide ((q.afterEvent s v.applied).kind = .cliff ∨ o.kind = .cliff) := by
    rw [hsamekind, ho, Bool.eq_iff_iff]
    simp
  rwa [hurgent] at hmade

end

end Sys2Proof.Machine
end

section
/-! PROOFS. What the service of each kind of item leaves to report (R54 to R65, R71). -/

namespace Sys2Proof.Machine

open Sys2Proof

/-! ### Merges and creations over what is left of the records -/

/-- The records of `w` are what is left of those of `s`, with their reported marks and ranges. -/
structure Trimmed (s w : State) : Prop where
  sound : w.Sound
  ordered : w.table.Ordered
  good : w.table.good = s.table.good
  kept : ∀ j q, w.at j = some q → ∃ o, s.at j = some o ∧ q.reported = o.reported ∧ q.range = o.range

theorem Trimmed.refl {s : State} (h : s.RecordsOk) : Trimmed s s :=
  ⟨h.sound, h.ordered, rfl, fun _ q hq => ⟨q, hq, rfl, rfl⟩⟩

theorem State.putRecord_at {w : State} (h : w.Sound) {r q : Record} (hr : r ∈ w.table.records) (hslot : q.slot = r.slot)
    (j : Slot) : (w.putRecord q).at j = if j = r.slot then some q else w.at j := by
  refine (recordAt_updateRecord _ _ _).trans ?_
  rw [hslot]
  by_cases hj : j = r.slot
  · rw [if_pos hj, if_pos hj, hj, (recordAt_eq_some_iff h.slots _ _).2 ⟨hr, rfl⟩]
    rfl
  · rw [if_neg hj, if_neg hj]
    rfl

section
variable {e : Prop} {s w : State} (hw : Trimmed s w)
include hw

theorem Trimmed.marks : Marks e s w := .of_kept fun j q hq => by
  obtain ⟨o, ho, hreported, -⟩ := hw.kept j q hq
  exact ⟨o, ho, hreported⟩

theorem Trimmed.marks_put {r q : Record} (hr : r ∈ w.table.records) (hslot : q.slot = r.slot)
    (hreported : q.reported = r.reported) : Marks e s (w.putRecord q) := by
  refine .of_kept fun j x hx => ?_
  rw [State.putRecord_at hw.sound hr hslot] at hx
  split at hx
  next hj =>
    cases hx
    obtain ⟨o, ho, hsame, -⟩ := hw.kept j r ((recordAt_eq_some_iff hw.sound.slots _ _).2 ⟨hr, hj.symm⟩)
    exact ⟨o, ho, hreported.trans hsame⟩
  · obtain ⟨o, ho, hsame, -⟩ := hw.kept j x hx
    exact ⟨o, ho, hsame⟩

/-- A slot that is free before is free in what is left. -/
theorem Trimmed.not_free {j : Slot} (h : freeIn w.table.good w.table.records j = false) :
    freeIn s.table.good s.table.records j = false := by
  rw [Bool.eq_false_iff] at h ⊢
  intro hfree
  refine h ?_
  unfold freeIn at hfree ⊢
  rw [hw.good]
  obtain ⟨hgood, hnone⟩ := Bool.and_eq_true_iff.1 hfree
  refine Bool.and_eq_true_iff.2 ⟨hgood, ?_⟩
  cases hq : recordAt w.table.records j with
  | none => rfl
  | some q =>
    obtain ⟨o, ho, -⟩ := hw.kept j q hq
    rw [show recordAt s.table.records j = some o from ho] at hnone
    cases hnone

/-- A new record takes a free slot, or that of a farther record when none is free (R45, R67). -/
theorem Trimmed.marks_placed {r : Record} (hr : r.reported = false)
    (hgone : r.own.isSome → ∀ j o, s.at j = some o → w.at j = none → e ∧ o.kind = .cliff ∧ r.kind ≠ .cliff) :
    Marks e s (w.placeRecord r).1 := by
  obtain ⟨i, hi, heq⟩ | ⟨-, heq⟩ := State.placeRecord_cases hw.sound.slots hw.ordered r
  · have hat (j : Slot) : (w.placeRecord r).1.at j = if j = i then some { r with slot := i } else w.at j := by
      rw [heq]
      exact recordAt_placed _ _ _ _
    refine ⟨fun j q hq hreported => ?_, fun j q o hq ho hown hnew hold => ?_⟩
    · rw [hat] at hq
      split at hq
      · cases hq
        exact absurd hreported (Bool.eq_false_iff.1 hr)
      · obtain ⟨o, ho, hsame, -⟩ := hw.kept j q hq
        exact ⟨o, ho, hsame ▸ hreported⟩
    · rw [hat] at hq
      split at hq
      next hj =>
        subst hj
        cases hq
        obtain ⟨hfree, -⟩ | ⟨hnone, x, ⟨hx, -⟩, rfl, hfar⟩ := hi
        · exact .inl (hgone hown j o ho ((recordAt_eq_none_iff _ _).2 ((freeIn_iff _ _ _).1 hfree).2))
        · obtain ⟨o', ho', -, hrange⟩ := hw.kept x.slot x ((recordAt_eq_some_iff hw.sound.slots _ _).2 ⟨hx, rfl⟩)
          rw [ho] at ho'
          cases ho'
          exact .inr ⟨hrange ▸ hfar, fun j => hw.not_free (hnone j)⟩
      · obtain ⟨o', ho', hsame, -⟩ := hw.kept j q hq
        rw [ho] at ho'
        cases ho'
        rw [hsame, hold] at hnew
        cases hnew
  · refine Marks.congr hw.marks fun j q hq => ⟨q, ?_, rfl, rfl, rfl, rfl⟩
    rw [heq] at hq
    have hkept := congrArg (fun t : TableManager => recordAt t.records j) w.refused_table
    exact hkept.symm.trans hq

theorem Trimmed.marks_mergeOrCreate {kind : Hazard} (o : Origin) (p : Int × Int) (rc : Recon)
    (hgone : ∀ j o, s.at j = some o → w.at j = none → e ∧ o.kind = .cliff ∧ kind ≠ .cliff) :
    Marks e s (w.mergeOrCreate kind o p rc).state := by
  unfold State.mergeOrCreate
  split
  next r hr => exact hw.marks_put (mem_of_nearest hr).1 rfl rfl
  · exact hw.marks_placed rfl fun _ => hgone

end

/-- A slot that is empty stays so at a merge, and is empty or takes the observation's record at a creation. -/
theorem mergeOrCreate_at_of_none {w : State} (h : w.Sound) (hord : w.table.Ordered) {kind : Hazard} {o : Origin}
    {p : Int × Int} {rc : Recon} {j : Slot} (hj : w.at j = none) :
    (w.mergeOrCreate kind o p rc).state.at j = none ∨ ((w.mergeOrCreate kind o p rc).merged = none ∧
      ∃ q, (w.mergeOrCreate kind o p rc).state.at j = some q ∧ q.kind = kind) := by
  unfold State.mergeOrCreate
  split
  next r hr =>
    have hhere : w.at r.slot = some r := (recordAt_eq_some_iff h.slots _ _).2 ⟨(mem_of_nearest hr).1, rfl⟩
    have hne : j ≠ r.slot := by
      rintro rfl
      rw [hj] at hhere
      cases hhere
    exact .inl ((State.putRecord_at (q := r.mergeOwn kind o p rc) h (mem_of_nearest hr).1 rfl j).trans
      ((if_neg hne).trans hj))
  · obtain ⟨i, -, heq⟩ | ⟨-, heq⟩ := State.placeRecord_cases h.slots hord (ownRecord kind o p rc)
    · have hat : (w.placeRecord (ownRecord kind o p rc)).1.at j =
          if j = i then some { ownRecord kind o p rc with slot := i } else w.at j := by
        rw [heq]
        exact recordAt_placed _ _ _ _
      by_cases hji : j = i
      · exact .inr ⟨rfl, _, hat.trans (if_pos hji), rfl⟩
      · exact .inl ((hat.trans (if_neg hji)).trans hj)
    · refine .inl ?_
      have hkept := congrArg (fun t : TableManager => recordAt t.records j) w.refused_table
      dsimp only
      rw [heq]
      exact hkept.trans hj

/-! ### The frames of a service -/

theorem placeRecord_keeps (s : State) (r : Record) : Keeps 0 s (s.placeRecord r).1 := by
  unfold State.placeRecord
  split
  · exact .of_queue_eq rfl
  · split
    · exact .of_queue_eq rfl
    · exact Keeps.trans (t := s.handing fun t => t.setTable { t.table with full := true })
        (handing_keeps (.of_queue_eq rfl)) (.of_queue_eq rfl)

theorem mergeOrCreate_keeps (s : State) (kind : Hazard) (o : Origin) (p : Int × Int) (rc : Recon) :
    Keeps 0 s (s.mergeOrCreate kind o p rc).state := by
  unfold State.mergeOrCreate
  split
  · exact .of_queue_eq rfl
  · exact placeRecord_keeps _ _

theorem mergeOrCreate_applied (s : State) (kind : Hazard) (o : Origin) (p : Int × Int) (rc : Recon) :
    (s.mergeOrCreate kind o p rc).applied = none ∧ (s.mergeOrCreate kind o p rc).withdrawn = [] := by
  unfold State.mergeOrCreate
  split <;> exact ⟨rfl, rfl⟩

/-- A service without an outcome and without clearing leaves what its records show. -/
theorem Served.Traced.of_marks {e : Prop} {s : State} {v : Served} (hsound : v.state.Sound) (hkeeps : Keeps 0 s v.state)
    (hrecords : RecordsOnly s v.state) (hreport : v.state.report.ages = s.report.ages) (hmarks : Marks e s v.state)
    (happlied : v.applied = none) (hwithdrawn : v.withdrawn = []) : v.Traced e s where
  sound := hsound
  keeps := hkeeps
  tag := hrecords.tag
  ages := hreport
  marks := hmarks
  applied j q o ha := by
    rw [happlied] at ha
    cases ha
  withdrawn j w hw := by
    rw [hwithdrawn] at hw
    cases hw
  merged _ j w hw := by
    rw [hwithdrawn] at hw
    cases hw

/-! ### Own observations -/

section
variable {s : State} (h : s.RecordsOk)
include h

theorem wallReset_trimmed (kind : Hazard) (o : Origin) : Trimmed s (s.wallReset kind o) where
  sound := State.wallReset_sound h.sound kind o
  ordered := State.wallReset_ordered h.ordered kind o
  good := by
    unfold State.wallReset
    split <;> rfl
  kept j q hq := by
    rw [State.at, State.wallReset_records] at hq
    split at hq
    · rw [recordAt_map (fun r => by split <;> rfl)] at hq
      obtain ⟨o, ho, rfl⟩ := Option.map_eq_some_iff.1 hq
      refine ⟨o, ho, ?_⟩
      split <;> exact ⟨rfl, rfl⟩
    · exact ⟨q, hq, rfl, rfl⟩

omit h in
theorem wallReset_at_isSome (kind : Hazard) (o : Origin) {j : Slot} {r : Record} (hr : s.at j = some r) :
    (s.wallReset kind o).at j ≠ none := by
  rw [State.at, State.wallReset_records]
  split
  · rw [recordAt_map (fun r => by split <;> rfl), show recordAt s.table.records j = some r from hr]
    exact nofun
  · rw [show recordAt s.table.records j = some r from hr]
    exact nofun

theorem serveOwn_traced (kind : Hazard) (o : Origin) (x y : Int) (tag : Option Seq) :
    (s.serveOwn kind o x y tag).Traced False s := by
  have htrim := wallReset_trimmed h kind o
  have hreset : Keeps 0 s (s.wallReset kind o) := .of_queue_eq (by unfold State.wallReset; split <;> rfl)
  refine .of_marks (State.serveOwn_sound h.sound h.ordered kind o x y tag) ?_ (serveOwn_recordsOnly s kind o x y tag)
    (by simp) ?_ ?_ ?_ <;> rw [State.serveOwn_eq] <;> split
  · exact hreset
  · exact hreset.trans (mergeOrCreate_keeps _ _ _ _ _)
  · exact htrim.marks
  · exact htrim.marks_mergeOrCreate o _ _ fun j r hr hnone => absurd hnone (wallReset_at_isSome kind o hr)
  · rfl
  · exact (mergeOrCreate_applied _ _ _ _ _).1
  · rfl
  · exact (mergeOrCreate_applied _ _ _ _ _).2

omit h in
theorem serveCliff_applied (s : State) (o : Origin) (x y : Int) (tag : Option Seq) :
    (s.serveCliff o x y tag).applied = none ∧ (s.serveCliff o x y tag).withdrawn = [] := by
  unfold State.serveCliff
  dsimp only
  split
  · exact ⟨rfl, rfl⟩
  · split
    · exact ⟨rfl, rfl⟩
    · split
      · exact ⟨rfl, rfl⟩
      · split <;> exact ⟨rfl, rfl⟩

theorem serveCliff_traced (o : Origin) (x y : Int) (tag : Option Seq) : (s.serveCliff o x y tag).Traced False s := by
  have htrim := Trimmed.refl h
  have hages : (s.serveCliff o x y tag).state.report.ages = s.report.ages := by
    unfold State.serveCliff
    dsimp only
    split
    · rfl
    · split
      · simp
      · split
        · rfl
        · split
          · rw [State.decideCheck_report]
            split <;> simp [ReportHandler.takeCheck]
          · simp
  have hkeeps : Keeps 0 s (s.serveCliff o x y tag).state := by
    unfold State.serveCliff
    dsimp only
    split
    · exact .of_queue_eq rfl
    · split
      · exact Keeps.trans (t := s.putRecord _) (.of_queue_eq rfl) (overruleClass_keeps _)
      · split
        · exact .of_queue_eq rfl
        · have hplaced := placeRecord_keeps s (ownRecord .cliff o ((s.reconcile tag).point x y) (s.reconcile tag))
          split
          · exact hplaced.trans (.of_queue_eq State.decideCheck_queue_startup.1)
          · exact hplaced
  have hmarks : Marks False s (s.serveCliff o x y tag).state := by
    unfold State.serveCliff
    dsimp only
    split
    · exact htrim.marks
    · split
      next r hr =>
        refine Marks.congr (htrim.marks_put (q := r.mergeOwn (.rug .dark) .floor ((s.reconcile tag).point x y)
          (s.reconcile tag)) (mem_of_nearest hr).1 rfl rfl) fun j q hq => ⟨q, ?_, rfl, rfl, rfl, rfl⟩
        rw [State.at, State.overruleClass_table] at hq
        exact hq
      · split
        next r hr => exact htrim.marks_put (mem_of_nearest hr).1 rfl rfl
        · have hplaced : Marks False s
              (s.placeRecord (ownRecord .cliff o ((s.reconcile tag).point x y) (s.reconcile tag))).1 :=
            htrim.marks_placed rfl fun _ j r hr hnone => by
              rw [hr] at hnone
              cases hnone
          obtain ⟨i, -, heq⟩ | ⟨-, heq⟩ := State.placeRecord_cases h.sound.slots h.ordered
            (ownRecord .cliff o ((s.reconcile tag).point x y) (s.reconcile tag))
          · rw [heq] at hplaced ⊢
            dsimp only at hplaced ⊢
            have hnew := cliffCreated_at_self s o ((s.reconcile tag).point x y) (s.reconcile tag) i
            refine hplaced.congr fun j q hq => ?_
            change ((s.cliffCreated o _ (s.reconcile tag) i).decideCheck i).at j = some q at hq
            rw [State.decideCheck_at hnew] at hq
            split at hq
            next hj =>
              cases hq
              refine ⟨cliffIn o _ (s.reconcile tag) i, by rw [hj]; exact hnew, ?_⟩
              unfold Record.decided
              split <;> exact ⟨rfl, rfl, rfl, rfl⟩
            · exact ⟨q, hq, rfl, rfl, rfl, rfl⟩
          · rw [heq] at hplaced ⊢
            exact hplaced
  obtain ⟨happlied, hwithdrawn⟩ := serveCliff_applied s o x y tag
  exact .of_marks (State.serveCliff_sound h.sound h.ordered o x y tag) hkeeps (serveCliff_recordsOnly s o x y tag) hages
    hmarks happlied hwithdrawn

/-! ### Own clearing -/

theorem floorCleared_trimmed (p : Int × Int) : Trimmed s (s.floorCleared p) where
  sound := State.floorCleared_sound p h.sound
  ordered := State.floorCleared_ordered p h.ordered
  good := rfl
  kept _ q hq := ⟨q, State.floorCleared_at_of_some p h.sound hq, rfl, rfl⟩

omit h in
/-- A record that floor evidence retires is a CLIFF near the point (R61). -/
theorem floorCleared_at_of_none {p : Int × Int} {j : Slot} {r : Record} (hr : s.at j = some r)
    (hgone : (s.floorCleared p).at j = none) : clearedBy p r = true := by
  obtain ⟨hmem, hslot⟩ := mem_of_recordAt hr
  by_contra hnot
  refine (recordAt_eq_none_iff _ _).1 hgone r (List.mem_filter.2 ⟨hmem, ?_⟩) hslot
  simpa using hnot

omit h in
theorem isCliff_of_clearedBy {p : Int × Int} {r : Record} (hr : clearedBy p r = true) : r.kind = .cliff :=
  (Hazard.isCliff_iff _).1 (Bool.and_eq_true_iff.1 hr).1

omit h in
theorem serveEvidence_withdrawn (rug : Option Hazard) (o : Origin) (x y : Int) (tag : Option Seq) :
    (s.serveEvidence rug o x y tag).withdrawn =
      s.table.records.filter (fun r => clearedBy ((s.reconcile tag).point x y) r && r.reported) ∧
    (s.serveEvidence rug o x y tag).applied = none ∧ (s.serveEvidence rug o x y tag).merged =
      (s.evidenced rug o ((s.reconcile tag).point x y) (s.reconcile tag)).merged := by
  unfold State.serveEvidence State.evidenced
  dsimp only
  cases rug with
  | none => exact ⟨rfl, rfl, rfl⟩
  | some kind =>
    dsimp only
    split
    · exact ⟨rfl, rfl, rfl⟩
    · exact ⟨rfl, (mergeOrCreate_applied _ _ _ _ _).1, rfl⟩

/-- An empty slot stays so or takes the RUG (R61). -/
theorem evidenced_at_of_none {rug : Option Hazard} {o : Origin} {p : Int × Int} {rc : Recon} {j : Slot}
    (hj : (s.floorCleared p).at j = none) : (s.evidenced rug o p rc).state.at j = none ∨
      ((s.evidenced rug o p rc).merged = none ∧ ∃ q, (s.evidenced rug o p rc).state.at j = some q ∧ rug = some q.kind) := by
  cases rug with
  | none => exact .inl hj
  | some kind =>
    by_cases hp : rangeLimit < rangeOf p.1 p.2
    · rw [State.evidenced_of_far hp]
      exact .inl hj
    · rw [State.evidenced_of_near (not_lt.1 hp)]
      obtain hnone | ⟨hmerged, q, hq, hkind⟩ := mergeOrCreate_at_of_none (State.floorCleared_sound p h.sound)
        (State.floorCleared_ordered p h.ordered) (kind := kind) (o := o) (p := p) (rc := rc) hj
      · exact .inl hnone
      · exact .inr ⟨hmerged, q, hq, congrArg some hkind.symm⟩

theorem serveEvidence_traced {rug : Option Hazard} (hrug : ∀ kind, rug = some kind → kind ≠ .cliff) (o : Origin)
    (x y : Int) (tag : Option Seq) : (s.serveEvidence rug o x y tag).Traced True s := by
  obtain ⟨hwithdrawn, happlied, hmerged⟩ := serveEvidence_withdrawn rug o x y tag
  have hstate := s.serveEvidence_state rug o x y tag
  have htrim := floorCleared_trimmed h ((s.reconcile tag).point x y)
  have hw (j : Slot) (w : Record) (hj : recordAt (s.serveEvidence rug o x y tag).withdrawn j = some w) :
      s.at j = some w ∧ w.kind = .cliff ∧ (s.floorCleared ((s.reconcile tag).point x y)).at j = none := by
    rw [hwithdrawn] at hj
    obtain ⟨hmem, hslot⟩ := mem_of_recordAt hj
    obtain ⟨hmem, hcleared⟩ := List.mem_filter.1 hmem
    obtain ⟨hcleared, -⟩ := Bool.and_eq_true_iff.1 hcleared
    have hat : s.at j = some w := (recordAt_eq_some_iff h.sound.slots _ _).2 ⟨hmem, hslot⟩
    refine ⟨hat, isCliff_of_clearedBy hcleared, ?_⟩
    cases hq : (s.floorCleared ((s.reconcile tag).point x y)).at j with
    | none => rfl
    | some q =>
      have hqw := State.floorCleared_at_of_some _ h.sound hq
      rw [hat] at hqw
      cases hqw
      have hleft := (List.mem_filter.1 (mem_of_recordAt hq).1).2
      rw [hcleared] at hleft
      cases hleft
  refine ⟨State.serveEvidence_sound h.sound h.ordered rug o x y tag, ?_, (serveEvidence_recordsOnly s rug o x y tag).tag,
    by simp, ?_, fun j q o ha => ?_, fun j w hj => ?_, fun hm j w hj => ?_⟩
  · have hcleared : Keeps 0 s (s.floorCleared ((s.reconcile tag).point x y)) := .of_queue_eq rfl
    rw [hstate]
    cases rug with
    | none => exact hcleared
    | some kind =>
      by_cases hp : rangeLimit < rangeOf ((s.reconcile tag).point x y).1 ((s.reconcile tag).point x y).2
      · rw [State.evidenced_of_far hp]
        exact hcleared
      · rw [State.evidenced_of_near (not_lt.1 hp)]
        exact hcleared.trans (mergeOrCreate_keeps _ _ _ _ _)
  · rw [hstate]
    cases rug with
    | none => exact htrim.marks
    | some kind =>
      by_cases hp : rangeLimit < rangeOf ((s.reconcile tag).point x y).1 ((s.reconcile tag).point x y).2
      · rw [State.evidenced_of_far hp]
        exact htrim.marks
      · rw [State.evidenced_of_near (not_lt.1 hp)]
        exact htrim.marks_mergeOrCreate o _ _ fun j r hr hnone =>
          ⟨trivial, isCliff_of_clearedBy (floorCleared_at_of_none hr hnone), hrug kind rfl⟩
  · rw [happlied] at ha
    cases ha
  · obtain ⟨hat, hcliff, hnone⟩ := hw j w hj
    refine ⟨w, hat, rfl, rfl, fun q hq => ?_⟩
    rw [hstate] at hq
    obtain hgone | ⟨-, r, hr, hkind⟩ := evidenced_at_of_none h (rug := rug) (o := o) (rc := s.reconcile tag) hnone
    · rw [hq] at hgone
      cases hgone
    · rw [hq] at hr
      cases hr
      rw [hcliff]
      exact hrug q.kind hkind
  · obtain ⟨-, -, hnone⟩ := hw j w hj
    rw [hstate]
    obtain hgone | ⟨hnomerge, -⟩ := evidenced_at_of_none h (rug := rug) (o := o) (rc := s.reconcile tag) hnone
    · exact hgone
    · rw [hmerged, hnomerge] at hm
      cases hm

omit h in
theorem Record.clearOnce_reported (mx my ax ay : Int) (r : Record) :
    (r.clearOnce mx my ax ay).reported = r.reported ∧ (r.clearOnce mx my ax ay).kind = r.kind ∧
    ∀ a tag, reportFrame a (r.clearOnce mx my ax ay) tag = reportFrame a r tag := by
  unfold Record.clearOnce
  split <;> exact ⟨rfl, rfl, fun _ _ => rfl⟩

theorem serveClear_withdrawn_at {mx my ax ay : Int} {j : Slot} {w : Record}
    (hj : recordAt (s.serveClear mx my ax ay).withdrawn j = some w) :
    ∃ o, s.at j = some o ∧ w = o.clearOnce mx my ax ay ∧ o.clearedOnce mx my ax ay = none := by
  obtain ⟨hmem, hslot⟩ := mem_of_recordAt hj
  obtain ⟨hmem, hout⟩ := List.mem_filter.1 hmem
  obtain ⟨o, ho, rfl⟩ := List.mem_map.1 hmem
  rw [Record.clearOnce_slot] at hslot
  refine ⟨o, (recordAt_eq_some_iff h.sound.slots _ _).2 ⟨ho, hslot⟩, rfl, ?_⟩
  exact if_pos (Bool.and_eq_true_iff.1 hout).1

theorem serveClear_traced (mx my ax ay : Int) : (s.serveClear mx my ax ay).Traced False s where
  sound := State.serveClear_sound h.sound mx my ax ay
  keeps := .of_queue_eq rfl
  tag := rfl
  ages := rfl
  marks := by
    refine .of_kept fun j q hq => ?_
    rw [State.serveClear_at h.sound] at hq
    obtain ⟨o, ho, hqo⟩ := Option.bind_eq_some_iff.1 hq
    refine ⟨o, ho, ?_⟩
    unfold Record.clearedOnce at hqo
    split at hqo
    · cases hqo
    · cases hqo
      exact (o.clearOnce_reported mx my ax ay).1
  applied j q o ha := by cases ha
  withdrawn j w hj := by
    obtain ⟨o, ho, rfl, hnone⟩ := serveClear_withdrawn_at h hj
    obtain ⟨-, hkind, hframe⟩ := o.clearOnce_reported mx my ax ay
    refine ⟨o, ho, hframe _ _, hkind, fun q hq => ?_⟩
    rw [State.serveClear_at h.sound, ho, Option.bind_some, hnone] at hq
    cases hq
  merged hm := by cases hm

/-! ### Peer reports -/

theorem withoutKey_trimmed (k : Key) : Trimmed s (s.withoutKey k) where
  sound := State.withoutKey_sound h.sound k
  ordered := State.withoutKey_ordered h.ordered k
  good := rfl
  kept j q hq := by
    rw [State.withoutKey_at h.sound] at hq
    obtain ⟨o, ho, hqo⟩ := Option.bind_eq_some_iff.1 hq
    refine ⟨o, ho, ?_⟩
    unfold Record.without at hqo
    split at hqo
    · split at hqo
      · cases hqo
      · cases hqo
        exact ⟨rfl, rfl⟩
    · cases hqo
      exact ⟨rfl, rfl⟩

omit h in
theorem staleCounted_marks (e : Prop) (s : State) : Marks e s (s.count .staleReport) :=
  .of_kept fun _ q hq => ⟨q, hq, rfl⟩

theorem addPeer_marks_keeps (r : PeerReport) (rc : Recon) :
    Marks False s (s.addPeer r rc) ∧ Keeps 0 s (s.addPeer r rc) := by
  have htrim := withoutKey_trimmed h r.key
  have hleft : Keeps 0 s (s.withoutKey r.key) := .of_queue_eq rfl
  by_cases hp : rangeLimit < rangeOf (rc.point r.x r.y).1 (rc.point r.x r.y).2
  · rw [State.addPeer_of_far hp]
    exact ⟨staleCounted_marks False s, .of_queue_eq rfl⟩
  · rw [State.addPeer_of_near h.sound (not_lt.1 hp)]
    split
    next q hq => exact ⟨htrim.marks_put (mem_of_nearest hq).1 rfl rfl, .of_queue_eq rfl⟩
    · refine ⟨htrim.marks_placed rfl fun hown => ?_, hleft.trans (placeRecord_keeps _ _)⟩
      cases hown

theorem serveAdd_traced {r : PeerReport} (hc : r.conf ≤ maxConf) : (s.serveAdd r).Traced False s := by
  have hboth : Marks False s (s.serveAdd r).state ∧ Keeps 0 s (s.serveAdd r).state := by
    unfold State.serveAdd
    dsimp only
    split
    · exact ⟨staleCounted_marks False s, .of_queue_eq rfl⟩
    · exact addPeer_marks_keeps h r _
  exact .of_marks (State.serveAdd_sound h.sound h.ordered hc) hboth.2 (serveAdd_recordsOnly s r) (by simp) hboth.1 rfl rfl

theorem serveUpdate_traced {r : PeerReport} (hc : r.conf ≤ maxConf) : (s.serveUpdate r).Traced False s := by
  by_cases hrc : s.reconcile r.tag = .failed
  · rw [State.serveUpdate_of_failed hrc]
    exact .of_marks h.sound (.of_queue_eq rfl) (.refl s) rfl (staleCounted_marks False s) rfl rfl
  · by_cases hholder : ∃ q ∈ s.table.records, r.key ∈ q.keys
    · obtain ⟨q, hq, hk⟩ := hholder
      have hsound := State.serveUpdate_sound h.sound h.ordered hc
      have hat := State.serveUpdate_at h.sound hq hk hrc
      have hrecords := serveUpdate_recordsOnly s r
      have hserved := State.serveUpdate_of_holder h.sound hq hk hrc
      have hmarks : Marks False s (s.serveUpdate r).state := by
        refine .of_kept fun j x hx => ?_
        rw [hat] at hx
        split at hx
        next hj =>
          split at hx
          · cases hx
          · cases hx
            exact ⟨q, (recordAt_eq_some_iff h.sound.slots _ _).2 ⟨hq, hj.symm⟩, rfl⟩
        · exact ⟨x, hx, rfl⟩
      have hkeeps : Keeps 0 s (s.serveUpdate r).state := by
        rw [hserved]
        dsimp only
        split <;> exact .of_queue_eq rfl
      refine .of_marks hsound hkeeps hrecords (by simp) hmarks ?_ ?_ <;> rw [hserved]
    · rw [State.serveUpdate_of_no_holder fun q hq hk => hholder ⟨q, hq, hk⟩]
      exact serveAdd_traced h hc

theorem serveWithdraw_traced (r : PeerReport) : (s.serveWithdraw r).Traced False s := by
  rw [State.serveWithdraw_eq h.sound]
  exact .of_marks (State.withoutKey_sound h.sound _) (.of_queue_eq rfl) rfl rfl (withoutKey_trimmed h _).marks rfl rfl

/-! ### Check outcomes -/

theorem serveOutcome_traced (o : Outcome) (slot : Slot) : (s.serveOutcome o slot).Traced False s where
  sound := State.serveOutcome_sound h.sound o slot
  keeps := serveOutcome_keeps o
  tag := (serveOutcome_recordsOnly s o slot).tag
  ages := by
    rw [serveOutcome_eq_promote]
    dsimp only
    rw [promote_ages, checkEnded_report]
    rfl
  marks := by
    have hended : Marks False s (s.checkEnded slot o) := by
      refine .of_kept fun j q hq => ?_
      rw [checkEnded_at] at hq
      by_cases hj : j = slot
      · subst hj
        cases hmark : s.hasMark j .pending with
        | false =>
          rw [State.applyAt_of_dropped hmark] at hq
          exact ⟨q, hq, rfl⟩
        | true =>
          obtain ⟨r, hr, -⟩ := State.hasMark_at hmark
          rw [State.applyAt_of_acts hr hmark, State.outcomeOn_at hr, if_pos rfl] at hq
          split at hq
          · cases hq
          · cases hq
            exact ⟨r, hr, r.applyOutcome_reported o⟩
      · rw [State.applyAt_at_of_ne o hj] at hq
        exact ⟨q, hq, rfl⟩
    exact (promote_checksOnly _).marks hended
  applied j q r ha hq hr := by
    have hmark : s.hasMark slot .pending = true ∧ slot = j := by
      rw [serveOutcome_eq] at ha
      dsimp only at ha
      split at ha
      next hmark => exact ⟨hmark, Option.some.inj ha⟩
      · cases ha
    obtain ⟨hmark, rfl⟩ := hmark
    obtain ⟨r', hr', -, hpending⟩ := State.hasMark_at hmark
    rw [hr] at hr'
    cases hr'
    have hother (d : Slot) (hd : s.hasMark d .deferred = true) : slot ≠ d := by
      rintro rfl
      rw [State.hasMark_eq, hr] at hd
      simp [hpending] at hd
    rw [serveOutcome_at o fun d _ hd => hother d hd, State.applyAt_of_acts hr hmark, State.outcomeOn_at hr,
      if_pos rfl] at hq
    split at hq
    · cases hq
    · cases hq
      rw [r.applyOutcome_check]
      refine ⟨?_, ?_, hpending⟩ <;> split <;> exact nofun
  withdrawn j w hj := by cases hj
  merged hm := by cases hm

end

end Sys2Proof.Machine
end

section
/-! PROOFS. The report frames of a completion, over every item (R66, R93, R94, R96). -/

namespace Sys2Proof.Machine

open Sys2Proof

/-! ### The service of an item -/

/-- What the service of an item does to the state, lookups apart (R54). -/
def State.servedItem (s : State) : Item → Served
  | .own k o x y tag =>
    if k.isCliff then s.serveCliff o x y tag
    else if k.isRug then s.serveEvidence (some k) o x y tag
    else s.serveOwn k o x y tag
  | .floorClear x y tag => s.serveEvidence none .floor x y tag
  | .wallClear mx my ax ay _ => s.serveClear mx my ax ay
  | .report r =>
    match r.action with
    | .add => s.serveAdd r
    | .update => s.serveUpdate r
    | .withdraw => s.serveWithdraw r
  | .outcome o slot => s.serveOutcome o slot
  | .lookup .. => { state := s }

theorem Hazard.isObstacle_or_isDock {k : Hazard} (hc : ¬ k.isCliff = true) (hr : ¬ k.isRug = true) :
    (k.isObstacle || k.isDock) = true := by
  cases k <;> simp_all [Hazard.isCliff, Hazard.isRug, Hazard.isObstacle, Hazard.isDock]

/-- The command of an item completes its service. -/
theorem exec_serveCommand {s : State} {item : Item} (hrun : s.running = true) (hwork : s.table.work = .serving item)
    (hitem : item.isLookup = false) : exec item.serveCommand s = .next (s.complete (s.servedItem item)) := by
  cases item with
  | own k o x y tag =>
    unfold Item.serveCommand State.servedItem
    dsimp only
    by_cases hc : k.isCliff = true
    · rw [if_pos hc, if_pos hc]
      refine congrArg Host.Outcome.next ?_
      unfold State.serveOwnCliff
      rw [hwork]
      exact if_pos (by rw [hrun, hc]; rfl)
    · rw [if_neg hc, if_neg hc]
      by_cases hr : k.isRug = true
      · rw [if_pos hr, if_pos hr]
        refine congrArg Host.Outcome.next ?_
        unfold State.serveFloorEvidence
        rw [hwork]
        exact if_pos (by rw [hrun, hr]; rfl)
      · rw [if_neg hr, if_neg hr]
        refine congrArg Host.Outcome.next ?_
        unfold State.serveOwnObservation
        rw [hwork]
        exact if_pos (by rw [hrun, Hazard.isObstacle_or_isDock hc hr]; rfl)
  | floorClear x y tag =>
    refine congrArg Host.Outcome.next ?_
    unfold State.serveFloorEvidence
    rw [hwork]
    exact if_pos hrun
  | wallClear mx my ax ay tag =>
    refine congrArg Host.Outcome.next ?_
    unfold State.serveWallClear
    rw [hwork]
    exact if_pos hrun
  | report r =>
    unfold Item.serveCommand State.servedItem
    dsimp only
    cases ha : r.action with
    | add => exact congrArg Host.Outcome.next (State.servePeerAdd_of_serving hrun ha hwork)
    | update => exact congrArg Host.Outcome.next (State.servePeerUpdate_of_serving hrun ha hwork)
    | withdraw => exact congrArg Host.Outcome.next (State.servePeerWithdraw_of_serving hrun ha hwork)
  | outcome o slot => exact congrArg Host.Outcome.next (State.serveCheckOutcome_of_serving hrun hwork)
  | lookup requester id x y tag => cases hitem

theorem Served.Traced.mono {e e' : Prop} {s : State} {v : Served} (h : v.Traced e s) (he : e → e') : v.Traced e' s where
  sound := h.sound
  keeps := h.keeps
  tag := h.tag
  ages := h.ages
  marks := ⟨h.marks.marked, fun j q o hq ho hown hnew hold =>
    (h.marks.fresh j q o hq ho hown hnew hold).imp_left fun ⟨hev, hrest⟩ => ⟨he hev, hrest⟩⟩
  applied := h.applied
  withdrawn := h.withdrawn
  merged := h.merged

theorem servedItem_traced {s : State} {item : Item} (hwork : s.table.work = .serving item) (htable : s.TableOk)
    (hitem : item.isLookup = false) : (s.servedItem item).Traced (item.serveCommand = .serveFloorEvidence) s := by
  have hok := htable.recordsOk
  cases item with
  | own k o x y tag =>
    unfold Item.serveCommand State.servedItem
    dsimp only
    by_cases hc : k.isCliff = true
    · rw [if_pos hc, if_pos hc]
      exact (serveCliff_traced hok o x y tag).mono False.elim
    · rw [if_neg hc, if_neg hc]
      by_cases hr : k.isRug = true
      · rw [if_pos hr, if_pos hr]
        refine (serveEvidence_traced hok (fun kind hkind => ?_) o x y tag).mono fun _ => rfl
        cases hkind
        exact fun hk => hc ((Hazard.isCliff_iff k).2 hk)
      · rw [if_neg hr, if_neg hr]
        exact (serveOwn_traced hok k o x y tag).mono False.elim
  | floorClear x y tag => exact (serveEvidence_traced hok (rug := none) (by simp) .floor x y tag).mono fun _ => rfl
  | wallClear mx my ax ay tag => exact (serveClear_traced hok mx my ax ay).mono False.elim
  | report r =>
    have hconf := htable.report_conf hwork
    unfold State.servedItem
    dsimp only
    cases ha : r.action with
    | add => exact (serveAdd_traced hok hconf).mono False.elim
    | update => exact (serveUpdate_traced hok hconf).mono False.elim
    | withdraw => exact (serveWithdraw_traced hok r).mono False.elim
  | outcome o slot => exact (serveOutcome_traced hok o slot).mono False.elim
  | lookup requester id x y tag => cases hitem

/-! ### The records that own clearing retires -/

/-- A merge or a creation empties no slot. -/
theorem mergeOrCreate_at_of_some {w : State} (h : w.Sound) (hord : w.table.Ordered) {kind : Hazard} {o : Origin}
    {p : Int × Int} {rc : Recon} {j : Slot} {q : Record} (hq : w.at j = some q) :
    (w.mergeOrCreate kind o p rc).state.at j ≠ none := by
  unfold State.mergeOrCreate
  split
  next r hr =>
    dsimp only
    rw [State.putRecord_at (q := r.mergeOwn kind o p rc) h (mem_of_nearest hr).1 rfl]
    split
    · exact nofun
    · rw [hq]
      exact nofun
  · obtain ⟨i, -, heq⟩ | ⟨-, heq⟩ := State.placeRecord_cases h.slots hord (ownRecord kind o p rc)
    · have hat : (w.placeRecord (ownRecord kind o p rc)).1.at j =
          if j = i then some { ownRecord kind o p rc with slot := i } else w.at j := by
        rw [heq]
        exact recordAt_placed _ _ _ _
      dsimp only
      rw [hat]
      split
      · exact nofun
      · rw [hq]
        exact nofun
    · have hkept := congrArg (fun t : TableManager => recordAt t.records j) w.refused_table
      have hat : w.refused.at j = w.at j := hkept
      dsimp only
      rw [heq, hat, hq]
      exact nofun

section
variable {s : State} (h : s.RecordsOk) {i : Slot} {o : Record} (ho : s.at i = some o) (hold : o.reported = true)
include h ho hold

/-- A reported CLIFF that floor evidence retires is withdrawn (R61, R66). -/
theorem serveEvidence_withdraws {rug : Option Hazard} {origin : Origin} {x y : Int} {tag : Option Seq}
    (hgone : (s.serveEvidence rug origin x y tag).state.at i = none) :
    recordAt (s.serveEvidence rug origin x y tag).withdrawn i = some o := by
  obtain ⟨hmem, hslot⟩ := mem_of_recordAt ho
  have hcleared : (s.floorCleared ((s.reconcile tag).point x y)).at i = none := by
    cases hq : (s.floorCleared ((s.reconcile tag).point x y)).at i with
    | none => rfl
    | some q =>
      rw [State.serveEvidence_state] at hgone
      cases rug with
      | none => rw [← hgone]; exact hq.symm
      | some kind =>
        by_cases hp : rangeLimit < rangeOf ((s.reconcile tag).point x y).1 ((s.reconcile tag).point x y).2
        · rw [State.evidenced_of_far hp] at hgone
          rw [← hgone]
          exact hq.symm
        · rw [State.evidenced_of_near (not_lt.1 hp)] at hgone
          exact absurd hgone (mergeOrCreate_at_of_some (State.floorCleared_sound _ h.sound)
            (State.floorCleared_ordered _ h.ordered) hq)
  rw [(serveEvidence_withdrawn rug origin x y tag).1]
  refine (recordAt_eq_some_iff (h.sound.slots.sublist (List.filter_sublist.map _)) _ _).2
    ⟨List.mem_filter.2 ⟨hmem, ?_⟩, hslot⟩
  rw [floorCleared_at_of_none ho hcleared, hold]
  rfl

/-- A reported OBSTACLE that wall clearing retires is withdrawn (R62, R66). -/
theorem serveClear_withdraws {mx my ax ay : Int} (hgone : (s.serveClear mx my ax ay).state.at i = none) :
    recordAt (s.serveClear mx my ax ay).withdrawn i = some (o.clearOnce mx my ax ay) := by
  obtain ⟨hmem, hslot⟩ := mem_of_recordAt ho
  rw [State.serveClear_at h.sound, ho, Option.bind_some, Record.clearedOnce, ite_eq_left_iff] at hgone
  have hout : (o.clearOnce mx my ax ay).clearedOut = true := by
    by_contra hnot
    cases hgone hnot
  have hslots : ((s.table.records.map fun r => r.clearOnce mx my ax ay).map Record.slot).Nodup := by
    rw [List.map_map]
    have hsame : (Record.slot ∘ fun r : Record => r.clearOnce mx my ax ay) = Record.slot :=
      funext fun r => Record.clearOnce_slot mx my ax ay r
    rw [hsame]
    exact h.sound.slots
  refine (recordAt_eq_some_iff (hslots.sublist (List.filter_sublist.map _)) _ _).2
    ⟨List.mem_filter.2 ⟨List.mem_map.2 ⟨o, hmem, rfl⟩, ?_⟩, (Record.clearOnce_slot ..).trans hslot⟩
  rw [hout, (o.clearOnce_reported mx my ax ay).1, hold]
  rfl

/-- The third clause of O60: a reported record that own clearing retires earns a WITHDRAW. -/
theorem servedItem_withdraws {item : Item} (hv : (s.servedItem item).Traced (item.serveCommand = .serveFloorEvidence) s)
    (hitem : item.serveCommand = .serveFloorEvidence ∨ item.serveCommand = .serveWallClear)
    (hgone : (s.complete (s.servedItem item)).at i = none) :
    Reported .withdraw o (o.kind = .cliff) s (s.complete (s.servedItem item)) := by
  have hserved : (s.servedItem item).state.at i = none := by
    rw [complete_at_eq] at hgone
    have hsettled := Option.map_eq_none_iff.1 hgone
    obtain hat | ⟨r, hr, -, hat⟩ := hv.settled_checksOnly i
    · exact hat ▸ hsettled
    · rw [hsettled] at hat
      cases hat
  have hfound : ∃ w, recordAt (s.servedItem item).withdrawn i = some w := by
    cases item with
    | own k origin x y tag =>
      unfold Item.serveCommand at hitem
      unfold State.servedItem at hserved ⊢
      dsimp only at hitem hserved ⊢
      by_cases hc : k.isCliff = true
      · rw [if_pos hc] at hitem
        obtain hitem | hitem := hitem <;> cases hitem
      · rw [if_neg hc] at hitem hserved ⊢
        by_cases hr : k.isRug = true
        · rw [if_pos hr] at hserved ⊢
          exact ⟨o, serveEvidence_withdraws h ho hold hserved⟩
        · rw [if_neg hr] at hitem
          obtain hitem | hitem := hitem <;> cases hitem
    | floorClear x y tag => exact ⟨o, serveEvidence_withdraws h ho hold hserved⟩
    | wallClear mx my ax ay tag => exact ⟨_, serveClear_withdraws h ho hold hserved⟩
    | report r =>
      unfold Item.serveCommand at hitem
      dsimp only at hitem
      cases ha : r.action <;> rw [ha] at hitem <;> obtain hitem | hitem := hitem <;> cases hitem
    | outcome out slot => obtain hitem | hitem := hitem <;> cases hitem
    | lookup requester id x y tag => obtain hitem | hitem := hitem <;> cases hitem
  obtain ⟨w, hw⟩ := hfound
  exact hv.reported_withdrawn hw ho

end

/-! ### The refresh -/

theorem Hazard.sameShade_of_sameKind {a b : Hazard} (h : a.sameKind b = true) (hb : b = .obstacle ∨ b.isDock = true) :
    b.sameShade a = true := by
  cases a <;> cases b <;>
    simp_all [Hazard.sameKind, Hazard.sameShade, Hazard.isCliff, Hazard.isRug, Hazard.isObstacle, Hazard.isDock]

/-- A reported record that stays of its shade, and is no CLIFF, earns no event (R66). -/
theorem eventOf_of_sameShade {before : List Record} {q o : Record} (hold : recordAt before q.slot = some o)
    (hreported : q.reported = true) (hshade : q.kind.sameShade o.kind = true) (hcliff : q.kind.isCliff = false) :
    eventOf before none q = none := by
  unfold eventOf
  dsimp only
  rw [hold, hreported]
  dsimp only
  rw [hshade, hcliff]
  simp

theorem refresh_of_stands {before u : State} {m : Slot} {q : Record} (hq : u.at m = some q) :
    State.refresh before (some m) u =
      if (before.at m).any (fun o => o.reported) && eventOf before.table.records none q = none &&
        refreshAge ≤ u.report.ages[m] then u.sendReport .add q false
      else u := by
  obtain ⟨-, rfl⟩ := mem_of_recordAt hq
  unfold State.refresh
  rw [Option.bind_some, show recordAt u.table.records q.slot = some q from hq]
  rfl

/-- The frame of a refresh waits in the queue at the end of the completion (R93, R96). -/
theorem State.complete_refresh_queued {s : State} {v : Served} {q : Record}
    (hroom : queueLoad v.state.link.queue + s.framesOf v ≤ txQueueSize) (hmerged : v.merged.isSome = true)
    (hsent : s.reportsOf v v.sorted.settleChecks.1 =
      (State.emitEvents s v.withdrawn v.applied v.sorted.settleChecks.1).sendReport .add q false) :
    Queued (reportFrame .add q v.state.table.tag) q.kind.isCliff (s.complete v) := by
  rw [State.framesOf, hmerged, Bool.toNat_true] at hroom
  have hsettled := (v.sorted_settled_keeps (by omega)).1
  have hevents := (emitEvents_keeps s v.withdrawn v.applied v.sorted.settleChecks.1 (by omega)).1
  have hload := (sendReport_keeps (State.emitEvents s v.withdrawn v.applied v.sorted.settleChecks.1) .add q false
    (by omega)).1
  have hqueued := sendReport_queued (State.emitEvents s v.withdrawn v.applied v.sorted.settleChecks.1) .add q false
    (by omega)
  have htag : (State.emitEvents s v.withdrawn v.applied v.sorted.settleChecks.1).table.tag = v.state.table.tag :=
    (foldl_eventAt_tag s v.withdrawn v.applied _ _).trans (settleChecks_tag_full _).1
  have hkept := complete_keeps_reports s v
  rw [hsent] at hkept
  rw [← htag]
  simpa using hkept.queued (by omega) rfl hqueued

/-- A change that leaves each record its slot, kind and point leaves it the nearest (R56). -/
theorem NearestOf.map {g : Record → Record}
    (hg : ∀ q, (g q).slot = q.slot ∧ (g q).kind = q.kind ∧ (g q).x = q.x ∧ (g q).y = q.y) {rs : List Record}
    {pass : Hazard → Bool} {x y : Int} {radius : Nat} {r : Record}
    (hr : NearestOf rs (fun q => pass q.kind) x y radius r) :
    NearestOf (rs.map g) (fun q => pass q.kind) x y radius (g r) := by
  obtain ⟨hmem, hpass, hnear, hbest⟩ := hr
  obtain ⟨hslot, hkind, hx, hy⟩ := hg r
  refine ⟨List.mem_map.2 ⟨r, hmem, rfl⟩, ?_, ?_, fun q hq hqpass hqnear => ?_⟩
  · dsimp only
    rw [hkind]
    exact hpass
  · rw [hx, hy]
    exact hnear
  · obtain ⟨q', hq', rfl⟩ := List.mem_map.1 hq
    obtain ⟨hqslot, hqkind, hqx, hqy⟩ := hg q'
    dsimp only at hqpass
    rw [hqkind] at hqpass
    rw [hqx, hqy] at hqnear
    rw [hslot, hx, hy, hqslot, hqx, hqy]
    exact hbest q' hq' hqpass hqnear

/-- The nearest record after the clear runs have been reset (R60). -/
theorem wallReset_nearest {s : State} {kind : Hazard} (o : Origin) {pass : Hazard → Bool} {x y : Int} {radius : Nat}
    {r : Record} (hr : NearestOf s.table.records (fun q => pass q.kind) x y radius r) :
    ∃ r', NearestOf (s.wallReset kind o).table.records (fun q => pass q.kind) x y radius r' ∧ r'.slot = r.slot ∧
      r'.kind = r.kind ∧ r'.reported = r.reported := by
  rw [State.wallReset_records]
  split
  · refine ⟨_, hr.map fun q => ?_, ?_⟩
    · split <;> exact ⟨rfl, rfl, rfl, rfl⟩
    · split <;> exact ⟨rfl, rfl, rfl⟩
  · exact ⟨r, hr, rfl, rfl, rfl⟩

section
variable {s : State} {kind : Hazard} {origin : Origin} {x y : Int} {tag : Option Seq} {r : Record}
  (h : s.RecordsOk) (hkind : kind = .obstacle ∨ kind.isDock = true)
  (hp : rangeOf ((s.reconcile tag).point x y).1 ((s.reconcile tag).point x y).2 ≤ rangeLimit)
  (hr : NearestOf s.table.records (fun q => q.kind.sameKind kind) ((s.reconcile tag).point x y).1
    ((s.reconcile tag).point x y).2 (mergeRadius kind) r) (hold : r.reported = true)
include h hkind hp hr hold

/-- The reported record of the merge after the service: of the observation's kind, under no check, without an event (R57,
R66). -/
theorem serveOwn_refreshes : ∃ q, (s.serveOwn kind origin x y tag).sorted.settleChecks.1.at r.slot = some q ∧
    (s.serveOwn kind origin x y tag).merged = some r.slot ∧ eventOf s.table.records none q = none ∧
    q.kind.isCliff = false := by
  obtain ⟨r', hr', hslot, hkind', hreported⟩ := wallReset_nearest (kind := kind) origin
    (pass := fun k => k.sameKind kind) hr
  have htrim := wallReset_trimmed h kind origin
  have htarget : mergeTarget (s.wallReset kind origin).table.records kind ((s.reconcile tag).point x y).1
      ((s.reconcile tag).point x y).2 = some r' := (nearest_eq_some_iff htrim.sound.slots ..).2 hr'
  have hserved : s.serveOwn kind origin x y tag =
      { state := (s.wallReset kind origin).putRecord
          (r'.mergeOwn kind origin ((s.reconcile tag).point x y) (s.reconcile tag))
        merged := some r'.slot } := by
    rw [State.serveOwn_of_near hp, State.mergeOrCreate, htarget]
  have hcliff : kind.isCliff = false := by
    obtain rfl | hdock := hkind
    · rfl
    · cases kind <;> simp_all [Hazard.isDock, Hazard.isCliff]
  obtain ⟨-, hcheck⟩ := Record.mergeOwn_check_of_not_cliff hcliff r' origin ((s.reconcile tag).point x y) (s.reconcile tag)
  have hat : (s.serveOwn kind origin x y tag).state.at r.slot =
      some (r'.mergeOwn kind origin ((s.reconcile tag).point x y) (s.reconcile tag)) := by
    rw [hserved]
    exact (State.putRecord_at (q := r'.mergeOwn kind origin ((s.reconcile tag).point x y) (s.reconcile tag)) htrim.sound
      hr'.1 rfl _).trans (if_pos hslot.symm)
  have hshade : kind.sameShade r.kind = true := Hazard.sameShade_of_sameKind hr.2.1 hkind
  refine ⟨r'.mergeOwn kind origin ((s.reconcile tag).point x y) (s.reconcile tag), ?_,
    by rw [hserved]; exact congrArg some hslot, ?_, hcliff⟩
  · obtain hsame | ⟨q, hq, hdeferred, -⟩ := (serveOwn_traced h kind origin x y tag).settled_checksOnly r.slot
    · exact hsame.trans hat
    · rw [hat] at hq
      cases hq
      rw [hcheck] at hdeferred
      cases hdeferred
  · have hhere : recordAt s.table.records r'.slot = some r :=
      (recordAt_eq_some_iff h.sound.slots _ _).2 ⟨hr.1, hslot.symm⟩
    exact eventOf_of_sameShade hhere (hreported.trans hold) hshade hcliff

/-- The last clause of O60: the merge into a reported record re-sends it when its report age is 20 or more. -/
theorem complete_serveOwn_refreshes :
    (∀ u, 20 ≤ s.report.ages[r.slot] → (s.complete (s.serveOwn kind origin x y tag)).at r.slot = some u →
      Reported .add u false s (s.complete (s.serveOwn kind origin x y tag))) ∧
    (s.report.ages[r.slot] < 20 →
      (s.complete (s.serveOwn kind origin x y tag)).report.ages[r.slot] = s.report.ages[r.slot]) := by
  have hv := serveOwn_traced h kind origin x y tag
  obtain ⟨q, hq, hmerged, hevent, hcliff⟩ := serveOwn_refreshes h hkind hp hr hold
  obtain ⟨-, hslot⟩ := mem_of_recordAt hq
  obtain ⟨happlied, hwithdrawn⟩ : (s.serveOwn kind origin x y tag).applied = none ∧
      (s.serveOwn kind origin x y tag).withdrawn = [] := by
    rw [State.serveOwn_of_near hp]
    exact mergeOrCreate_applied _ _ _ _ _
  have hframes : (s.serveOwn kind origin x y tag).sorted.settleChecks.1.framesHere s [] none r.slot = 0 := by
    rw [State.framesHere, State.eventHere, hq, Option.bind_some, hevent]
    rfl
  have hemitted : (State.emitEvents s [] none (s.serveOwn kind origin x y tag).sorted.settleChecks.1).at r.slot =
      some q := by
    rw [emitEvents_at, hq, Option.map_some, Record.afterEvent_of_none s none hevent]
  have hages : (State.emitEvents s [] none (s.serveOwn kind origin x y tag).sorted.settleChecks.1).report.ages[r.slot] =
      s.report.ages[r.slot] := by
    rw [emitEvents_ages, hframes, if_neg (lt_irrefl 0), settleChecks_ages]
    exact congrArg (fun ages => ages[r.slot]) hv.ages
  have hreports : s.reportsOf (s.serveOwn kind origin x y tag)
        (s.serveOwn kind origin x y tag).sorted.settleChecks.1 =
      if 20 ≤ s.report.ages[r.slot] then
        (State.emitEvents s [] none (s.serveOwn kind origin x y tag).sorted.settleChecks.1).sendReport .add q false
      else State.emitEvents s [] none (s.serveOwn kind origin x y tag).sorted.settleChecks.1 := by
    have hhere : recordAt s.table.records r.slot = some r := (recordAt_eq_some_iff h.sound.slots _ _).2 ⟨hr.1, rfl⟩
    rw [State.reportsOf, hmerged, hwithdrawn, happlied, refresh_of_stands hemitted]
    refine if_congr ?_ rfl rfl
    rw [show s.at r.slot = some r from hhere, hevent, hages]
    exact ⟨fun hc => of_decide_eq_true (Bool.and_eq_true_iff.1 hc).2, fun hdue =>
      Bool.and_eq_true_iff.2 ⟨Bool.and_eq_true_iff.2 ⟨hold, decide_eq_true rfl⟩, decide_eq_true hdue⟩⟩
  refine ⟨fun u hdue hu => ?_, fun hyoung => ?_⟩
  · rw [complete_at_eq, hq, Option.map_some, happlied, Record.afterEvent_of_none s none hevent] at hu
    cases hu
    rw [if_pos hdue] at hreports
    refine Reported.intro hslot ?_ fun hqueue hrest => ?_
    · rw [complete_ages, hreports, sendReport_ages, if_pos hslot.symm]
    · have hqueued := State.complete_refresh_queued (q := q) (hv.room hqueue hrest) (by rw [hmerged]; rfl)
        (by rw [happlied, hwithdrawn]; exact hreports)
      rwa [hv.tag, hcliff] at hqueued
  · rw [if_neg (not_le.2 hyoung)] at hreports
    rw [complete_ages, hreports, hages]

end

/-- Settles O60: each clause from what the item's service leaves to report; the frames are those of the slots' events, of
the records that clearing retired, and of the refresh. -/
theorem reportEventsAreMade : Obligations.ReportEventsAreMade := by
  intro s item hrun hwork hitem htable
  have hok := htable.recordsOk
  have hv := servedItem_traced hwork htable hitem
  refine ⟨_, exec_serveCommand hrun hwork hitem, fun i r hr hown hkind => hv.adds hr hown hkind,
    fun i o r ho hold hr hreported hfree hevidence hchange => hv.updates ho hold hr hreported hfree hevidence hchange,
    fun i o hclearing ho hold hgone => servedItem_withdraws hok ho hold hv hclearing hgone,
    fun kind origin x y tag r hown hkind => ?_⟩
  subst hown
  have hcliff : ¬ kind.isCliff = true := by
    obtain rfl | hdock := hkind
    · decide
    · cases kind <;> simp_all [Hazard.isDock, Hazard.isCliff]
  have hrug : ¬ kind.isRug = true := by
    obtain rfl | hdock := hkind
    · decide
    · cases kind <;> simp_all [Hazard.isDock, Hazard.isRug]
  have hradius : mergeRadius kind = if kind = .obstacle then 40 else 200 := by
    obtain rfl | hdock := hkind
    · rfl
    · cases kind <;> simp_all [mergeRadius, Hazard.isDock]
  have hserved : s.servedItem (.own kind origin x y tag) = s.serveOwn kind origin x y tag := by
    unfold State.servedItem
    dsimp only
    rw [if_neg hcliff, if_neg hrug]
  rw [hserved, ← hradius]
  exact fun hp hr hreported => complete_serveOwn_refreshes hok hkind hp hr hreported

end Sys2Proof.Machine
end
